-- ==== Sys2Proof/Word.lean ====
section
/-! DEFINITION. The widths of the manual's values and their plainest arithmetic: serial comparison, saturating counts,
clamping. -/

namespace Sys2Proof

/-- A byte of a frame, an image or a buffer. -/
abbrev Byte := BitVec 8

/-- A 32-bit generation, sequence number or counter, compared in serial order (00_scope, "Sequence numbers and generations"). -/
abbrev Word := BitVec 32

/-- `a` is newer than `b` when (a − b) modulo 2^32 lies in 1..2,147,483,647 (00_scope). -/
def newer (a b : Word) : Bool :=
  let d := (a - b).toNat
  decide (1 ≤ d) && decide (d ≤ 2147483647)

/-- "At or above" in serial order. -/
def atOrAbove (a b : Word) : Bool := (a == b) || newer a b

/-- One more, stopping at 65,535 (the 16-bit counts of R37, R48, R112 and R125). -/
def satInc (c : BitVec 16) : BitVec 16 := if c = 65535#16 then c else c + 1#16

/-- The nearest value of lo..hi to v (R3: a knob stops at its end). -/
def clampInt (lo hi v : Int) : Int := max lo (min hi v)

/-- 10 to the power e. -/
def pow10 (e : Nat) : Nat := 10 ^ e

end Sys2Proof
end

