-- ==== Sys2Proof/Config.lean ====
section
/-! DEFINITION. What the part fixes: its two links, four channels, and the sizes of its buffers. -/

namespace Sys2Proof

/-- The two processor links, peers of each other (00_scope). -/
inductive Link where
  | console
  | remote
  deriving DecidableEq, Repr

/-- The channels CH1..CH4, which are also the numbers of the intensity planes (R130). -/
inductive Chan where
  | ch1
  | ch2
  | ch3
  | ch4
  deriving DecidableEq, Repr

/-- The four channels in ascending order. -/
def Config.chans : List Chan := [.ch1, .ch2, .ch3, .ch4]

/-- Acquisition memory: 64 MiB (R79). -/
def Config.acquisitionBytes : Nat := 67108864

/-- The largest depth × channels that a record may take (R14). -/
def Config.maxRecordSamples : Nat := 33554432

/-- The waveform area (R130). -/
def Config.columns : Nat := 700
def Config.rows : Nat := 400

/-- The frame (R153). -/
def Config.frameWidth : Nat := 800
def Config.frameHeight : Nat := 480

/-- The longest payload of a request frame (R190). -/
def Config.maxPayload : Nat := 4200

/-- Nanoseconds of a millisecond: timers that the manual gives in milliseconds are held in nanoseconds. -/
def Config.nsPerMs : Nat := 1000000

/-- The debounce time, the quiet time and the time limit of an EEPROM access (R30, R27, R168), in nanoseconds. -/
def Config.debounceTime : Nat := 8 * Config.nsPerMs
def Config.quietTime : Nat := 2000 * Config.nsPerMs
def Config.accessTime : Nat := 20 * Config.nsPerMs

/-- The transfer codes of a link (R187, R202). -/
def Config.writeCode : BitVec 8 := 0xA5#8
def Config.readCode : BitVec 8 := 0x5A#8

/-- The EEPROM: the stride of its slots, the bytes of a saved image and of a page (R167). -/
def Config.slotStride : Nat := 256
def Config.imageBytes : Nat := 192
def Config.pageSize : Nat := 32

/-! ### Free values -/

/-- Which of several things that the manual leaves open happens first, at the n-th such choice: a free value (log 5). -/
opaque Config.freeChoice : Nat → Nat

/-- The byte that carries a saved-by code which R169 does not list: a free value (log 26). -/
opaque Config.unlistedSavedBy : BitVec 7 → BitVec 8

end Sys2Proof
end

