-- ==== Sys2Proof/Syntax.lean ====
section
/-! DEFINITION. The commands of the part: one constructor per row of the opcode table. A request carries its link, the
frame's tag and the payload items at their widths in R202, so that a value outside its set can be offered and refused. -/

namespace Sys2Proof

/-- The 72 commands. `l` is the link, `tag` the tag of the request frame (R202). -/
inductive Instr where
  -- setup requests (chapter 1)
  | setupGet (l : Link) (tag : Byte) (ids : List Byte)
  | setupChanges (l : Link) (tag : Byte) (gen : Word)
  | setupSet (l : Link) (tag : Byte) (field : Byte) (value : Word)
  | setupDefault (l : Link) (tag : Byte)
  | batchOpen (l : Link) (tag : Byte)
  | batchStage (l : Link) (tag : Byte) (field : Byte) (value : Word)
  | batchCommit (l : Link) (tag : Byte) (form : Option Byte)
  | batchDrop (l : Link) (tag : Byte)
  -- panel requests (chapters 2 and 3)
  | panelTake (l : Link) (tag : Byte) (m : Byte)
  | panelQueueConfig (l : Link) (tag : Byte) (mode threshold setting : Byte)
  | panelQueueGet (l : Link) (tag : Byte)
  | panelRouteGet (l : Link) (tag : Byte) (index : Byte)
  | panelRouteSet (l : Link) (tag : Byte)
      (index enabled matchKind a b kinds cond exempt action fieldBase stride stepKind : Byte)
  | panelDefaultGet (l : Link) (tag : Byte)
  | panelDefaultSet (l : Link) (tag : Byte) (action : Byte)
  | panelLedSet (l : Link) (tag : Byte) (led value : Byte)
  | panelLedGet (l : Link) (tag : Byte) (led : Byte)
  | panelLedConfig (l : Link) (tag : Byte) (led source op : Byte) (opValue : Word)
  | lockoutSet (l : Link) (tag : Byte) (state : Byte)
  -- acquisition requests (chapter 5)
  | acqRun (l : Link) (tag : Byte)
  | acqSingle (l : Link) (tag : Byte)
  | acqStop (l : Link) (tag : Byte)
  | acqForce (l : Link) (tag : Byte)
  | acqStatus (l : Link) (tag : Byte)
  -- record requests (chapter 6)
  | recList (l : Link) (tag : Byte)
  | recHeader (l : Link) (tag : Byte) (number : Word) (first : BitVec 16) (m : Byte)
  | recRead (l : Link) (tag : Byte) (number : Word) (chan : Byte) (segment : BitVec 16) (first : Word)
      (count : BitVec 16) (format : Byte)
  | recPin (l : Link) (tag : Byte) (number : Word)
  | recUnpin (l : Link) (tag : Byte) (number : Word)
  | recRelease (l : Link) (tag : Byte) (number : Word)
  | recSubscribe (l : Link) (tag : Byte) (value : Byte)
  | recNoticeConfig (l : Link) (tag : Byte) (pace : Byte) (setting : BitVec 16)
  | recNoticeGet (l : Link) (tag : Byte)
  -- display requests (chapters 7 and 8)
  | dispStatus (l : Link) (tag : Byte)
  | dispClear (l : Link) (tag : Byte)
  | dispOverlay (l : Link) (tag : Byte) (x y w h : BitVec 16) (indexes : List Byte)
  | dispOverlayFill (l : Link) (tag : Byte) (x y w h : BitVec 16) (index : Byte)
  | dispPalette (l : Link) (tag : Byte) (first m : Byte) (colours : List (Byte × Byte × Byte))
  | dispPaletteGet (l : Link) (tag : Byte) (first m : Byte)
  -- store requests (chapters 9 and 10)
  | storeSave (l : Link) (tag : Byte) (slot : Byte) (label : Vector Byte 8)
  | storeRecall (l : Link) (tag : Byte) (slot : Byte)
  | storeErase (l : Link) (tag : Byte) (slot : Byte)
  | storeLock (l : Link) (tag : Byte) (slot value : Byte)
  | storeList (l : Link) (tag : Byte)
  | storeCancel (l : Link) (tag : Byte)
  | storeResult (l : Link) (tag : Byte)
  -- link and power requests (chapters 10 and 11)
  | linkStatus (l : Link) (tag : Byte)
  | linkConfig (l : Link) (tag : Byte) (style enables : Byte)
  | linkClearNotices (l : Link) (tag : Byte) (notices : Byte)
  | powerStandby (l : Link) (tag : Byte)
  -- link events (chapter 10); a frame is every byte after the transfer code
  | frameMalformed (l : Link) (frame : List Byte)
  | writeRefusedBusy (l : Link) (frame : List Byte)
  | linkResetAssert (l : Link)
  | linkResetRelease (l : Link)
  -- panel events (chapter 2); true is pressed, and high
  | keyLineChange (key : Fin 64) (pressed : Bool)
  | debounceExpiry (key : Fin 64)
  | encoderLineChange (enc : Fin 12) (a b : Bool)
  -- timer events
  | queueTimerExpiry (l : Link)
  | recordTimerExpiry (l : Link)
  | quietTimerExpiry
  | holdoffExpiry
  | autoTimerExpiry
  | frameEvent
  -- data events; core 0 is converter core 1
  | sample (core : Fin 4) (code : Byte)
  | spanPass
  | transmissionComplete
  -- display lines; true is high
  | panelPresentChange (high : Bool)
  | lockChange (high : Bool)
  -- EEPROM events
  | eepromReadComplete (image : Vector Byte 192)
  | pageWriteComplete
  | eepromAccessFault
  -- power
  | powerOn (straps : BitVec 2)
  deriving DecidableEq, Repr

end Sys2Proof
end

