-- ==== Sys2Proof/WellFormed.lean ====
section
/-! DEFINITION. Which commands are well formed: the requests whose payload length depends on its own contents must suit
their kind (R190, R202). The part answers the others MALFORMED; every value a payload item holds is well formed, since a
value outside its set is the owner's to refuse. -/

namespace Sys2Proof

/-- SETUP.GET: 1 to 44 field IDs (R5, R202). -/
def suitsSetupGet (ids : List Byte) : Bool := decide (1 ≤ ids.length) && decide (ids.length ≤ 44)

/-- DISP.OVERLAY: 8 + w × h bytes, at most 4,200 (R159, R190). -/
def suitsOverlay (w h : BitVec 16) (indexes : List Byte) : Bool :=
  decide (indexes.length = w.toNat * h.toNat) && decide (8 + indexes.length ≤ Config.maxPayload)

/-- DISP.PALETTE: 2 + 3m bytes (R161). -/
def suitsPalette (m : Byte) (colours : List (Byte × Byte × Byte)) : Bool := decide (colours.length = m.toNat)

/-- The command's payload length suits its kind. -/
def Instr.wf : Instr → Bool
  | .setupGet _ _ ids => suitsSetupGet ids
  | .dispOverlay _ _ _ _ w h indexes => suitsOverlay w h indexes
  | .dispPalette _ _ _ m colours => suitsPalette m colours
  | _ => true

end Sys2Proof
end

