-- ==== Sys2Proof/Decode.lean ====
section
/-! DEFINITION. The layouts of request frames (R202): kind codes, frame to command and command to frame. The opcode table
gives no row any bits, so `decodeTableWord` reads no command. -/

namespace Sys2Proof

/-! ### Little-endian items (R202) -/

def le16 (v : BitVec 16) : List Byte := [v.extractLsb' 0 8, v.extractLsb' 8 8]

def le32 (v : Word) : List Byte := [v.extractLsb' 0 8, v.extractLsb' 8 8, v.extractLsb' 16 8, v.extractLsb' 24 8]

def le48 (v : BitVec 48) : List Byte :=
  [v.extractLsb' 0 8, v.extractLsb' 8 8, v.extractLsb' 16 8, v.extractLsb' 24 8, v.extractLsb' 32 8, v.extractLsb' 40 8]

def half (a b : Byte) : BitVec 16 := b ++ a

def word (a b c d : Byte) : Word := d ++ c ++ b ++ a

/-- The colours of a palette payload, three bytes each (R161, R202). -/
def triples : List Byte → List (Byte × Byte × Byte)
  | r :: g :: b :: rest => (r, g, b) :: triples rest
  | _ => []

def flattenTriples : List (Byte × Byte × Byte) → List Byte
  | [] => []
  | (r, g, b) :: rest => r :: g :: b :: flattenTriples rest

/-! ### Kind codes -/

/-- The kind code of a request (the table of R202); none for the commands that are not requests. -/
def kindOf : Instr → Option Byte
  | .setupGet .. => some 0x10#8
  | .setupChanges .. => some 0x11#8
  | .setupSet .. => some 0x12#8
  | .setupDefault .. => some 0x13#8
  | .batchOpen .. => some 0x14#8
  | .batchStage .. => some 0x15#8
  | .batchCommit .. => some 0x16#8
  | .batchDrop .. => some 0x17#8
  | .panelTake .. => some 0x20#8
  | .panelQueueConfig .. => some 0x21#8
  | .panelQueueGet .. => some 0x22#8
  | .panelRouteGet .. => some 0x23#8
  | .panelRouteSet .. => some 0x24#8
  | .panelDefaultGet .. => some 0x25#8
  | .panelDefaultSet .. => some 0x26#8
  | .panelLedSet .. => some 0x27#8
  | .panelLedGet .. => some 0x28#8
  | .panelLedConfig .. => some 0x29#8
  | .lockoutSet .. => some 0x2A#8
  | .acqRun .. => some 0x30#8
  | .acqSingle .. => some 0x31#8
  | .acqStop .. => some 0x32#8
  | .acqForce .. => some 0x33#8
  | .acqStatus .. => some 0x34#8
  | .recList .. => some 0x40#8
  | .recHeader .. => some 0x41#8
  | .recRead .. => some 0x42#8
  | .recPin .. => some 0x43#8
  | .recUnpin .. => some 0x44#8
  | .recRelease .. => some 0x45#8
  | .recSubscribe .. => some 0x46#8
  | .recNoticeConfig .. => some 0x47#8
  | .recNoticeGet .. => some 0x48#8
  | .dispStatus .. => some 0x50#8
  | .dispClear .. => some 0x51#8
  | .dispOverlay .. => some 0x52#8
  | .dispOverlayFill .. => some 0x53#8
  | .dispPalette .. => some 0x54#8
  | .dispPaletteGet .. => some 0x55#8
  | .storeSave .. => some 0x60#8
  | .storeRecall .. => some 0x61#8
  | .storeErase .. => some 0x62#8
  | .storeLock .. => some 0x63#8
  | .storeList .. => some 0x64#8
  | .storeCancel .. => some 0x65#8
  | .storeResult .. => some 0x66#8
  | .linkStatus .. => some 0x70#8
  | .linkConfig .. => some 0x71#8
  | .linkClearNotices .. => some 0x72#8
  | .powerStandby .. => some 0x78#8
  | .frameMalformed .. => none
  | .writeRefusedBusy .. => none
  | .linkResetAssert .. => none
  | .linkResetRelease .. => none
  | .keyLineChange .. => none
  | .debounceExpiry .. => none
  | .encoderLineChange .. => none
  | .queueTimerExpiry .. => none
  | .recordTimerExpiry .. => none
  | .quietTimerExpiry => none
  | .holdoffExpiry => none
  | .autoTimerExpiry => none
  | .frameEvent => none
  | .sample .. => none
  | .spanPass => none
  | .transmissionComplete => none
  | .panelPresentChange .. => none
  | .lockChange .. => none
  | .eepromReadComplete .. => none
  | .pageWriteComplete => none
  | .eepromAccessFault => none
  | .powerOn .. => none

/-! ### Frame to command -/

/-- The request that a payload of kind `kind` spells, where its length suits the kind (R190's kind and length checks). -/
def decodePayload (l : Link) (tag kind : Byte) (p : List Byte) : Option Instr :=
  match kind, p with
  | 0x10#8, ids => if suitsSetupGet ids then some (.setupGet l tag ids) else none
  | 0x11#8, [a, b, c, d] => some (.setupChanges l tag (word a b c d))
  | 0x12#8, [f, a, b, c, d] => some (.setupSet l tag f (word a b c d))
  | 0x13#8, [] => some (.setupDefault l tag)
  | 0x14#8, [] => some (.batchOpen l tag)
  | 0x15#8, [f, a, b, c, d] => some (.batchStage l tag f (word a b c d))
  | 0x16#8, [] => some (.batchCommit l tag none)
  | 0x16#8, [f] => some (.batchCommit l tag (some f))
  | 0x17#8, [] => some (.batchDrop l tag)
  | 0x20#8, [m] => some (.panelTake l tag m)
  | 0x21#8, [m, t, s] => some (.panelQueueConfig l tag m t s)
  | 0x22#8, [] => some (.panelQueueGet l tag)
  | 0x23#8, [i] => some (.panelRouteGet l tag i)
  | 0x24#8, [i, en, mk, a, b, ks, co, ex, ac, fb, st, sk] =>
      some (.panelRouteSet l tag i en mk a b ks co ex ac fb st sk)
  | 0x25#8, [] => some (.panelDefaultGet l tag)
  | 0x26#8, [a] => some (.panelDefaultSet l tag a)
  | 0x27#8, [n, v] => some (.panelLedSet l tag n v)
  | 0x28#8, [n] => some (.panelLedGet l tag n)
  | 0x29#8, [n, s, o, a, b, c, d] => some (.panelLedConfig l tag n s o (word a b c d))
  | 0x2A#8, [s] => some (.lockoutSet l tag s)
  | 0x30#8, [] => some (.acqRun l tag)
  | 0x31#8, [] => some (.acqSingle l tag)
  | 0x32#8, [] => some (.acqStop l tag)
  | 0x33#8, [] => some (.acqForce l tag)
  | 0x34#8, [] => some (.acqStatus l tag)
  | 0x40#8, [] => some (.recList l tag)
  | 0x41#8, [a, b, c, d, e, f, m] => some (.recHeader l tag (word a b c d) (half e f) m)
  | 0x42#8, [a, b, c, d, ch, s0, s1, f0, f1, f2, f3, n0, n1, fmt] =>
      some (.recRead l tag (word a b c d) ch (half s0 s1) (word f0 f1 f2 f3) (half n0 n1) fmt)
  | 0x43#8, [a, b, c, d] => some (.recPin l tag (word a b c d))
  | 0x44#8, [a, b, c, d] => some (.recUnpin l tag (word a b c d))
  | 0x45#8, [a, b, c, d] => some (.recRelease l tag (word a b c d))
  | 0x46#8, [v] => some (.recSubscribe l tag v)
  | 0x47#8, [p, s0, s1] => some (.recNoticeConfig l tag p (half s0 s1))
  | 0x48#8, [] => some (.recNoticeGet l tag)
  | 0x50#8, [] => some (.dispStatus l tag)
  | 0x51#8, [] => some (.dispClear l tag)
  | 0x52#8, x0 :: x1 :: y0 :: y1 :: w0 :: w1 :: h0 :: h1 :: ix =>
      if suitsOverlay (half w0 w1) (half h0 h1) ix then
        some (.dispOverlay l tag (half x0 x1) (half y0 y1) (half w0 w1) (half h0 h1) ix)
      else none
  | 0x53#8, [x0, x1, y0, y1, w0, w1, h0, h1, i] =>
      some (.dispOverlayFill l tag (half x0 x1) (half y0 y1) (half w0 w1) (half h0 h1) i)
  | 0x54#8, f :: m :: cs =>
      if cs.length = 3 * m.toNat then some (.dispPalette l tag f m (triples cs)) else none
  | 0x55#8, [f, m] => some (.dispPaletteGet l tag f m)
  | 0x60#8, [s, a, b, c, d, e, f, g, h] => some (.storeSave l tag s #v[a, b, c, d, e, f, g, h])
  | 0x61#8, [s] => some (.storeRecall l tag s)
  | 0x62#8, [s] => some (.storeErase l tag s)
  | 0x63#8, [s, v] => some (.storeLock l tag s v)
  | 0x64#8, [] => some (.storeList l tag)
  | 0x65#8, [] => some (.storeCancel l tag)
  | 0x66#8, [] => some (.storeResult l tag)
  | 0x70#8, [] => some (.linkStatus l tag)
  | 0x71#8, [s, e] => some (.linkConfig l tag s e)
  | 0x72#8, [n] => some (.linkClearNotices l tag n)
  | 0x78#8, [] => some (.powerStandby l tag)
  | _, _ => none

/-- The form check of R190 and then the kind and length checks, on the bytes after the transfer code; none is MALFORMED. -/
def decodeFrame (l : Link) (frame : List Byte) : Option Instr :=
  match frame with
  | tag :: kind :: lo :: hi :: payload =>
      let n := (half lo hi).toNat
      if n ≤ Config.maxPayload ∧ payload.length = n then decodePayload l tag kind payload else none
  | _ => none

/-! ### Command to frame -/

/-- Link, tag and payload of a request, the items in the order its rule lists them (R202). -/
def payloadOf : Instr → Option (Link × Byte × List Byte)
  | .setupGet l t ids => some (l, t, ids)
  | .setupChanges l t g => some (l, t, le32 g)
  | .setupSet l t f v => some (l, t, f :: le32 v)
  | .setupDefault l t => some (l, t, [])
  | .batchOpen l t => some (l, t, [])
  | .batchStage l t f v => some (l, t, f :: le32 v)
  | .batchCommit l t none => some (l, t, [])
  | .batchCommit l t (some f) => some (l, t, [f])
  | .batchDrop l t => some (l, t, [])
  | .panelTake l t m => some (l, t, [m])
  | .panelQueueConfig l t m th s => some (l, t, [m, th, s])
  | .panelQueueGet l t => some (l, t, [])
  | .panelRouteGet l t i => some (l, t, [i])
  | .panelRouteSet l t i en mk a b ks co ex ac fb st sk => some (l, t, [i, en, mk, a, b, ks, co, ex, ac, fb, st, sk])
  | .panelDefaultGet l t => some (l, t, [])
  | .panelDefaultSet l t a => some (l, t, [a])
  | .panelLedSet l t n v => some (l, t, [n, v])
  | .panelLedGet l t n => some (l, t, [n])
  | .panelLedConfig l t n s o v => some (l, t, n :: s :: o :: le32 v)
  | .lockoutSet l t s => some (l, t, [s])
  | .acqRun l t => some (l, t, [])
  | .acqSingle l t => some (l, t, [])
  | .acqStop l t => some (l, t, [])
  | .acqForce l t => some (l, t, [])
  | .acqStatus l t => some (l, t, [])
  | .recList l t => some (l, t, [])
  | .recHeader l t n f m => some (l, t, le32 n ++ le16 f ++ [m])
  | .recRead l t n c s f k fmt => some (l, t, le32 n ++ [c] ++ le16 s ++ le32 f ++ le16 k ++ [fmt])
  | .recPin l t n => some (l, t, le32 n)
  | .recUnpin l t n => some (l, t, le32 n)
  | .recRelease l t n => some (l, t, le32 n)
  | .recSubscribe l t v => some (l, t, [v])
  | .recNoticeConfig l t p s => some (l, t, p :: le16 s)
  | .recNoticeGet l t => some (l, t, [])
  | .dispStatus l t => some (l, t, [])
  | .dispClear l t => some (l, t, [])
  | .dispOverlay l t x y w h ix => some (l, t, le16 x ++ le16 y ++ le16 w ++ le16 h ++ ix)
  | .dispOverlayFill l t x y w h i => some (l, t, le16 x ++ le16 y ++ le16 w ++ le16 h ++ [i])
  | .dispPalette l t f m cs => some (l, t, f :: m :: flattenTriples cs)
  | .dispPaletteGet l t f m => some (l, t, [f, m])
  | .storeSave l t s label => some (l, t, s :: label.toList)
  | .storeRecall l t s => some (l, t, [s])
  | .storeErase l t s => some (l, t, [s])
  | .storeLock l t s v => some (l, t, [s, v])
  | .storeList l t => some (l, t, [])
  | .storeCancel l t => some (l, t, [])
  | .storeResult l t => some (l, t, [])
  | .linkStatus l t => some (l, t, [])
  | .linkConfig l t s e => some (l, t, [s, e])
  | .linkClearNotices l t n => some (l, t, [n])
  | .powerStandby l t => some (l, t, [])
  | .frameMalformed .. => none
  | .writeRefusedBusy .. => none
  | .linkResetAssert .. => none
  | .linkResetRelease .. => none
  | .keyLineChange .. => none
  | .debounceExpiry .. => none
  | .encoderLineChange .. => none
  | .queueTimerExpiry .. => none
  | .recordTimerExpiry .. => none
  | .quietTimerExpiry => none
  | .holdoffExpiry => none
  | .autoTimerExpiry => none
  | .frameEvent => none
  | .sample .. => none
  | .spanPass => none
  | .transmissionComplete => none
  | .panelPresentChange .. => none
  | .lockChange .. => none
  | .eepromReadComplete .. => none
  | .pageWriteComplete => none
  | .eepromAccessFault => none
  | .powerOn .. => none

/-- The four-byte header (tag, kind code, payload length) and the payload (R202). -/
def frameBytes (tag kind : Byte) (payload : List Byte) : List Byte :=
  tag :: kind :: (le16 (BitVec.ofNat 16 payload.length) ++ payload)

/-- The request frame of a request; none for the commands that are not requests. -/
def encodeFrame (i : Instr) : Option (Link × List Byte) :=
  match kindOf i, payloadOf i with
  | some k, some (l, t, p) => some (l, frameBytes t k p)
  | _, _ => none

/-! ### Words of the opcode table -/

/-- The table gives no row any bits, so no word spells a command. -/
def decodeTableWord (_nbits _w : Nat) : Option Instr := none

end Sys2Proof
end

