-- ==== Sys2Proof/Machine/Types.lean ====
section
/-! DEFINITION. The state of each block of the part, as the manual's "Block overview" divides it. Only data types stand
here; what is done with them stands in the files beside this one. -/

namespace Sys2Proof.Machine

/-- A timer: stopped, or running with the nanoseconds that remain (every timer of the manual, whatever its unit). -/
abbrev Timer := Option Nat

/-- One item for each link. -/
structure PerLink (α : Type) where
  console : α
  remote : α
  deriving DecidableEq, Repr

/-- One item for each channel. -/
structure PerChan (α : Type) where
  ch1 : α
  ch2 : α
  ch3 : α
  ch4 : α
  deriving DecidableEq, Repr

/-- A buffer of bytes: (address, byte) pairs, addresses strictly rising, no byte 0; an unlisted address reads 0. It holds
acquisition memory (R108), an intensity plane (R130) and an overlay layer (R150). -/
abbrev Memory := List Host.Cell

/-! ### Setup Controller (chapter 1) -/

/-- The 44 fields of the live setup (R1). -/
inductive Field where
  | chOn (c : Chan)
  | chScale (c : Chan)
  | chOffset (c : Chan)
  | chCoupling (c : Chan)
  | chBwl (c : Chan)
  | chInvert (c : Chan)
  | tbScale
  | tbPosition
  | trigType
  | trigSource
  | trigSlope
  | trigLevel
  | trigUpper
  | trigHyst
  | trigMode
  | trigHoldoff
  | trigAutotime
  | acqMode
  | acqDepth
  | acqSegments
  | acqRetain
  | dispPersist
  | dispVectors
  | dispGrade
  | dispGrid
  | viewPan
  deriving DecidableEq, Repr

/-- The class of a field (chapter 1). -/
inductive FieldClass where
  | capture
  | arming
  | view
  deriving DecidableEq, Repr

/-- One value per field, in ascending field ID (the order of R204). -/
structure Setup where
  vals : Vector Int 44
  deriving DecidableEq, Repr

/-- The source of a commit (00_scope, "Sources of a commit"); a STORE commit names the link whose recall it completes,
none when that link has since been reset (R25). -/
inductive Source where
  | panel
  | link (l : Link)
  | store (requester : Option Link)
  | system
  deriving DecidableEq, Repr

/-- The outcome of a commit (section 1.3). -/
inductive CommitResult where
  | locked
  | stale (gen : Word) (fields : List Field)
  | invalid (field : Field)
  | constraint
  | unchanged (gen : Word) (clamped : Bool)
  | applied (gen : Word) (clamped adjusted : Bool)
  deriving DecidableEq, Repr

/-- An open batch: base generation and staged pairs in the order first staged (R17). -/
structure Batch where
  base : Word
  staged : List (Field × Int)
  deriving DecidableEq, Repr

/-- The front-end control outputs of one channel (R26). -/
structure FrontEnd where
  enable : Bool
  scale : Int
  offset : Int
  coupling : Int
  bwl : Int
  deriving DecidableEq, Repr

structure SetupBlock where
  live : Setup
  gen : Word
  changed : Vector Word 44
  batches : PerLink (Option Batch)
  quiet : Timer
  /-- none while every output is held inactive (R205) -/
  outputs : Option (PerChan FrontEnd)
  deriving DecidableEq, Repr

/-! ### Panel Scanner (section 2.1) -/

/-- One key: the level on its line, and R30's state; true is pressed. -/
structure Key where
  line : Bool
  settled : Bool
  timer : Timer
  attempt : Word
  deriving DecidableEq, Repr

/-- One encoder: the levels on its lines, and R32's state; true is high. -/
structure Encoder where
  lineA : Bool
  lineB : Bool
  lastA : Bool
  lastB : Bool
  progress : Int
  sync : Bool
  deriving DecidableEq, Repr

structure PanelScanner where
  ms : Word
  keys : Vector Key 64
  encs : Vector Encoder 12
  deriving DecidableEq, Repr

inductive EventKind where
  | press
  | release
  | turn
  deriving DecidableEq, Repr

/-- A panel event (R34); `detents` is 0 for PRESS and RELEASE, which have none. -/
structure PanelEvent where
  control : Nat
  kind : EventKind
  detents : Int
  time : Word
  entry : Option Nat
  deriving DecidableEq, Repr

/-! ### Event Router (chapters 2 and 3) -/

inductive MatchKind where
  | range
  | pair
  | mask
  deriving DecidableEq, Repr

inductive RunCond where
  | any
  | running
  | stopped
  deriving DecidableEq, Repr

inductive Action where
  | toConsole
  | toRemote
  | toBoth
  | edit
  | runStop
  | single
  | force
  | localRelease
  | standby
  | discard
  deriving DecidableEq, Repr

inductive StepKind where
  | index
  | fine
  | permille
  | toggle
  | cycle
  deriving DecidableEq, Repr

/-- A routing entry (R36). Bit i of `kinds` stands for PRESS, RELEASE, TURN (R202). `stepKind` is the byte as written,
which R45 stores unchecked in an entry that is not EDIT. -/
structure RouteEntry where
  enabled : Bool
  matchKind : MatchKind
  a : Byte
  b : Byte
  kinds : BitVec 3
  cond : RunCond
  exempt : Bool
  action : Action
  fieldBase : Byte
  stride : Byte
  stepKind : Byte
  deriving DecidableEq, Repr

/-- The source of an LED with its operands (R57). The sets hold bit i for position i (R202). -/
inductive LedSource where
  | fieldEq (f : Field) (value : Int)
  | runState (states : BitVec 3)
  | capState (states : BitVec 5)
  | lockout
  | link
  | standbyInd
  | off
  deriving DecidableEq, Repr

structure LedEntry where
  source : LedSource
  linkValue : Bool
  deriving DecidableEq, Repr

inductive Lockout where
  | localControl
  | remote
  | remoteHard
  deriving DecidableEq, Repr

structure Router where
  routes : Vector RouteEntry 24
  defaultAction : Action
  lockedOut : BitVec 16
  leds : Vector LedEntry 32
  lit : Vector Bool 32
  lockout : Lockout
  deriving DecidableEq, Repr

/-! ### Event Queues (section 3.1) -/

inductive QueueMode where
  | hold
  | overwrite
  deriving DecidableEq, Repr

/-- One link's event queue (R48); `setting` is in milliseconds. -/
structure EventQueue where
  entries : List PanelEvent
  mode : QueueMode
  threshold : Nat
  setting : Nat
  timer : Timer
  lost : BitVec 16
  deriving DecidableEq, Repr

/-! ### Acquisition Sequencer (chapters 4 and 5) -/

inductive RunState where
  | stopped
  | running
  | single
  deriving DecidableEq, Repr

inductive CapState where
  | idle
  | waitSlot
  | prefill
  | armed
  | postfill
  deriving DecidableEq, Repr

inductive Zone where
  | unknown
  | inside
  | outside
  deriving DecidableEq, Repr

/-- The state of the detectors (R99): primed flags of the rising and the falling edge detector, zone of the window one. -/
structure Detectors where
  rise : Bool
  fall : Bool
  zone : Zone
  deriving DecidableEq, Repr

/-- A bin in progress (R73). -/
structure Bin where
  count : Nat
  first : Byte
  low : Byte
  high : Byte
  sum : Nat
  deriving DecidableEq, Repr

/-- The quantities fixed for a record at its grant (R80): rate, decimation exponent, points, trigger index, segments and
segment depth in bytes. -/
structure Plan where
  rate : Nat
  k : Nat
  points : Nat
  trigIndex : Nat
  segments : Nat
  segDepth : Nat
  deriving DecidableEq, Repr

/-- TRIG.MODE, TRIG.AUTOTIME and TRIG.HOLDOFF as read at a segment's arming (R88). -/
structure Armed where
  mode : Int
  autotime : Int
  holdoff : Int
  deriving DecidableEq, Repr

/-- The trigger of a segment (R90, R91). -/
structure Trigger where
  bin : Nat
  time : BitVec 48
  forced : Bool
  deriving DecidableEq, Repr

/-- One closed bin's point of every channel, each as the bytes R78 stores; empty for a channel that is off. -/
abbrev PointSet := PerChan (List Byte)

/-- The record in progress (R83). `before` and `after` are newest first. -/
structure Record where
  slot : Nat
  number : Word
  gen : Word
  setup : Setup
  plan : Plan
  lower : Nat
  upper : Nat
  segment : Nat
  completed : Nat
  bin : Nat
  armed : Armed
  trigger : Option Trigger
  detectors : Detectors
  bins : PerChan Bin
  marks : PerChan Bool
  before : List PointSet
  after : List PointSet
  deriving DecidableEq, Repr

/-- The model's own (log 5): the choices that the manual leaves open, one number each. `named` are those of the choices to come
that are named; past them the n-th choice is `Config.freeChoice n`, and `taken` counts those. -/
structure Races where
  named : List Nat
  taken : Nat
  deriving DecidableEq, Repr

/-- The model's own (log 13): how far the four converter streams have come. `routing` is the enabled set whose routing they are
known to follow, none until a code has come under it; `got` are the cores that have delivered their code of the present core
period; `doubt` the cores of the first instant heard that may have delivered theirs before; `waiting` the codes that wait for
their sampling instant; `next` the instant of the core period that is taken next; `skip` the cores whose code to come belongs to
an instant before it. -/
structure Front where
  routing : Option (List Chan)
  got : Vector Bool 4
  doubt : Vector Bool 4
  skip : Vector Bool 4
  next : Nat
  waiting : Vector (List Byte) 4
  deriving DecidableEq, Repr

structure Sequencer where
  run : RunState
  cap : CapState
  stopPending : Bool
  forcePending : Bool
  holdoff : Timer
  auto : Timer
  time : BitVec 48
  standbyStop : Bool
  current : Option Record
  front : Front
  deriving DecidableEq, Repr

/-! ### Record Store (chapter 6) -/

/-- An entry of a segment list (R109). -/
structure SegEntry where
  time : BitVec 48
  point : Word
  forced : Bool
  deriving DecidableEq, Repr

inductive RecOutcome where
  | full
  | partialRecord
  deriving DecidableEq, Repr

inductive Drawn where
  | undrawn
  | drawing
  | drawn
  | skippedView
  deriving DecidableEq, Repr

/-- A record header (R109). `setup` holds the copies of the 31 CAPTURE fields, and 0 for every other field; `prior` is the
drawn status held before the draw in progress (R115). -/
structure Header where
  number : Word
  gen : Word
  setup : Setup
  k : Nat
  points : Nat
  trigIndex : Nat
  planned : Nat
  completed : Nat
  outcome : Option RecOutcome
  clip : PerChan Bool
  segments : List SegEntry
  drawn : Drawn
  prior : Drawn
  pins : PerLink Bool
  released : PerLink Bool
  deriving DecidableEq, Repr

/-- A slot of the slot table (R108). -/
inductive Slot where
  | free
  | filling (h : Header)
  | complete (h : Header)
  deriving DecidableEq, Repr

/-- A link's record notice (R125); `setting` is in milliseconds, 0 for off. -/
structure RecordNotice where
  pace : Nat
  setting : Nat
  timer : Timer
  unreported : BitVec 16
  deriving DecidableEq, Repr

structure RecordStore where
  slots : List Slot
  recordBytes : Nat
  next : Word
  pinsList : PerLink (List Word)
  sub : PerLink Bool
  overwritten : BitVec 16
  missed : PerLink (BitVec 16)
  held : Bool
  notice : PerLink RecordNotice
  mem : Memory
  deriving DecidableEq, Repr

/-! ### Raster Engine (chapter 7) -/

inductive Engine where
  | idle
  | rendering
  | halted
  deriving DecidableEq, Repr

inductive DrawKind where
  | first
  | redraw
  deriving DecidableEq, Repr

/-- The view taken at draw start (R131, R143). -/
structure View where
  scale : PerChan Int
  offset : PerChan Int
  invert : PerChan Int
  tbScale : Int
  pan : Int
  vectors : Int
  persist : Int
  deriving DecidableEq, Repr

/-- The draw in flight: record in draw, kind, view and the next pass (R131). -/
structure Draw where
  number : Word
  header : Header
  kind : DrawKind
  view : View
  segment : Nat
  chan : Chan
  deriving DecidableEq, Repr

/-- `chosen` is the record that the Record Store has named to the engine, until the draw of it is begun or refused (R142). -/
structure RasterEngine where
  engine : Engine
  draw : Option Draw
  chosen : Option (DrawKind × Word)
  redraw : Bool
  mark : Option Word
  planes : PerChan Memory
  deriving DecidableEq, Repr

/-! ### Display Composer (chapter 8) -/

inductive DispLink where
  | absent
  | training
  | locked
  deriving DecidableEq, Repr

structure Colour where
  red : Byte
  green : Byte
  blue : Byte
  deriving DecidableEq, Repr

/-- A composed frame, held as what it was composed of (log 16); `framePixel` gives its pixels. -/
structure Frame where
  planes : PerChan Memory
  overlay : PerLink Memory
  palette : Vector Colour 255
  grade : Int
  grid : Int
  deriving DecidableEq, Repr

/-- `palette[i]` is the colour of entry i + 1. -/
structure Composer where
  frameTimer : Timer
  framePhase : Nat
  frames : Word
  sent : Word
  link : DispLink
  sending : Option Frame
  overlay : PerLink Memory
  palette : Vector Colour 255
  present : Bool
  lock : Bool
  deriving DecidableEq, Repr

/-! ### Store Controller (chapter 9) -/

/-- A saved image (R169, R204). -/
abbrev Image := Vector Byte 192

inductive StoreState where
  | scanning
  | idle
  | busy
  | absent
  deriving DecidableEq, Repr

/-- A directory entry (R171). `savedBy` is the attributes byte less its lock bit (log 26). -/
inductive DirEntry where
  | empty
  | valid (label : Vector Byte 8) (locked : Bool) (savedBy : BitVec 7) (gen : BitVec 16)
  | corrupt
  | unread
  deriving DecidableEq, Repr

inductive StoreKind where
  | save (label : Vector Byte 8)
  | recall
  | erase
  | lock (on : Bool)
  | autosave
  deriving DecidableEq, Repr

/-- A store request (R174). `source` is none for autosave; `held` says that the link waits for it with READY low. -/
structure StoreReq where
  source : Option Link
  kind : StoreKind
  slot : Fin 12
  held : Bool
  deriving DecidableEq, Repr

/-- Where the operation in flight stands, which is also the EEPROM access in hand: reading the slot to resolve its UNREAD
entry (R176), reading it for a recall or a lock, writing page `page` of a saved image (R177, R185), writing the header page
of an erase, or that of a lock. -/
inductive OpPhase where
  | resolving
  | reading
  | writing (image : Image) (gen : Word) (page : Nat)
  | erasing
  | locking (image : Image)
  deriving DecidableEq, Repr

/-- The operation in flight with its cancel mark (R171); `dropped` once its link has been reset (R183). -/
structure Op where
  req : StoreReq
  marked : Bool
  dropped : Bool
  phase : OpPhase
  deriving DecidableEq, Repr

/-- `limit` is what remains of the 20 ms of the access in hand, `polling` that the bytes of its page write have been sent
(R168). -/
structure SavedStore where
  ctrl : StoreState
  directory : Vector DirEntry 12
  queue : List StoreReq
  op : Option Op
  slot0Gen : Word
  device : BitVec 7
  scanSlot : Option (Fin 12)
  scanSetup : Option Setup
  cancelled : Bool
  finalAsked : Bool
  limit : Timer
  polling : Bool
  deriving DecidableEq, Repr

/-! ### Links (chapter 10) -/

/-- The statuses of R202, in the order of their codes. -/
inductive Status where
  | ok
  | applied
  | unchanged
  | stale
  | invalid
  | constraint
  | locked
  | notPermitted
  | full
  | busy
  | gone
  | notReady
  | truncated
  | ignored
  | noBatch
  | malformed
  | inStandby
  | accepted
  | done
  | doneDespiteCancel
  | cancelled
  | noStore
  | slotLocked
  | slotEmpty
  | slotCorrupt
  | storeFault
  | noResponse
  deriving DecidableEq, Repr

/-- The completion styles (R192). -/
inductive Style where
  | hold
  | defer
  deriving DecidableEq, Repr

/-- The power states (R205). -/
inductive PowerState where
  | active
  | standbyPending
  | standby
  deriving DecidableEq, Repr

/-- An entry of a REC.LIST answer (R121). -/
structure ListEntry where
  number : Word
  gen : Word
  outcome : Option RecOutcome
  planned : Nat
  completed : Nat
  drawn : Drawn
  pins : PerLink Bool
  released : Bool
  deriving DecidableEq, Repr

/-- The items of a response, as each owner's rule lists them; `payloadBytes` gives their bytes (R202). -/
inductive Payload where
  | nothing
  /-- SETUP.GET (R5) -/
  | setupValues (gen : Word) (values : List (Field × Int × Word))
  /-- SETUP.CHANGES (R6) -/
  | changes (gen : Word) (fields : List Field)
  /-- BATCH.OPEN (R17) -/
  | base (gen : Word)
  /-- APPLIED (R16) -/
  | applied (gen : Word) (clamped adjusted : Bool)
  /-- UNCHANGED (R16), and the success of a recall (R178) -/
  | installed (gen : Word) (clamped : Bool)
  /-- STALE (R9) -/
  | stale (gen : Word) (fields : List Field)
  /-- INVALID of a commit (R10) -/
  | offending (field : Field)
  /-- PANEL.TAKE (R54): records, entries left, lost count -/
  | taken (records : List PanelEvent) (left : Nat) (lost : BitVec 16)
  /-- PANEL.QUEUE_CONFIG (R55) -/
  | discarded (entries : Nat) (lost : BitVec 16)
  /-- PANEL.QUEUE_GET (R55) -/
  | queue (mode : QueueMode) (threshold setting count : Nat) (lost : BitVec 16)
  /-- PANEL.ROUTE_GET (R45) -/
  | route (e : RouteEntry)
  /-- PANEL.DEFAULT_GET (R46) -/
  | action (a : Action)
  /-- PANEL.LED_GET (R59) -/
  | led (entry : LedEntry) (lit : Bool)
  /-- LOCKOUT.SET (R63) -/
  | lockouts (before after : Lockout)
  /-- ACQ.RUN, SINGLE, STOP, FORCE (R97) -/
  | acq (run : RunState) (cap : CapState) (stopPending forcePending : Bool)
  /-- ACQ.STATUS (R97); the record is its number, segment number and completed segments -/
  | acqStatus (run : RunState) (cap : CapState) (stopPending forcePending holdoff auto : Bool) (time : BitVec 48)
      (record : Option (Word × Nat × Nat))
  /-- REC.LIST (R121) -/
  | records (entries : List ListEntry) (slots : Nat) (missed unreported : BitVec 16)
  /-- REC.HEADER (R122): the header and the entries carried -/
  | header (h : Header) (entries : List SegEntry)
  /-- REC.READ (R123, R124): the values, in the form of the record's mode (bytes per value 1 or 2) -/
  | points (bytesPerValue : Nat) (values : List Int)
  /-- REC.RELEASE (R120) -/
  | released (changed : Nat)
  /-- REC.SUBSCRIBE (R119) -/
  | subscription (before : Bool)
  /-- REC.NOTICE_CONFIG (R126) -/
  | unreported (before : BitVec 16)
  /-- REC.NOTICE_GET (R126) -/
  | recordNotice (pace setting : Nat) (timerRuns : Bool) (unreported : BitVec 16) (sub : Bool) (pins : List Word)
  /-- DISP.STATUS (R164) -/
  | display (link : DispLink) (present lock : Bool) (frames sent : Word) (sending : Bool) (engine : Engine)
      (record : Option Word) (redraw : Bool)
  /-- DISP.CLEAR (R147) -/
  | cleared (engine : Engine) (record : Option Word)
  /-- DISP.OVERLAY, DISP.OVERLAY_FILL (R159, R160) -/
  | pixels (written : Nat)
  /-- DISP.PALETTE (R161) -/
  | entries (written : Nat)
  /-- DISP.PALETTE_GET (R161) -/
  | colours (cs : List Colour)
  /-- DONE of a save (R177) -/
  | saved (slot : Fin 12) (gen : Word)
  /-- STORE_FAULT of a save (R177) -/
  | pages (written : Nat)
  /-- STORE.LIST (R181): state, slot-0 saved generation, directory, operation in flight (with its mark), queue -/
  | storeList (ctrl : StoreState) (slot0Gen : Word) (directory : Vector DirEntry 12) (op : Option (StoreReq × Bool))
      (queue : List StoreReq)
  /-- STORE.CANCEL (R182): removed, or marked -/
  | removed
  | marked
  /-- STORE.RESULT (R194) of a READY record -/
  | result (tag kind : Byte) (status : Status) (payload : Payload)
  /-- STORE.RESULT (R194) of an OUTSTANDING record -/
  | outstanding (tag kind : Byte)
  /-- LINK.STATUS (R198) -/
  | linkStatus (run : RunState) (cap : CapState) (time : BitVec 48) (gen : Word) (lockout : Lockout) (link : DispLink)
      (ctrl : StoreState) (power : PowerState) (style : Style) (deferred : Nat) (notices enables : BitVec 7)
      (lost missed overwritten lockedOut : BitVec 16)
  /-- LINK.CONFIG (R197): style and enables before -/
  | config (style : Style) (enables : BitVec 7)
  /-- LINK.CLEAR_NOTICES (R196): pending set before -/
  | notices (before : BitVec 7)
  deriving DecidableEq, Repr

/-- A response frame (R191, R202). -/
structure Response where
  tag : Byte
  status : Status
  payload : Payload
  deriving DecidableEq, Repr

/-- The deferred-result record (R193). -/
inductive Deferred where
  | empty
  | outstanding (tag kind : Byte)
  | ready (tag kind : Byte) (status : Status) (payload : Payload)
  deriving DecidableEq, Repr

/-- The seven notices, in the order of their bits (R195, R202). -/
inductive Notice where
  | events
  | records
  | setupChanged
  | result
  | lockout
  | display
  | standby
  deriving DecidableEq, Repr

/-- One link (R188). `inWork` is the tag and kind code of the request in work; `opened` is set when the link opens (R201);
`resetLine` is the level of the link reset line. -/
structure LinkState where
  opened : Bool
  resetLine : Bool
  ready : Bool
  inWork : Option (Byte × Byte)
  response : Option Response
  refusal : Option Response
  style : Style
  deferred : Deferred
  notices : BitVec 7
  enables : BitVec 7
  deriving DecidableEq, Repr

/-! ### Power Control (chapter 11) -/

/-- Where start-up stands (R210): supply not established, stages 1 to 3, or stage 5 reached. -/
inductive Phase where
  | noSupply
  | starting
  | up
  deriving DecidableEq, Repr

/-- Power Control (R205, R207). `requester` is the link that waits for the final status of POWER.STANDBY, with true when it
waits with READY low. -/
structure Power where
  state : PowerState
  mainPower : Bool
  phase : Phase
  idleReport : Bool
  savedReport : Bool
  haltReport : Bool
  requester : Option (Link × Bool)
  deriving DecidableEq, Repr

end Sys2Proof.Machine
end

