-- ==== Sys2Proof/Machine/Factory.lean ====
section
/-! DEFINITION. The factory tables and the start-up values of each block, which State.reset and start-up install. -/

namespace Sys2Proof.Machine

/-- The Factory column of R1, in ascending field ID. -/
def factorySetup : Setup :=
  ⟨#v[1, 9, 0, 0, 0, 0,
      0, 9, 0, 0, 0, 0,
      0, 9, 0, 0, 0, 0,
      0, 9, 0, 0, 0, 0,
      18, 500,
      0, 1, 0, 0, 0, 3, 0, 0, 50,
      0, 2, 0, 0,
      0, 1, 16, 0, 500]⟩

/-- A disabled entry with every other part zero (R47, entries 12 to 23). -/
def blankRoute : RouteEntry :=
  ⟨false, .range, 0#8, 0#8, 0#3, .any, false, .toConsole, 0#8, 0#8, 0#8⟩

/-- An enabled factory entry that matches a RANGE; `kinds` 1 is PRESS and 4 is TURN. -/
def rangeRoute (a b : Byte) (kinds : BitVec 3) (cond : RunCond) (exempt : Bool) (action : Action)
    (fieldBase stride stepKind : Byte) : RouteEntry :=
  ⟨true, .range, a, b, kinds, cond, exempt, action, fieldBase, stride, stepKind⟩

/-- The factory routing table (R47). Step kinds by position: INDEX 0, FINE 1, PERMILLE 2, TOGGLE 3, CYCLE 4 (R202). -/
def factoryRoutes : Vector RouteEntry 24 :=
  #v[rangeRoute 4 4 1 .any true .localRelease 0 0 0,
     rangeRoute 0 0 1 .any false .runStop 0 0 0,
     rangeRoute 1 1 1 .any false .single 0 0 0,
     rangeRoute 2 2 1 .any false .force 0 0 0,
     rangeRoute 3 3 1 .any false .edit 42 0 4,
     rangeRoute 6 9 1 .any false .edit 0 8 3,
     rangeRoute 64 67 4 .any false .edit 1 8 0,
     rangeRoute 68 71 4 .any false .edit 2 8 1,
     rangeRoute 72 72 4 .any false .edit 32 0 0,
     rangeRoute 73 73 4 .running false .edit 33 0 2,
     rangeRoute 73 73 4 .stopped false .edit 60 0 2,
     rangeRoute 74 74 4 .any false .edit 39 0 1,
     blankRoute, blankRoute, blankRoute, blankRoute, blankRoute, blankRoute,
     blankRoute, blankRoute, blankRoute, blankRoute, blankRoute, blankRoute]

/-- A LINK entry whose link value is off. -/
def linkLed : LedEntry := ⟨.link, false⟩

/-- The factory LED table (R61). RUNSTATE sets: bit 0 STOPPED, bit 1 RUNNING, bit 2 SINGLE. -/
def factoryLeds : Vector LedEntry 32 :=
  #v[⟨.runState 0b110#3, false⟩, ⟨.runState 0b001#3, false⟩, ⟨.runState 0b100#3, false⟩,
     ⟨.fieldEq .trigMode 0, false⟩, ⟨.lockout, false⟩, linkLed,
     ⟨.fieldEq (.chOn .ch1) 1, false⟩, ⟨.fieldEq (.chOn .ch2) 1, false⟩,
     ⟨.fieldEq (.chOn .ch3) 1, false⟩, ⟨.fieldEq (.chOn .ch4) 1, false⟩,
     linkLed, linkLed, linkLed, linkLed, linkLed, linkLed, linkLed,
     linkLed, linkLed, linkLed, linkLed, linkLed, linkLed, linkLed,
     linkLed, linkLed, linkLed, linkLed, linkLed, linkLed, linkLed,
     ⟨.standbyInd, false⟩]

/-- Entry i is the grey i, i, i (R161). -/
def factoryPalette : Vector Colour 255 :=
  Vector.ofFn fun i => let v := BitVec.ofNat 8 (i.val + 1); ⟨v, v, v⟩

/-! ### Start-up values -/

def PerLink.both {α : Type} (x : α) : PerLink α := ⟨x, x⟩

def PerChan.all {α : Type} (x : α) : PerChan α := ⟨x, x, x, x⟩

/-- DESIGN CHOICE (log 2): the live setup, generation and last-changed generations before stage 4 installs them. -/
def startSetup : SetupBlock where
  live := factorySetup
  gen := 1#32
  changed := Vector.replicate 44 1#32
  batches := .both none
  quiet := none
  outputs := none

/-- A key whose line and settled level are released (log 2). -/
def startKey : Key := ⟨false, false, none, 0#32⟩

/-- An encoder that rests in the detent phase (log 2). -/
def startEncoder : Encoder := ⟨true, true, true, true, 0, true⟩

def startPanel : PanelScanner where
  ms := 0#32
  keys := Vector.replicate 64 startKey
  encs := Vector.replicate 12 startEncoder

/-- R47, R61, R62: factory tables, every LED dark, lockout LOCAL. -/
def startRouter : Router where
  routes := factoryRoutes
  defaultAction := .toConsole
  lockedOut := 0#16
  leds := factoryLeds
  lit := Vector.replicate 32 false
  lockout := .localControl

/-- The right-hand column of R48. -/
def startQueue : EventQueue where
  entries := []
  mode := .hold
  threshold := 1
  setting := 20
  timer := none
  lost := 0#16

/-- No code delivered yet (log 13). -/
def startFront : Front where
  routing := none
  got := Vector.replicate 4 false
  doubt := Vector.replicate 4 false
  skip := Vector.replicate 4 false
  next := 0
  waiting := Vector.replicate 4 []

/-- R82, R102, R103, R104. -/
def startSequencer : Sequencer where
  run := .stopped
  cap := .idle
  stopPending := false
  forcePending := false
  holdoff := none
  auto := none
  time := 0#48
  standbyStop := false
  current := none
  front := startFront

/-- The values of R126. -/
def startNotice : RecordNotice where
  pace := 1
  setting := 0
  timer := none
  unreported := 0#16

/-- R108; the number and size of the slots (those of the factory setup) are a DESIGN CHOICE until stage 4 (log 2), and so is
what acquisition memory holds (log 6). -/
def startStore : RecordStore where
  slots := List.replicate 16 .free
  recordBytes := 16384
  next := 1#32
  pinsList := .both []
  sub := .both false
  overwritten := 0#16
  missed := .both 0#16
  held := false
  notice := .both startNotice
  mem := []

/-- R131 and R130. -/
def startRaster : RasterEngine where
  engine := .idle
  draw := none
  chosen := none
  redraw := false
  mark := none
  planes := .all []

/-- R150; the lines' levels are log 2's. -/
def startComposer : Composer where
  frameTimer := none
  framePhase := 0
  frames := 0#32
  sent := 0#32
  link := .absent
  sending := none
  overlay := .both []
  palette := factoryPalette
  present := false
  lock := false

/-- R171; the slot-0 saved generation before stage 4 and the device address before the straps are sampled are log 2's. -/
def startSaved : SavedStore where
  ctrl := .scanning
  directory := Vector.replicate 12 .unread
  queue := []
  op := none
  slot0Gen := 0#32
  device := 0x50#7
  scanSlot := none
  scanSetup := none
  cancelled := false
  finalAsked := false
  limit := none
  polling := false

/-- R201: not open, READY low, every notice clear, default style and enables. -/
def startLink : LinkState where
  opened := false
  resetLine := false
  ready := false
  inWork := none
  response := none
  refusal := none
  style := .hold
  deferred := .empty
  notices := 0#7
  enables := 0#7

/-- R205 before the supply is established (log 1). -/
def startPower : Power where
  state := .active
  mainPower := false
  phase := .noSupply
  idleReport := false
  savedReport := false
  haltReport := false
  requester := none

end Sys2Proof.Machine
end

