-- ==== Sys2Proof/Machine/State.lean ====
section
/-! DEFINITION. The state of the whole part, its reset, and the reasons for which a step may stop. -/

namespace Sys2Proof.Machine

/-- The part: one field per block, then the model's own fields. -/
structure State where
  setup : SetupBlock
  panel : PanelScanner
  router : Router
  queues : PerLink EventQueue
  seq : Sequencer
  store : RecordStore
  raster : RasterEngine
  disp : Composer
  saved : SavedStore
  links : PerLink LinkState
  power : Power
  /-- The model's own: nanoseconds since the millisecond counter last advanced (log 3). -/
  subMs : Nat
  /-- The model's own: which of several reactions that the manual leaves unordered is taken first, one number for each such
  choice to come (log 5). A free value: nothing constrains it. -/
  races : Races
  /-- The commands that wait, first in, first out. -/
  pending : List Instr
  deriving DecidableEq, Repr

/-- The one fault. -/
inductive Fault where
  /-- Raised by SAMPLE, SPAN_PASS and REC_READ when the record concerned does not lie within the 67,108,864 bytes of
  acquisition memory (R79, R108). Safe: the part computes these addresses itself, and R14 and R79 keep them inside. -/
  | acquisitionAddress
  deriving DecidableEq, Repr

/-- The one refusal. -/
inductive Refusal where
  /-- Raised by `exec` for a command that has no meaning yet; no command is left so. Safe: the model stops. -/
  | notModelled (mnemonic : String)
  deriving DecidableEq, Repr

/-- What a command answers. -/
abbrev Result := Host.Outcome State Fault Refusal

/-- The part before its supply is established, every block at its start-up value (logs 1 and 2). -/
def State.reset : State where
  setup := startSetup
  panel := startPanel
  router := startRouter
  queues := .both startQueue
  seq := startSequencer
  store := startStore
  raster := startRaster
  disp := startComposer
  saved := startSaved
  links := .both startLink
  power := startPower
  subMs := 0
  races := ⟨[], 0⟩
  pending := []

end Sys2Proof.Machine
end

