-- ==== Sys2Proof/Machine/Operands.lean ====
section
/-! DEFINITION. The operands of the commands: per-link and per-channel items, the field catalogue (R1 to R3), and the
positions by which named values are carried (R202). -/

namespace Sys2Proof.Machine

/-! ### Per-link and per-channel items -/

def PerLink.get {α : Type} (p : PerLink α) : Link → α
  | .console => p.console
  | .remote => p.remote

def PerLink.set {α : Type} (p : PerLink α) (l : Link) (x : α) : PerLink α :=
  match l with
  | .console => ⟨x, p.remote⟩
  | .remote => ⟨p.console, x⟩

def PerChan.get {α : Type} (p : PerChan α) : Chan → α
  | .ch1 => p.ch1
  | .ch2 => p.ch2
  | .ch3 => p.ch3
  | .ch4 => p.ch4

def PerChan.set {α : Type} (p : PerChan α) (c : Chan) (x : α) : PerChan α :=
  match c with
  | .ch1 => ⟨x, p.ch2, p.ch3, p.ch4⟩
  | .ch2 => ⟨p.ch1, x, p.ch3, p.ch4⟩
  | .ch3 => ⟨p.ch1, p.ch2, x, p.ch4⟩
  | .ch4 => ⟨p.ch1, p.ch2, p.ch3, x⟩

/-- The item that `f` gives for each channel. -/
def perChan {α : Type} (f : Chan → α) : PerChan α := ⟨f .ch1, f .ch2, f .ch3, f .ch4⟩

def otherLink : Link → Link
  | .console => .remote
  | .remote => .console

/-- n − 1 for CHn. -/
def chanIndex : Chan → Nat
  | .ch1 => 0
  | .ch2 => 1
  | .ch3 => 2
  | .ch4 => 3

/-- The channel of number 1..4. -/
def chanOfNumber : Int → Option Chan
  | 1 => some .ch1
  | 2 => some .ch2
  | 3 => some .ch3
  | 4 => some .ch4
  | _ => none

/-- The number n of CHn. -/
def chanNumber (c : Chan) : Int := (chanIndex c : Int) + 1

/-! ### The field catalogue (R1) -/

/-- The field ID. -/
def fieldId : Field → Nat
  | .chOn c => chanIndex c * 8
  | .chScale c => chanIndex c * 8 + 1
  | .chOffset c => chanIndex c * 8 + 2
  | .chCoupling c => chanIndex c * 8 + 3
  | .chBwl c => chanIndex c * 8 + 4
  | .chInvert c => chanIndex c * 8 + 5
  | .tbScale => 32
  | .tbPosition => 33
  | .trigType => 36
  | .trigSource => 37
  | .trigSlope => 38
  | .trigLevel => 39
  | .trigUpper => 40
  | .trigHyst => 41
  | .trigMode => 42
  | .trigHoldoff => 43
  | .trigAutotime => 44
  | .acqMode => 48
  | .acqDepth => 49
  | .acqSegments => 50
  | .acqRetain => 51
  | .dispPersist => 56
  | .dispVectors => 57
  | .dispGrade => 58
  | .dispGrid => 59
  | .viewPan => 60

/-- The place of the field among the 44, in ascending field ID (R204's body index). -/
def fieldIndex : Field → Fin 44
  | .chOn .ch1 => 0
  | .chScale .ch1 => 1
  | .chOffset .ch1 => 2
  | .chCoupling .ch1 => 3
  | .chBwl .ch1 => 4
  | .chInvert .ch1 => 5
  | .chOn .ch2 => 6
  | .chScale .ch2 => 7
  | .chOffset .ch2 => 8
  | .chCoupling .ch2 => 9
  | .chBwl .ch2 => 10
  | .chInvert .ch2 => 11
  | .chOn .ch3 => 12
  | .chScale .ch3 => 13
  | .chOffset .ch3 => 14
  | .chCoupling .ch3 => 15
  | .chBwl .ch3 => 16
  | .chInvert .ch3 => 17
  | .chOn .ch4 => 18
  | .chScale .ch4 => 19
  | .chOffset .ch4 => 20
  | .chCoupling .ch4 => 21
  | .chBwl .ch4 => 22
  | .chInvert .ch4 => 23
  | .tbScale => 24
  | .tbPosition => 25
  | .trigType => 26
  | .trigSource => 27
  | .trigSlope => 28
  | .trigLevel => 29
  | .trigUpper => 30
  | .trigHyst => 31
  | .trigMode => 32
  | .trigHoldoff => 33
  | .trigAutotime => 34
  | .acqMode => 35
  | .acqDepth => 36
  | .acqSegments => 37
  | .acqRetain => 38
  | .dispPersist => 39
  | .dispVectors => 40
  | .dispGrade => 41
  | .dispGrid => 42
  | .viewPan => 43

/-- Every field, in ascending field ID. -/
def allFields : List Field :=
  Config.chans.flatMap (fun c => [.chOn c, .chScale c, .chOffset c, .chCoupling c, .chBwl c, .chInvert c]) ++
  [.tbScale, .tbPosition, .trigType, .trigSource, .trigSlope, .trigLevel, .trigUpper, .trigHyst, .trigMode,
   .trigHoldoff, .trigAutotime, .acqMode, .acqDepth, .acqSegments, .acqRetain,
   .dispPersist, .dispVectors, .dispGrade, .dispGrid, .viewPan]

/-- The field that an ID names, if any (R1). -/
def fieldOfId (id : Nat) : Option Field := allFields.find? (fun f => fieldId f == id)

/-- The Class column of R1. -/
def fieldClass : Field → FieldClass
  | .chInvert _ => .view
  | .trigMode => .arming
  | .trigHoldoff => .arming
  | .trigAutotime => .arming
  | .acqRetain => .arming
  | .dispPersist => .view
  | .dispVectors => .view
  | .dispGrade => .view
  | .dispGrid => .view
  | .viewPan => .view
  | _ => .capture

/-- How a value offered for a field is treated (R3): an enumerated field with its set in ascending order, or a numeric
field with the fixed bounds of step 2 (R11). -/
inductive Handling where
  | enum (set : List Int)
  | clamp (lo hi : Int)
  deriving DecidableEq, Repr

/-- The Values and Handling columns of R1, with the fixed bounds that R11 gives the dependent ranges. -/
def handling : Field → Handling
  | .chOn _ => .enum [0, 1]
  | .chScale _ => .clamp 0 12
  | .chOffset _ => .clamp (-100000000) 100000000
  | .chCoupling _ => .enum [0, 1, 2]
  | .chBwl _ => .enum [0, 1]
  | .chInvert _ => .enum [0, 1]
  | .tbScale => .clamp 0 32
  | .tbPosition => .clamp 0 1000
  | .trigType => .enum [0, 1]
  | .trigSource => .enum [1, 2, 3, 4]
  | .trigSlope => .enum [0, 1, 2, 3, 4]
  | .trigLevel => .clamp (-150000000) 150000000
  | .trigUpper => .clamp (-150000000) 150000000
  | .trigHyst => .clamp 1 16
  | .trigMode => .enum [0, 1]
  | .trigHoldoff => .clamp 0 1000000000
  | .trigAutotime => .clamp 10 1000
  | .acqMode => .enum [0, 1, 2]
  | .acqDepth => .clamp 0 7
  | .acqSegments => .clamp 0 10
  | .acqRetain => .enum [0, 1]
  | .dispPersist => .clamp 0 8
  | .dispVectors => .enum [0, 1]
  | .dispGrade => .clamp 1 64
  | .dispGrid => .enum [0, 1, 2]
  | .viewPan => .clamp 0 1000

/-- The slopes legal for a trigger type (R3): RISE, FALL, EITHER for EDGE; ENTER, EXIT for WINDOW. -/
def legalSlopes (type : Int) : List Int := if type = 0 then [0, 1, 2] else [3, 4]

/-- The live value of a field. -/
def Setup.get (st : Setup) (f : Field) : Int := st.vals[fieldIndex f]

def Setup.put (st : Setup) (f : Field) (v : Int) : Setup := ⟨st.vals.set (fieldIndex f) v⟩

/-! ### The tables of R2 -/

/-- µV per division of a scale index; an index above 12 cannot be live. -/
def scaleUv (i : Int) : Int :=
  [1000, 2000, 5000, 10000, 20000, 50000, 100000, 200000, 500000, 1000000, 2000000, 5000000].getD i.toNat 10000000

/-- m of a timebase index: 1, 2 or 5. -/
def tbMantissa (k : Int) : Nat := match k.toNat % 3 with
  | 0 => 1
  | 1 => 2
  | _ => 5

/-- The power of ten of a timebase index. -/
def tbExponent (k : Int) : Nat := k.toNat / 3

/-- Nanoseconds per division of a timebase index. -/
def tbNs (k : Int) : Nat := tbMantissa k * pow10 (tbExponent k)

/-- Samples per channel of a depth index: 1,024 × 4^d. -/
def depthSamples (d : Int) : Nat := 1024 * 4 ^ d.toNat

/-- The bound of CHn.OFFSET at a scale index. -/
def offsetBound (scaleIndex : Int) : Int :=
  if scaleIndex ≤ 5 then 1000000 else if scaleIndex ≤ 8 then 10000000 else 100000000

/-- The channel that TRIG.SOURCE names; a value outside 1..4 cannot be live. -/
def sourceChan (st : Setup) : Chan := (chanOfNumber (st.get .trigSource)).getD .ch1

/-- The channels whose CHn.ON is 1, in ascending order. -/
def enabledChans (st : Setup) : List Chan := Config.chans.filter (fun c => st.get (.chOn c) == 1)

/-- The 31 CAPTURE fields of a setup as R109 copies them, every other field 0. -/
def captureCopy (st : Setup) : Setup :=
  allFields.foldl (fun acc f => if fieldClass f = .capture then acc else acc.put f 0) st

/-! ### Values as they are carried (R202) -/

/-- off 0, on 1 (log 9). -/
def onOff (b : Byte) : Option Bool :=
  if b = 0#8 then some false else if b = 1#8 then some true else none

def bit (b : Bool) : Nat := if b then 1 else 0

def matchKindOf (b : Byte) : Option MatchKind := ([.range, .pair, .mask] : List MatchKind)[b.toNat]?
def runCondOf (b : Byte) : Option RunCond := ([.any, .running, .stopped] : List RunCond)[b.toNat]?
def actionOf (b : Byte) : Option Action :=
  ([.toConsole, .toRemote, .toBoth, .edit, .runStop, .single, .force, .localRelease, .standby, .discard] : List Action)[b.toNat]?
def stepKindOf (b : Byte) : Option StepKind := ([.index, .fine, .permille, .toggle, .cycle] : List StepKind)[b.toNat]?
def queueModeOf (b : Byte) : Option QueueMode := ([.hold, .overwrite] : List QueueMode)[b.toNat]?
def lockoutOf (b : Byte) : Option Lockout := ([.localControl, .remote, .remoteHard] : List Lockout)[b.toNat]?
def styleOf (b : Byte) : Option Style := ([.hold, .defer] : List Style)[b.toNat]?

def matchKindCode : MatchKind → Nat
  | .range => 0
  | .pair => 1
  | .mask => 2

def runCondCode : RunCond → Nat
  | .any => 0
  | .running => 1
  | .stopped => 2

def actionCode : Action → Nat
  | .toConsole => 0
  | .toRemote => 1
  | .toBoth => 2
  | .edit => 3
  | .runStop => 4
  | .single => 5
  | .force => 6
  | .localRelease => 7
  | .standby => 8
  | .discard => 9

def queueModeCode : QueueMode → Nat
  | .hold => 0
  | .overwrite => 1

def lockoutCode : Lockout → Nat
  | .localControl => 0
  | .remote => 1
  | .remoteHard => 2

def styleCode : Style → Nat
  | .hold => 0
  | .defer => 1

def runCode : RunState → Nat
  | .stopped => 0
  | .running => 1
  | .single => 2

def capCode : CapState → Nat
  | .idle => 0
  | .waitSlot => 1
  | .prefill => 2
  | .armed => 3
  | .postfill => 4

def eventKindCode : EventKind → Nat
  | .press => 0
  | .release => 1
  | .turn => 2

def drawnCode : Drawn → Nat
  | .undrawn => 0
  | .drawing => 1
  | .drawn => 2
  | .skippedView => 3

def outcomeCode : Option RecOutcome → Nat
  | some .partialRecord => 1
  | _ => 0

def engineCode : Engine → Nat
  | .idle => 0
  | .rendering => 1
  | .halted => 2

def dispLinkCode : DispLink → Nat
  | .absent => 0
  | .training => 1
  | .locked => 2

def storeStateCode : StoreState → Nat
  | .scanning => 0
  | .idle => 1
  | .busy => 2
  | .absent => 3

def powerCode : PowerState → Nat
  | .active => 0
  | .standbyPending => 1
  | .standby => 2

def deferredCode : Deferred → Nat
  | .empty => 0
  | .outstanding .. => 1
  | .ready .. => 2

/-- The status codes of R202. -/
def statusCode : Status → Byte
  | .ok => 0x00#8
  | .applied => 0x01#8
  | .unchanged => 0x02#8
  | .stale => 0x03#8
  | .invalid => 0x04#8
  | .constraint => 0x05#8
  | .locked => 0x06#8
  | .notPermitted => 0x07#8
  | .full => 0x08#8
  | .busy => 0x09#8
  | .gone => 0x0A#8
  | .notReady => 0x0B#8
  | .truncated => 0x0C#8
  | .ignored => 0x0D#8
  | .noBatch => 0x0E#8
  | .malformed => 0x0F#8
  | .inStandby => 0x10#8
  | .accepted => 0x11#8
  | .done => 0x12#8
  | .doneDespiteCancel => 0x13#8
  | .cancelled => 0x14#8
  | .noStore => 0x15#8
  | .slotLocked => 0x16#8
  | .slotEmpty => 0x17#8
  | .slotCorrupt => 0x18#8
  | .storeFault => 0x19#8
  | .noResponse => 0x1A#8

end Sys2Proof.Machine
end

