-- ==== Sys2Proof/Machine/Ops.lean ====
section
/-! DEFINITION. The shared operations: replacing a block, bytes of a buffer, notices and answers on a link. -/

namespace Sys2Proof.Machine

/-! ### Replacing one block of the state -/

def State.withSetup (s : State) (x : SetupBlock) : State := { s with setup := x }
def State.withPanel (s : State) (x : PanelScanner) : State := { s with panel := x }
def State.withRouter (s : State) (x : Router) : State := { s with router := x }
def State.withQueues (s : State) (x : PerLink EventQueue) : State := { s with queues := x }
def State.withSeq (s : State) (x : Sequencer) : State := { s with seq := x }
def State.withStore (s : State) (x : RecordStore) : State := { s with store := x }
def State.withRaster (s : State) (x : RasterEngine) : State := { s with raster := x }
def State.withDisp (s : State) (x : Composer) : State := { s with disp := x }
def State.withSaved (s : State) (x : SavedStore) : State := { s with saved := x }
def State.withLinks (s : State) (x : PerLink LinkState) : State := { s with links := x }
def State.withPower (s : State) (x : Power) : State := { s with power := x }
def State.withSubMs (s : State) (x : Nat) : State := { s with subMs := x }
def State.withRaces (s : State) (x : Races) : State := { s with races := x }
def State.withPending (s : State) (x : List Instr) : State := { s with pending := x }

/-! ### Choices that the manual leaves open (log 5) -/

/-- The next choice. -/
def Races.head (r : Races) : Nat := r.named.headD (Config.freeChoice r.taken)

/-- The choices after it. -/
def Races.tail (r : Races) : Races :=
  match r.named with
  | _ :: rest => { r with named := rest }
  | [] => { r with taken := r.taken + 1 }

/-! ### Buffers -/

/-- The byte at an address; 0 where none is listed. -/
def memGet : Memory → Nat → Byte
  | [], _ => 0#8
  | (k, v) :: rest, a => if k = a then v else memGet rest a

/-- Writes a byte; writing 0 removes the entry, so that equal buffers are equal lists. -/
def memSet : Memory → Nat → Byte → Memory
  | [], a, b => if b = 0#8 then [] else [(a, b)]
  | (k, v) :: rest, a, b =>
      if a < k then (if b = 0#8 then (k, v) :: rest else (a, b) :: (k, v) :: rest)
      else if a = k then (if b = 0#8 then rest else (a, b) :: rest)
      else (k, v) :: memSet rest a b

/-- Writes consecutive bytes from an address. -/
def memSetMany : Memory → Nat → List Byte → Memory
  | m, _, [] => m
  | m, a, b :: rest => memSetMany (memSet m a b) (a + 1) rest

/-- Consecutive bytes from an address. -/
def memRead (m : Memory) (a : Nat) : Nat → List Byte
  | 0 => []
  | n + 1 => memGet m a :: memRead m (a + 1) n

/-- The canonical form: addresses strictly rising, no byte 0. -/
def memWf : Memory → Bool
  | [] => true
  | [(_, v)] => v != 0#8
  | (k, v) :: (k', v') :: rest => v != 0#8 && decide (k < k') && memWf ((k', v') :: rest)

/-- Every listed byte replaced by `f` of it, zeros removed (the decay of R152). -/
def memMap (f : Byte → Byte) : Memory → Memory
  | [] => []
  | (k, v) :: rest => if f v = 0#8 then memMap f rest else (k, f v) :: memMap f rest

/-! ### Timers -/

/-- A timer started at a number of milliseconds. -/
def startMs (ms : Nat) : Timer := some (ms * Config.nsPerMs)

/-! ### Notices (R195) -/

/-- The bit of a notice in a notice set (R202). -/
def noticeBit : Notice → Nat
  | .events => 0
  | .records => 1
  | .setupChanged => 2
  | .result => 3
  | .lockout => 4
  | .display => 5
  | .standby => 6

def noticeMask (n : Notice) : BitVec 7 := 1#7 <<< noticeBit n

/-- Replaces the state of one link. -/
def setLink (l : Link) (k : LinkState) (s : State) : State := s.withLinks (s.links.set l k)

/-- Sets a notice on a link; a flag already pending stays so. -/
def notify (l : Link) (n : Notice) (s : State) : State :=
  setLink l { s.links.get l with notices := (s.links.get l).notices ||| noticeMask n } s

def notifyBoth (n : Notice) (s : State) : State := notify .remote n (notify .console n s)

/-! ### Requests and answers on a link (R188 to R193) -/

/-- The link takes transfers: it has opened, and its reset line is not asserted (R187). -/
def takesTransfers (k : LinkState) : Bool := k.opened && !k.resetLine

/-- A frame taken: response position emptied, tag and kind recorded, READY low (R188). -/
def beginRequest (l : Link) (tag kind : Byte) (s : State) : State :=
  setLink l { s.links.get l with response := none, inWork := some (tag, kind), ready := false } s

/-- The answer to the request in work: placed with its tag, READY high, the refusal gone (R188). -/
def answer (l : Link) (status : Status) (payload : Payload) (s : State) : State :=
  let k := s.links.get l
  setLink l { k with
    response := some ⟨(k.inWork.map Prod.fst).getD 0#8, status, payload⟩
    inWork := none
    ready := true
    refusal := none } s

/-- A frame refused while READY is low: BUSY with its tag in the refusal position (R189). -/
def refuseBusy (l : Link) (tag : Byte) (s : State) : State :=
  setLink l { s.links.get l with refusal := some ⟨tag, .busy, .nothing⟩ } s

/-- The link waits for a long request with READY low (HOLD style, R192). -/
def holds (l : Link) (s : State) : Bool := decide ((s.links.get l).style = .hold)

/-- The owner has accepted a long request: in HOLD style it stays in work; in DEFER style ACCEPTED is placed and the record
goes to OUTSTANDING (R192, R193). -/
def acceptLong (l : Link) (tag kind : Byte) (s : State) : State :=
  if holds l s then s
  else
    let s1 := answer l .accepted .nothing s
    setLink l { s1.links.get l with deferred := .outstanding tag kind } s1

/-- The final status of a long request handed to its link: placed as the answer when the link waits, else the record goes
to READY and RESULT is set (R192, R193). -/
def finalStatus (l : Link) (held : Bool) (status : Status) (payload : Payload) (s : State) : State :=
  if held then answer l status payload s
  else
    let k := s.links.get l
    match k.deferred with
    | .outstanding tag kind => notify l .result (setLink l { k with deferred := .ready tag kind status payload } s)
    | _ => s

end Sys2Proof.Machine
end

