-- ==== Sys2Proof/Machine/Plan.lean ====
section
/-! DEFINITION. The arithmetic of chapter 4 and the level codes of R98: rate, budget, decimation, points, the places of points
in acquisition memory. Every quantity is computed from a capture setup. -/

namespace Sys2Proof.Machine

/-- Channels 1 and 2 are partners, and 3 and 4 (R66). -/
def partner : Chan → Chan
  | .ch1 => .ch2
  | .ch2 => .ch1
  | .ch3 => .ch4
  | .ch4 => .ch3

/-- Two enabled channels, each with its partner off (R66). -/
def unpairedTwo (en : List Chan) : Bool := en.length == 2 && en.all (fun c => !en.contains (partner c))

/-- The sample rate in samples per microsecond (R66). -/
def rateOf (en : List Chan) : Nat :=
  if en.length = 1 then 5000 else if unpairedTwo en then 2500 else 1250

/-- The channel that each core serves when every core serves its own (R67, last row). -/
def coreOwn (core : Fin 4) : Chan :=
  match core with
  | 0 => .ch1
  | 1 => .ch2
  | 2 => .ch3
  | 3 => .ch4

/-- The channel that a core's code belongs to, none when the code is dropped (R67). -/
def coreChan (en : List Chan) (core : Fin 4) : Option Chan :=
  if en.length = 1 then en.head?
  else if unpairedTwo en then (if core.val < 2 then en.head? else en.getLast?)
  else if en.contains (coreOwn core) then some (coreOwn core) else none

/-- The cores that sample at each instant of a core period, in the order of the instants (R67): one core after another for one
channel, the lower-numbered core of each channel first for two unpaired ones, else all at once. -/
def instantCores (en : List Chan) : List (List (Fin 4)) :=
  if en.length = 1 then [[0], [1], [2], [3]]
  else if unpairedTwo en then [[0, 2], [1, 3]]
  else [(List.finRange 4).filter (fun core => (coreChan en core).isSome)]

/-- The cores that sample at instant j. -/
def coresAt (en : List Chan) (j : Nat) : List (Fin 4) := (instantCores en).getD j []

/-- The number of instants of the present core period up to the last of which a code has been delivered. -/
def instantsBegun (en : List Chan) (got : Vector Bool 4) : Nat :=
  (List.range (instantCores en).length).foldl (fun n j => if (coresAt en j).any (fun core => got[core]) then j + 1 else n) 0

/-- The streams as a record with these channels begins: its first instant is the first of which no code has been delivered
(R68; log 13). -/
def alignFront (en : List Chan) (f : Front) : Front :=
  let n := instantsBegun en f.got
  { f with
    skip := Vector.ofFn fun core => !f.got[core] && (List.range n).any (fun j => (coresAt en j).contains core)
    next := n % (instantCores en).length
    waiting := Vector.replicate 4 [] }

/-- The place of a core's sampling instant in the core period. -/
def instantIndex (en : List Chan) (core : Fin 4) : Nat :=
  ((List.range (instantCores en).length).find? (fun j => (coresAt en j).contains core)).getD 0

/-- The cores that sample at the same instant as this one, but for itself. -/
def fellows (en : List Chan) (core : Fin 4) : List (Fin 4) := (coresAt en (instantIndex en core)).filter (· != core)

/-- The streams as the first code under a routing comes, from this core. The instants before its own have passed. Whether the
other cores of its instant have delivered theirs before is in doubt; where a core period has but one instant, no later code can
tell, and the bits of `free` name those that have (log 13). A record that is being filled begins with what follows. -/
def beginStreams (en : List Chan) (free : Nat) (core : Fin 4) : Front :=
  let before (k : Fin 4) : Bool := (instantCores en).length == 1 && (fellows en core).contains k && free / 2 ^ k.val % 2 == 1
  alignFront en { startFront with
    routing := some en
    got := Vector.ofFn fun k => decide (instantIndex en k < instantIndex en core) || before k
    doubt := Vector.ofFn fun k => (fellows en core).contains k && !before k }

/-- A code of a later instant has come while cores of the first instant heard were in doubt: they had delivered theirs before,
and what has come of that instant is passed over (log 13). -/
def passFirst (en : List Chan) (f : Front) : Front :=
  { f with
    got := Vector.ofFn fun k => f.got[k] || f.doubt[k]
    doubt := Vector.replicate 4 false
    skip := Vector.ofFn fun k => f.skip[k] && !f.doubt[k]
    next := if f.waiting.toList.all List.isEmpty then f.next else (f.next + 1) % (instantCores en).length
    waiting := Vector.replicate 4 [] }

/-- Cores are in doubt, and a code of this core belongs to a later instant than theirs. -/
def endsDoubt (en : List Chan) (core : Fin 4) (f : Front) : Bool :=
  (List.finRange 4).any (fun k => f.doubt[k] && (f.got[core] || !(fellows en k).contains core && k != core))

/-- A core delivers a code: a second one from the same core opens the next core period (log 13). -/
def coreDelivers (en : List Chan) (core : Fin 4) (f : Front) : Front :=
  let f1 := if endsDoubt en core f then passFirst en f else f
  if f1.got[core] then
    { f1 with got := Vector.ofFn fun c => decide (c = core), skip := Vector.replicate 4 false }
  else { f1 with got := f1.got.set core true, doubt := f1.doubt.set core false }

/-- Raw samples of ten divisions (R69). -/
def rawSamples (rate tNs : Nat) : Nat := rate * 10 * tNs / 1000

/-- Bytes of a stored point: 1 in SAMPLE, 2 in PEAK and HIRES (R78). -/
def pointSize (mode : Int) : Nat := if mode = 0 then 1 else 2

/-- The point budget (R70). -/
def pointBudget (segDepth : Nat) (mode : Int) : Nat := if mode = 0 then segDepth else segDepth / 2

/-- The exponent of the decimation factor (R71). -/
def decimation (raw budget : Nat) : Nat :=
  ((List.range 33).find? (fun k => decide (raw / 2 ^ k ≤ budget))).getD 32

/-- Depth over S, in samples (R70). -/
def segmentDepth (st : Setup) : Nat := depthSamples (st.get .acqDepth) / 2 ^ (st.get .acqSegments).toNat

/-- R, k, P, T and S of a record (R66 to R72, R80). -/
def planOf (st : Setup) : Plan :=
  let rate := rateOf (enabledChans st)
  let raw := rawSamples rate (tbNs (st.get .tbScale))
  let segDepth := segmentDepth st
  let budget := pointBudget segDepth (st.get .acqMode)
  let k := decimation raw budget
  let points := min budget (raw / 2 ^ k)
  { rate := rate
    k := k
    points := points
    trigIndex := min (points * (st.get .tbPosition).toNat / 1000) (points - 1)
    segments := 2 ^ (st.get .acqSegments).toNat
    segDepth := segDepth }

/-- The record bytes (R79). -/
def recordBytesOf (st : Setup) : Nat := depthSamples (st.get .acqDepth) * (enabledChans st).length

/-- K (R79). -/
def slotCount (recordBytes : Nat) : Nat := min 16 (Config.acquisitionBytes / recordBytes)

/-- The place of stored point j of a channel and segment (R78, R108). -/
def pointAddress (slot recordBytes : Nat) (st : Setup) (c : Chan) (segment j : Nat) : Nat :=
  slot * recordBytes + (enabledChans st).idxOf c * depthSamples (st.get .acqDepth) + segment * segmentDepth st +
    j * pointSize (st.get .acqMode)

/-- The record's regions lie in acquisition memory, and `points` points of the segment in its segment area. -/
def regionFits (slot recordBytes : Nat) (st : Setup) (segment points : Nat) : Bool :=
  decide (slot * recordBytes + recordBytesOf st ≤ Config.acquisitionBytes) &&
  decide (segment * segmentDepth st + points * pointSize (st.get .acqMode) ≤ depthSamples (st.get .acqDepth))

/-! ### Bins and points (R73 to R76) -/

def emptyBin : Bin := ⟨0, 0#8, 0#8, 0#8, 0⟩

/-- A code added to a bin in progress. -/
def binAdd (b : Bin) (code : Byte) : Bin :=
  if b.count = 0 then ⟨1, code, code, code, code.toNat⟩
  else ⟨b.count + 1, b.first, if code < b.low then code else b.low, if b.high < code then code else b.high,
        b.sum + code.toNat⟩

/-- The HIRES value of a bin of 2^k codes with a given sum (R76). -/
def hiresValue (k sum : Nat) : Nat :=
  if k ≤ 8 then sum * 2 ^ (8 - k) else (sum + 2 ^ (k - 9)) / 2 ^ (k - 8)

/-- The bytes of a closed bin's point: the first code, the lowest and highest, or the mean with its low byte first (R74 to
R76; the order of a HIRES point's bytes is log 14). -/
def binPoint (mode : Int) (k : Nat) (b : Bin) : List Byte :=
  if mode = 0 then [b.first]
  else if mode = 1 then [b.low, b.high]
  else le16 (BitVec.ofNat 16 (hiresValue k b.sum))

/-! ### Level codes (R98) -/

/-- n / d rounded to the nearest integer, half away from zero, for d above 0. -/
def roundHalfAway (n d : Int) : Int :=
  if 0 ≤ n then (2 * n + d) / (2 * d) else -((2 * (-n) + d) / (2 * d))

/-- The code of a level v on the source channel. -/
def levelCode (st : Setup) (v : Int) : Nat :=
  let c := sourceChan st
  let s := scaleUv (st.get (.chScale c))
  (clampInt 1 254 (128 + roundHalfAway ((v + st.get (.chOffset c)) * 25) s)).toNat

/-! ### Detectors (R99 to R101) -/

def cleanDetectors : Detectors := ⟨false, false, .unknown⟩

/-- A rising detector on level L with hysteresis H: its new primed flag, and whether it fires (R100). -/
def risingStep (primed : Bool) (lower hyst code : Int) : Bool × Bool :=
  if primed && decide (lower ≤ code) then (false, true)
  else if code ≤ lower - hyst then (true, false)
  else (primed, false)

/-- A falling detector (R100). -/
def fallingStep (primed : Bool) (lower hyst code : Int) : Bool × Bool :=
  if primed && decide (code ≤ lower) then (false, true)
  else if lower + hyst ≤ code then (true, false)
  else (primed, false)

/-- The zone after a sample (R101). -/
def zoneStep (z : Zone) (lower upper hyst code : Int) : Zone :=
  if lower ≤ code ∧ code ≤ upper then .inside
  else if code < lower - hyst ∨ upper + hyst < code then .outside
  else z

/-- A code of the source channel offered to the detectors that TRIG.TYPE and TRIG.SLOPE choose: their new state, and whether
one of them fires (R99). -/
def detect (st : Setup) (lower upper : Nat) (d : Detectors) (code : Byte) : Detectors × Bool :=
  let lo : Int := lower
  let up : Int := upper
  let h := st.get .trigHyst
  let c : Int := code.toNat
  if st.get .trigType = 0 then
    let slope := st.get .trigSlope
    let r := if slope = 0 ∨ slope = 2 then risingStep d.rise lo h c else (d.rise, false)
    let f := if slope = 1 ∨ slope = 2 then fallingStep d.fall lo h c else (d.fall, false)
    ({ d with rise := r.1, fall := f.1 }, r.2 || f.2)
  else
    let z := zoneStep d.zone lo up h c
    let fires := if st.get .trigSlope = 3 then d.zone = .outside ∧ z = .inside else d.zone = .inside ∧ z = .outside
    ({ d with zone := z }, decide fires)

end Sys2Proof.Machine
end

