-- ==== Sys2Proof/Machine/Mapping.lean ====
section
/-! DEFINITION. From points to hits: rows, columns, the four steps of a span pass (sections 7.2 and 7.3). -/

namespace Sys2Proof.Machine

/-- A stored point mapped onto the waveform area: its column, the lowest and highest of its rows, and its anchor row. -/
structure Mapped where
  x : Int
  lo : Int
  hi : Int
  anchor : Int
  deriving DecidableEq, Repr

/-- The row of a c256 value (R132): σ is −1 when inverted; s_c, o_c from the record and s_v, o_v from the view. -/
def rowOf (invert : Bool) (sc oc sv ov v : Int) : Int :=
  let sigma : Int := if invert then -1 else 1
  200 + (sigma * (v - 32768) * sc + 6400 * (ov - oc)) / (128 * sv)

/-- N_h and D_h (R133). -/
def horizontalRatio (kc kv : Int) : Nat × Nat :=
  (tbMantissa kc * pow10 (tbExponent kc - tbExponent kv), tbMantissa kv * pow10 (tbExponent kv - tbExponent kc))

/-- The pan point c_p (R133). -/
def panPoint (points : Nat) (pan : Int) : Nat := min (points - 1) (points * pan.toNat / 1000)

/-- The column of stored index i (R133). -/
def columnOf (points : Nat) (kc kv pan : Int) (i : Nat) : Int :=
  let r := horizontalRatio kc kv
  350 + (((i : Int) - (panPoint points pan : Int)) * 700 * (r.1 : Int)) / ((points : Int) * (r.2 : Int))

/-- The c256 values of a stored point: one in SAMPLE and HIRES, the lowest and the highest in PEAK (R132). -/
def storedValues (mode : Int) (bytes : List Byte) : List Nat :=
  match mode, bytes with
  | 0, [a] => [a.toNat * 256]
  | 1, [a, b] => [a.toNat * 256, b.toNat * 256]
  | _, [a, b] => [(half a b).toNat]
  | _, _ => []

/-- A stored point onto the area, from the capture setup `st` and the view of its channel. -/
def mapPoint (st : Setup) (v : View) (c : Chan) (points i : Nat) (bytes : List Byte) : Mapped :=
  let row (value : Nat) := rowOf (v.invert.get c == 1) (scaleUv (st.get (.chScale c))) (st.get (.chOffset c))
    (scaleUv (v.scale.get c)) (v.offset.get c) value
  let x := columnOf points (st.get .tbScale) v.tbScale v.pan i
  match storedValues (st.get .acqMode) bytes with
  | [a] => ⟨x, row a, row a, row a⟩
  | [a, b] => ⟨x, min (row a) (row b), max (row a) (row b), (row a + row b) / 2⟩
  | _ => ⟨x, 0, -1, 0⟩

/-- A span of rows, lowest and highest. -/
abbrev Span := Int × Int

/-- Step 1 (R135): the rows of all points that map to column x. -/
def step1 (pts : List Mapped) (x : Int) : Option Span :=
  match pts.filter (fun p => p.x == x) with
  | [] => none
  | p :: rest => some (rest.foldl (fun sp q => (min sp.1 q.lo, max sp.2 q.hi)) (p.lo, p.hi))

/-- The last point whose column is left of x, and the first whose column is right of it (R136). -/
def leftAnchor (pts : List Mapped) (x : Int) : Option Mapped := (pts.filter (fun p => decide (p.x < x))).getLast?
def rightAnchor (pts : List Mapped) (x : Int) : Option Mapped := pts.find? (fun p => decide (x < p.x))

/-- Step 2 (R136): a column with no span between two points gets the interpolated row. -/
def step2 (pts : List Mapped) (x : Int) : Option Span :=
  match step1 pts x with
  | some sp => some sp
  | none =>
      match leftAnchor pts x, rightAnchor pts x with
      | some a, some b =>
          let y := a.anchor + ((b.anchor - a.anchor) * (x - a.x)) / (b.x - a.x)
          some (y, y)
      | _, _ => none

/-- A span joined to its left neighbour's step-2 span (R137). -/
def joinSpan (left cur : Span) : Span :=
  if left.2 < cur.1 then (left.2 + 1, cur.2)
  else if cur.2 < left.1 then (cur.1, left.1 - 1)
  else cur

/-- Step 3 (R137); column 0 is not joined. -/
def step3 (pts : List Mapped) (x : Int) : Option Span :=
  match step2 pts x with
  | none => none
  | some cur =>
      if x ≤ 0 then some cur
      else
        match step2 pts (x - 1) with
        | none => some cur
        | some left => some (joinSpan left cur)

/-- Step 4 (R138): clipped to rows 0..399; none when nothing is left to draw. -/
def clipSpan (sp : Span) : Option (Nat × Nat) :=
  if 399 < sp.1 ∨ sp.2 < 0 ∨ sp.2 < sp.1 then none
  else some ((max 0 sp.1).toNat, (min 399 sp.2).toNat)

/-- The rows hit in column x. -/
def hitRows (vectors : Bool) (pts : List Mapped) (x : Nat) : Option (Nat × Nat) :=
  (if vectors then step3 pts x else step1 pts x).bind clipSpan

/-- The address of cell (x, y) in a plane. -/
def cellAddress (x y : Nat) : Nat := y * Config.columns + x

/-- One hit more, held at 255 (R138). -/
def hitByte (b : Byte) : Byte := if b = 255#8 then b else b + 1#8

/-- One hit added to n cells of column x from row y upward. -/
def addHits (plane : Memory) (x y : Nat) : Nat → Memory
  | 0 => plane
  | n + 1 => addHits (memSet plane (cellAddress x y) (hitByte (memGet plane (cellAddress x y)))) x (y + 1) n

/-- The hits of one column. -/
def hitColumn (vectors : Bool) (pts : List Mapped) (plane : Memory) (x : Nat) : Memory :=
  match hitRows vectors pts x with
  | none => plane
  | some (lo, hi) => addHits plane x lo (hi + 1 - lo)

/-- The hits of one span pass added to a plane (R135 to R138). -/
def addSpans (vectors : Bool) (pts : List Mapped) (plane : Memory) : Memory :=
  (List.range Config.columns).foldl (hitColumn vectors pts) plane

/-- The stored points of one channel and segment, mapped, in stored-index order. -/
def mappedPoints (mem : Memory) (slot recordBytes : Nat) (h : Header) (v : View) (c : Chan) (segment : Nat) :
    List Mapped :=
  (List.range h.points).map (fun i =>
    mapPoint h.setup v c h.points i
      (memRead mem (pointAddress slot recordBytes h.setup c segment i) (pointSize (h.setup.get .acqMode))))

end Sys2Proof.Machine
end

