-- ==== Sys2Proof/Machine/Flags.lean ====
section
/-! DEFINITION. The flags: ATTENTION, the levels of the LEDs, and the clamped and adjusted flags of a commit. -/

namespace Sys2Proof.Machine

/-- ATTENTION (R195): some notice is both pending and enabled, and the link is open with its reset line not asserted. -/
def attention (k : LinkState) : Bool := takesTransfers k && ((k.notices &&& k.enables) != 0#7)

/-- The run condition of a routing entry (R36). -/
def runCondMet (c : RunCond) (run : RunState) : Bool :=
  match c with
  | .any => true
  | .running => run != .stopped
  | .stopped => run == .stopped

/-- What an LED's source gives (R57). -/
def sourceLit (e : LedEntry) (s : State) : Bool :=
  match e.source with
  | .fieldEq f v => s.setup.live.get f == v
  | .runState set => set.getLsbD (runCode s.seq.run)
  | .capState set => set.getLsbD (capCode s.seq.cap)
  | .lockout => s.router.lockout != .localControl
  | .link => e.linkValue
  | .standbyInd => s.power.state == .standby
  | .off => false

/-- The level of an LED: in STANDBY, dark unless its source is STANDBY_IND (R57). -/
def ledLevel (e : LedEntry) (s : State) : Bool :=
  if s.power.state = .standby ∧ e.source ≠ .standbyInd then false else sourceLit e s

/-- Every LED set from its source; from the beginning of start-up to its end every LED is dark (R58). -/
def evalLeds (s : State) : State :=
  if s.power.phase = .up then
    s.withRouter { s.router with lit := Vector.ofFn fun i => ledLevel s.router.leds[i] s }
  else s

/-- Clamped: some requested field is installed with a value other than the one requested (R16). -/
def clampedFlag (req : List (Field × Int)) (candidate : Setup) : Bool :=
  req.any (fun r => candidate.get r.1 != r.2)

/-- Adjusted: some field that was not requested differs from the live one (R16). -/
def adjustedFlag (req : List (Field × Int)) (live candidate : Setup) : Bool :=
  allFields.any (fun f => !(req.any (fun r => r.1 == f)) && candidate.get f != live.get f)

end Sys2Proof.Machine
end

