-- ==== Sys2Proof/Machine/Segments.lean ====
section
/-! DEFINITION. Run state and capture state, the start, arming and trigger of a segment (R82, R87, R88, R90, R91). -/

namespace Sys2Proof.Machine

/-- A change of capture state is reported to the Event Router, which re-evaluates the LEDs (R82, R58). -/
def setCap (c : CapState) (s : State) : State :=
  if s.seq.cap = c then s else evalLeds (s.withSeq { s.seq with cap := c })

/-- A change of run state, likewise. -/
def setRun (r : RunState) (s : State) : State :=
  if s.seq.run = r then s else evalLeds (s.withSeq { s.seq with run := r })

/-- Replaces the record in progress. -/
def setCurrent (r : Option Record) (s : State) : State := s.withSeq { s.seq with current := r }

/-- The trigger of the segment, detector or forced (R90, R91): the auto timer stops, the holdoff timer starts when the armed
TRIG.HOLDOFF is above 0, and the segment goes to POSTFILL. -/
def takeTrigger (t : Trigger) (r : Record) (s : State) : State :=
  let holdoff := if 0 < r.armed.holdoff then some (r.armed.holdoff.toNat * 10) else s.seq.holdoff
  setCap .postfill (s.withSeq { s.seq with
    auto := none
    holdoff := holdoff
    current := some { r with trigger := some t } })

/-- A forced trigger in the bin in progress, stamped with the time counter as it is taken (R91). -/
def forcedTrigger (s : State) : State :=
  match s.seq.current with
  | none => s
  | some r => takeTrigger ⟨r.bin, s.seq.time, true⟩ r s

/-- Prefill completion (R88): ARMED, the armed settings read from the live setup; then a pending force is taken, or in AUTO
the auto timer starts. -/
def arm (s : State) : State :=
  match s.seq.current with
  | none => s
  | some r =>
      let armed : Armed := ⟨s.setup.live.get .trigMode, s.setup.live.get .trigAutotime, s.setup.live.get .trigHoldoff⟩
      let s1 := setCap .armed (setCurrent (some { r with armed := armed }) s)
      if s.seq.forcePending then forcedTrigger (s1.withSeq { s1.seq with forcePending := false })
      else if armed.mode = 0 then s1.withSeq { s1.seq with auto := startMs armed.autotime.toNat }
      else s1

/-- A segment starts on entry to PREFILL (R87): bins empty, bin index 0, clip marks clear, no trigger, detectors clean, level
codes computed; with T = 0 it arms at once. -/
def segmentStart (s : State) : State :=
  match s.seq.current with
  | none => s
  | some r =>
      let r1 := { r with
        bin := 0
        trigger := none
        detectors := cleanDetectors
        bins := .all emptyBin
        marks := .all false
        before := []
        after := []
        lower := levelCode r.setup (r.setup.get .trigLevel)
        upper := levelCode r.setup (r.setup.get .trigUpper) }
      let s1 := setCap .prefill (setCurrent (some r1) s)
      if r.plan.trigIndex = 0 then arm s1 else s1

end Sys2Proof.Machine
end

