-- ==== Sys2Proof/Machine/Records.lean ====
section
/-! DEFINITION. The Record Store: finding records, choosing and granting slots, segment entries, closes and the record
notices (sections 6.1, 6.2 and 6.5). -/

namespace Sys2Proof.Machine

/-! ### Finding records -/

def slotHeader : Slot → Option Header
  | .free => none
  | .filling h => some h
  | .complete h => some h

def completeHeader : Slot → Option Header
  | .complete h => some h
  | _ => none

/-- The number, in ascending slot order, and header of every COMPLETE record. -/
def completeFrom (n : Nat) : List Slot → List (Nat × Header)
  | [] => []
  | .complete h :: rest => (n, h) :: completeFrom (n + 1) rest
  | _ :: rest => completeFrom (n + 1) rest

def completes (slots : List Slot) : List (Nat × Header) := completeFrom 0 slots

/-- The record of the list whose sequence number every other one is newer than (R110). -/
def oldest : List (Nat × Header) → Option (Nat × Header)
  | [] => none
  | x :: rest =>
      match oldest rest with
      | none => some x
      | some y => if newer x.2.number y.2.number then some y else some x

/-- The record of the list with the newest sequence number (R110). -/
def newest : List (Nat × Header) → Option (Nat × Header)
  | [] => none
  | x :: rest =>
      match newest rest with
      | none => some x
      | some y => if newer y.2.number x.2.number then some y else some x

def newestComplete (s : State) : Option (Nat × Header) := newest (completes s.store.slots)

/-- Places a record in a list that stands oldest first (R121). -/
def insertOldest (x : Nat × Header) : List (Nat × Header) → List (Nat × Header)
  | [] => [x]
  | y :: rest => if newer x.2.number y.2.number then y :: insertOldest x rest else x :: y :: rest

def oldestFirst (l : List (Nat × Header)) : List (Nat × Header) := l.foldr insertOldest []

/-- The slot that holds a sequence number, if any. -/
def findNumber (slots : List Slot) (number : Word) : Option Nat :=
  slots.findIdx? (fun sl => (slotHeader sl).map Header.number == some number)

/-- The COMPLETE record with a sequence number. -/
def findComplete (slots : List Slot) (number : Word) : Option (Nat × Header) :=
  (completes slots).find? (fun x => x.2.number == number)

/-- A header changed in place, in a COMPLETE or FILLING slot with that number. -/
def updateNumber (number : Word) (f : Header → Header) (slots : List Slot) : List Slot :=
  slots.map (fun sl => match sl with
    | .free => .free
    | .filling h => if h.number = number then .filling (f h) else sl
    | .complete h => if h.number = number then .complete (f h) else sl)

/-- A change of every COMPLETE record's header. -/
def updateCompletes (f : Header → Header) (slots : List Slot) : List Slot :=
  slots.map (fun sl => match sl with
    | .complete h => .complete (f h)
    | other => other)

/-! ### Granting slots (R111, R112, R113) -/

/-- Pinned by neither link and not DRAWING. -/
def mayReuse (h : Header) : Bool := !h.pins.console && !h.pins.remote && h.drawn != .drawing

/-- The release flag is set for every link whose subscription is on (R111, step 3). -/
def releasedByAll (sub : PerLink Bool) (h : Header) : Bool :=
  (!sub.console || h.released.console) && (!sub.remote || h.released.remote)

/-- The three steps of R111. -/
def chooseSlot (s : State) : Option Nat :=
  match s.store.slots.findIdx? (fun sl => decide (sl = .free)) with
  | some n => some n
  | none =>
      let keep := s.setup.live.get .acqRetain == 1
      (oldest ((completes s.store.slots).filter
        (fun x => mayReuse x.2 && (!keep || releasedByAll s.store.sub x.2)))).map Prod.fst

/-- A link's missed count after a record is reused (R112). -/
def missedAfter (st : RecordStore) (h : Header) (l : Link) : BitVec 16 :=
  if st.sub.get l && !h.released.get l then satInc (st.missed.get l) else st.missed.get l

/-- What is counted when the slot of a COMPLETE record is reused (R112). -/
def countReuse (sl : Slot) (st : RecordStore) : RecordStore :=
  match sl with
  | .complete h =>
      { st with
        overwritten := if h.drawn = .undrawn then satInc st.overwritten else st.overwritten
        missed := ⟨missedAfter st h .console, missedAfter st h .remote⟩ }
  | _ => st

/-- The fresh header of a grant (R109). -/
def freshHeader (number gen : Word) (live : Setup) : Header :=
  let setup := captureCopy live
  let plan := planOf setup
  { number := number
    gen := gen
    setup := setup
    k := plan.k
    points := plan.points
    trigIndex := plan.trigIndex
    planned := plan.segments
    completed := 0
    outcome := none
    clip := .all false
    segments := []
    drawn := .undrawn
    prior := .undrawn
    pins := .both false
    released := .both false }

/-- The record in progress right after its grant (R80, R83, R84). -/
def freshRecord (slot : Nat) (h : Header) : Record :=
  { slot := slot
    number := h.number
    gen := h.gen
    setup := h.setup
    plan := planOf h.setup
    lower := 0
    upper := 0
    segment := 0
    completed := 0
    bin := 0
    armed := ⟨0, 0, 0⟩
    trigger := none
    detectors := cleanDetectors
    bins := .all emptyBin
    marks := .all false
    before := []
    after := [] }

/-- A grant of slot n: the reused record is counted, the slot becomes FILLING with the next sequence number, and the sequencer
begins segment 0 (R84, R110, R111). -/
def grantSlot (n : Nat) (s : State) : State :=
  let h := freshHeader s.store.next s.setup.gen s.setup.live
  let st := countReuse (s.store.slots.getD n .free) s.store
  let s1 := s.withStore { st with slots := st.slots.set n (.filling h), next := st.next + 1#32, held := false }
  let s2 := s1.withSeq { s1.seq with front := alignFront (enabledChans h.setup) s1.seq.front }
  segmentStart (setCurrent (some (freshRecord n h)) s2)

/-- A slot request: granted at once, or held with the capture state at WAIT_SLOT (R84, R111). -/
def requestSlot (s : State) : State :=
  match chooseSlot s with
  | some n => grantSlot n s
  | none => setCap .waitSlot (s.withStore { s.store with held := true })

/-- A held request judged again (R113). -/
def reevaluate (s : State) : State :=
  if s.store.held then
    match chooseSlot s with
    | some n => grantSlot n s
    | none => s
  else s

/-! ### Segment entries and closes (R114) -/

/-- The segment clip marks added into the clip flags (R77). -/
def addMarks (a b : PerChan Bool) : PerChan Bool := perChan (fun c => a.get c || b.get c)

/-- A segment entry for the FILLING slot with that number. -/
def segmentEntry (number : Word) (e : SegEntry) (marks : PerChan Bool) (st : RecordStore) : RecordStore :=
  { st with slots := st.slots.map (fun sl => match sl with
      | .filling h =>
          if h.number = number then
            .filling { h with segments := h.segments ++ [e], completed := h.completed + 1, clip := addMarks h.clip marks }
          else sl
      | other => other) }

/-- A closed slot (R106, R114): COMPLETE when some segment has completed, else FREE. The release flag of a link is clear only
if its subscription is on. -/
def closedSlot (completed : Nat) (sub : PerLink Bool) (h : Header) : Slot :=
  if completed = 0 then .free
  else .complete { h with
    outcome := some (if h.planned ≤ completed then .full else .partialRecord)
    drawn := .undrawn
    prior := .undrawn
    pins := .both false
    released := ⟨!sub.console, !sub.remote⟩ }

def closeSlot (number : Word) (completed : Nat) (st : RecordStore) : RecordStore :=
  { st with slots := st.slots.map (fun sl => match sl with
      | .filling h => if h.number = number then closedSlot completed st.sub h else sl
      | other => other) }

/-- A FILLING slot holds the number. -/
def isFilling (number : Word) (st : RecordStore) : Bool :=
  st.slots.any (fun sl => match sl with
    | .filling h => h.number == number
    | _ => false)

/-! ### Record notices (R125) -/

/-- A completion counted for one link: its record notice after it, and whether RECORDS is set. -/
def countCompletion (r : RecordNotice) : RecordNotice × Bool :=
  let n := satInc r.unreported
  let t : Timer := if r.timer = none ∧ r.setting ≠ 0 then startMs r.setting else r.timer
  if r.pace ≤ n.toNat then ({ r with unreported := n, timer := none }, true)
  else ({ r with unreported := n, timer := t }, false)

def countCompletionOn (l : Link) (s : State) : State :=
  let r := countCompletion (s.store.notice.get l)
  let s1 := s.withStore { s.store with notice := s.store.notice.set l r.1 }
  if r.2 then notify l .records s1 else s1

end Sys2Proof.Machine
end

