-- ==== Sys2Proof/Machine/Raster.lean ====
section
/-! DEFINITION. The Raster Engine's scheduling: selections, draw starts, completions and abandonments (section 7.4), and what a
close hands to it. -/

namespace Sys2Proof.Machine

/-- The view, read whole from the live setup at draw start (R143). -/
def takeView (st : Setup) : View :=
  { scale := perChan (fun c => st.get (.chScale c))
    offset := perChan (fun c => st.get (.chOffset c))
    invert := perChan (fun c => st.get (.chInvert c))
    tbScale := st.get .tbScale
    pan := st.get .viewPan
    vectors := st.get .dispVectors
    persist := st.get .dispPersist }

/-- The record lies outside the view: the timebase indexes differ by more than 9 (R134). -/
def outsideView (h : Header) (v : View) : Bool :=
  decide (9 < h.setup.get .tbScale - v.tbScale) || decide (9 < v.tbScale - h.setup.get .tbScale)

/-- The lowest channel of a record's enabled set. -/
def firstChan (h : Header) : Chan := (enabledChans h.setup).headD .ch1

/-- The drawn status of a COMPLETE record at draw start: DRAWING, the status before it kept (R115). -/
def markDrawing (h : Header) : Header := { h with drawn := .drawing, prior := h.drawn }

def setDrawn (number : Word) (d : Drawn) (st : RecordStore) : RecordStore :=
  { st with slots := st.slots.map (fun sl => match sl with
      | .complete h => if h.number = number then .complete { h with drawn := d, prior := d } else sl
      | other => other) }

/-- The planes of the channels that a record lacks cleared, as a FIRST draw under persistence OFF begins (R144). -/
def clearOthers (h : Header) (planes : PerChan Memory) : PerChan Memory :=
  perChan (fun c => if (enabledChans h.setup).contains c then planes.get c else [])

/-- The engine drops its record, view and position and goes to IDLE (R145). -/
def dropDraw (s : State) : State := s.withRaster { s.raster with engine := .idle, draw := none }

/-- A draw completes: the store sets the drawn status and judges a held request again (R113, R115), and the engine is IDLE
(R145). The selection that follows is made by the caller. -/
def finishDraw (number : Word) (d : Drawn) (s : State) : State :=
  reevaluate (dropDraw (s.withStore (setDrawn number d s.store)))

/-- A draw begins (R142, R143): the record becomes DRAWING, the mark is set, the view is taken. A record outside the view
ends at once with SKIPPED_VIEW (R134); otherwise a FIRST draw under persistence OFF clears the planes of the channels that
the record lacks (R144). -/
def beginDraw (kind : DrawKind) (h : Header) (s : State) : State :=
  let v := takeView s.setup.live
  let s1 := s.withStore { s.store with slots := s.store.slots.map (fun sl => match sl with
    | .complete x => if x.number = h.number then .complete (markDrawing x) else sl
    | other => other) }
  let planes := if kind = .first ∧ v.persist = 0 ∧ !outsideView h v then clearOthers h s.raster.planes else s.raster.planes
  let d : Draw := ⟨h.number, markDrawing h, kind, v, 0, firstChan h⟩
  let s2 := s1.withRaster { s1.raster with engine := .rendering, draw := some d, mark := some h.number, planes := planes }
  if outsideView h v then finishDraw h.number .skippedView s2 else s2

/-- The oldest UNDRAWN record newer than the draw mark (R142). -/
def nextUndrawn (s : State) : Option (Nat × Header) :=
  oldest ((completes s.store.slots).filter (fun x =>
    x.2.drawn == .undrawn && (match s.raster.mark with
      | none => true
      | some m => newer x.2.number m)))

/-! ### Selections (R142)

A selection asks the store, which names a record, and the draw of it then starts. Another event can be taken between the two, so
they are two operations, and `chosen` holds the record named in between. -/

def choose (c : Option (DrawKind × Word)) (s : State) : State := s.withRaster { s.raster with chosen := c }

/-- The question of a selection made in IDLE: a pending redraw first, with the planes cleared, else the oldest UNDRAWN record
newer than the mark. -/
def askDraw (s : State) : State :=
  if s.raster.engine ≠ .idle then s
  else if s.raster.redraw then
    choose ((newestComplete s).map (fun x => (.redraw, x.2.number)))
      (s.withRaster { s.raster with redraw := false, planes := .all [] })
  else choose ((nextUndrawn s).map (fun x => (.first, x.2.number))) s

/-- The draw of the record named starts. A record that is no longer COMPLETE refuses it (R115); after a refusal and after a
skip the selection is made again, which the first argument bounds. -/
def startDraw : Nat → State → State
  | 0, s => choose none s
  | n + 1, s =>
      match s.raster.chosen with
      | none => s
      | some (kind, number) =>
          if s.raster.engine ≠ .idle then choose none s
          else
            match findComplete s.store.slots number with
            | some x => startDraw n (askDraw (beginDraw kind x.2 (choose none s)))
            | none => startDraw n (askDraw (choose none s))

/-- The draw start of the record named, if any: after at most one refusal, at most one redraw and one skip per slot can follow
one another. -/
def settleDraw (s : State) : State := startDraw (s.store.slots.length + 4) s

/-- A selection, no other event between its question and the draw start. -/
def selectDraw (s : State) : State := settleDraw (askDraw s)

/-! ### Reactions that the manual leaves unordered -/

/-- Takes the reactions one at a time; while two or more remain, the next number of `races` names the one taken (log 5). A
reaction that leaves a record named for drawing adds the draw start to those that remain (R142). The first argument bounds the
reactions, two for each that is given. -/
def interleave : Nat → List (State → State) → State → State
  | 0, _, s => s
  | n + 1, acts, s =>
      match acts with
      | [] => s
      | [act] => interleave n (lateStart (act s)) (act s)
      | _ =>
          let i := s.races.head % acts.length
          let t := (acts.getD i id) (s.withRaces s.races.tail)
          interleave n (lateStart t ++ acts.eraseIdx i) t
where
  /-- The draw start, when a record has been named. -/
  lateStart (s : State) : List (State → State) := if s.raster.chosen.isSome then [settleDraw] else []

def takeAll (acts : List (State → State)) (s : State) : State := interleave (2 * acts.length) acts s

/-! ### Offers, redraw requests and abandonments -/

/-- An offer of a completed record (R141): in IDLE the question of a selection; in RENDERING and HALTED nothing. -/
def offer (s : State) : State := askDraw s

/-- A redraw request (R146): redraw-pending, and in IDLE the question of a selection. -/
def redrawRequest (s : State) : State := askDraw (s.withRaster { s.raster with redraw := true })

/-- The abandonment of a layout change, naming a record (R148). -/
def drawFreed (number : Word) (s : State) : State :=
  match s.raster.draw with
  | some d => if s.raster.engine = .rendering ∧ d.number = number then selectDraw (dropDraw s) else s
  | none => s

/-- The record in progress closes with the segments it has completed (R106, R114): the slot, then for a COMPLETE record the
record notices of both links and the offer. The sequencer holds no record afterwards and goes on with `next`, which the
selection of the offer may overtake (R142). -/
def closeRecord (next : State → State) (s : State) : State :=
  match s.seq.current with
  | none => next s
  | some r =>
      let s1 := setCurrent none (s.withStore (closeSlot r.number r.completed s.store))
      if isFilling r.number s.store ∧ r.completed ≠ 0 then
        takeAll [offer, next] (countCompletionOn .remote (countCompletionOn .console s1))
      else next s1

/-- The next pass of a draw after (segment, channel), in the order of R139; none after the last. -/
def nextPass (h : Header) (segment : Nat) (c : Chan) : Option (Nat × Chan) :=
  match ((enabledChans h.setup).filter (fun x => decide (chanIndex c < chanIndex x))).head? with
  | some x => some (segment, x)
  | none => if segment + 1 < h.completed then some (segment + 1, firstChan h) else none

/-- The span pass at the draw position (R135 to R139, R144), then the next pass or the draw's completion and a selection
(R145). `slot` is the slot of the record in draw. -/
def spanPassAt (slot : Nat) (d : Draw) (s : State) : State :=
  let pts := mappedPoints s.store.mem slot s.store.recordBytes d.header d.view d.chan d.segment
  let old := if d.kind = .first ∧ d.view.persist = 0 ∧ d.segment = 0 then [] else s.raster.planes.get d.chan
  let planes := s.raster.planes.set d.chan (addSpans (d.view.vectors == 1) pts old)
  let s1 := s.withRaster { s.raster with planes := planes }
  match nextPass d.header d.segment d.chan with
  | some p => s1.withRaster { s1.raster with draw := some { d with segment := p.1, chan := p.2 } }
  | none => selectDraw (finishDraw d.number .drawn s1)

end Sys2Proof.Machine
end

