-- ==== Sys2Proof/Machine/Standby.lean ====
section
/-! DEFINITION. Entry into STANDBY (R207), the moves of the display-link state (R162, R166), and the sequencer's reports of
IDLE (R107). -/

namespace Sys2Proof.Machine

/-- The display-link state set, with DISPLAY on both links at each entry into and departure from LOCKED (R163); a departure
ends the frame in transmission (R158). -/
def setDispLink (d : DispLink) (s : State) : State :=
  let s1 := s.withDisp { s.disp with link := d, sending := if d = .locked then s.disp.sending else none }
  if (s.disp.link = .locked) = (d = .locked) then s1 else notifyBoth .display s1

/-- The transmission of the frame in hand, if any, completes (R158). -/
def finishSending (c : Composer) : Composer :=
  match c.sending with
  | some _ => { c with sent := c.sent + 1#32, sending := none }
  | none => c

/-- Power Control's stop to the Display Composer (R166). -/
def composerStop (s : State) : State :=
  let s1 := s.withDisp { s.disp with frameTimer := none, sending := none }
  if s1.disp.link = .locked then notifyBoth .display (s1.withDisp { s1.disp with link := .absent })
  else s1.withDisp { s1.disp with link := .absent }

/-- The debounce timers of every key but POWER stopped (R33). -/
def stopKeyTimers (p : PanelScanner) : PanelScanner :=
  { p with keys := Vector.ofFn fun i => if i.val = 63 then p.keys[i] else { p.keys[i] with timer := none } }

/-- The part enters STANDBY as one step (R207). -/
def enterStandby (s : State) : State :=
  let s1 := s.withPower { s.power with state := .standby, mainPower := false, requester := none }
  let s2 := s1.withSetup { s1.setup with outputs := none }
  let s3 := composerStop s2
  let s4 := s3.withPanel (stopKeyTimers s3.panel)
  let s5 := evalLeds s4
  match s.power.requester with
  | some (l, held) => finalStatus l held .ok .nothing s5
  | none => s5

/-- All three reports are in (R207). -/
def reportsIn (p : Power) : Bool := p.idleReport && p.savedReport && p.haltReport

/-- STANDBY is entered once STANDBY_PENDING has all three reports. -/
def tryStandby (s : State) : State :=
  if s.power.state = .standbyPending ∧ reportsIn s.power then enterStandby s else s

/-- The sequencer's report of IDLE, made once Power Control's stop has been taken (R107). -/
def reportIdle (s : State) : State :=
  if s.seq.standbyStop then tryStandby (s.withPower { s.power with idleReport := true }) else s

/-- The capture state reaches IDLE and the run state STOPPED: flags cleared, holdoff and auto timers stopped, no record in
progress (R82, R102, R103). -/
def enterIdle (s : State) : State :=
  let s1 := s.withSeq { s.seq with
    stopPending := false
    forcePending := false
    holdoff := none
    auto := none
    current := none }
  reportIdle (setRun .stopped (setCap .idle s1))

end Sys2Proof.Machine
end

