-- ==== Sys2Proof/Machine/Sequence.lean ====
section
/-! DEFINITION. The acquisition sequence: stop, force, capture changes and withdrawals, the completion of a segment, and a
sampling instant taken whole (chapters 4 and 5). -/

namespace Sys2Proof.Machine

/-- What follows the end of a record by a capture change or a withdrawal: with stop-pending, IDLE; else a record start, in
RUNNING and SINGLE alike (R86, R105). -/
def afterLostRecord (s : State) : State :=
  if s.seq.stopPending then enterIdle s else requestSlot s

/-- The segment in progress ends without completing: auto timer stopped, force-pending cleared; its bins and points go with
the record in progress (R86, R105). -/
def abandonSegment (s : State) : State := s.withSeq { s.seq with auto := none, forcePending := false }

/-- PREFILL, ARMED or POSTFILL. -/
def fillingState (c : CapState) : Bool :=
  match c with
  | .prefill => true
  | .armed => true
  | .postfill => true
  | _ => false

/-- A capture change that carries the generation of its commit (R105). DESIGN CHOICE: the close and the next record's slot request
reach the Record Store with nothing of the same commit between them (R86, R128; log 36). -/
def captureChange (gen : Word) (s : State) : State :=
  match s.seq.current with
  | none => s
  | some r =>
      if fillingState s.seq.cap ∧ !atOrAbove r.gen gen then closeRecord afterLostRecord (abandonSegment s) else s

/-- A withdrawal that names a sequence number (R86). -/
def withdrawal (number : Word) (s : State) : State :=
  match s.seq.current with
  | none => s
  | some r =>
      if fillingState s.seq.cap ∧ r.number = number then afterLostRecord (setCurrent none (abandonSegment s)) else s

/-- A layout change, taken whole at the Record Store (R127): every slot FREE, pins dropped, K and the record bytes computed
anew from the live setup; then the withdrawal, the abandonment of the draw, and the held request judged again. -/
def layoutChange (s : State) : State :=
  let filling := (s.store.slots.filterMap (fun sl => match sl with
    | .filling h => some h.number
    | _ => none)).head?
  let drawing := ((completes s.store.slots).find? (fun x => x.2.drawn == .drawing)).map (fun x => x.2.number)
  let bytes := recordBytesOf s.setup.live
  let s1 := s.withStore { s.store with
    slots := List.replicate (slotCount bytes) .free
    recordBytes := bytes
    pinsList := .both [] }
  let s2 := match filling with
    | some n => withdrawal n s1
    | none => s1
  let s3 := match drawing with
    | some n => drawFreed n s2
    | none => s2
  reevaluate s3

/-- A retention change (R113). -/
def retentionChange (s : State) : State := reevaluate s

/-- ACQ.STOP by the capture state (R95), without its answer. -/
def acqStop (s : State) : State :=
  match s.seq.cap with
  | .idle => s
  | .waitSlot => enterIdle (s.withStore { s.store with held := false })
  | .prefill => closeRecord enterIdle (abandonSegment s)
  | .armed => closeRecord enterIdle (abandonSegment s)
  | .postfill => s.withSeq { s.seq with stopPending := true }

/-- ACQ.FORCE by the capture state (R96), without its answer. -/
def acqForce (s : State) : State :=
  match s.seq.cap with
  | .armed => forcedTrigger s
  | .prefill => s.withSeq { s.seq with forcePending := true }
  | _ => s

/-- Power Control's stop for standby (R107): taken as ACQ.STOP; IDLE is reported when it is reached, at once in IDLE. -/
def standbyStop (s : State) : State :=
  let s1 := s.withSeq { s.seq with standbyStop := true }
  if s.seq.cap = .idle then reportIdle s1 else acqStop s1

/-! ### A segment's points -/

/-- The points stored for one channel in stored order: candidates before the trigger, then those from the trigger on (R89,
R92). -/
def storedPoints (r : Record) (c : Chan) : List (List Byte) :=
  (r.before.reverse ++ r.after.reverse).map (fun p => p.get c)

/-- A completed segment's points of one channel written at the places of R78 (log 14). -/
def writeChannel (recordBytes : Nat) (r : Record) (mem : Memory) (c : Chan) : Memory :=
  memSetMany mem (pointAddress r.slot recordBytes r.setup c r.segment 0) (storedPoints r c).flatten

def writeSegment (recordBytes : Nat) (r : Record) (mem : Memory) : Memory :=
  (enabledChans r.setup).foldl (writeChannel recordBytes r) mem

/-- The entry of the segment list: timestamp, trigger point held at 4,294,967,295, forced flag (R89, R92). -/
def segmentEntryOf (t : Trigger) : SegEntry := ⟨t.time, BitVec.ofNat 32 (min t.bin 4294967295), t.forced⟩

/-- Postfill completion (R92, R93): the segment is handed to the store; then the record closes and the run stops, the next
segment starts, or the record completes and another starts or the run stops. -/
def completeSegment (r : Record) (t : Trigger) (s : State) : State :=
  let st := segmentEntry r.number (segmentEntryOf t) r.marks s.store
  let r1 := { r with completed := r.completed + 1 }
  let s1 := setCurrent (some r1) (s.withStore { st with mem := writeSegment s.store.recordBytes r s.store.mem })
  if s.seq.stopPending then closeRecord enterIdle s1
  else if r1.segment + 1 < r1.plan.segments then
    segmentStart (setCurrent (some { r1 with segment := r1.segment + 1 }) s1)
  else if s.seq.run = .running then closeRecord requestSlot s1
  else closeRecord enterIdle s1

/-- The bins of a record closed: the point of every enabled channel, and empty bins (R73). -/
def closedPoints (r : Record) : PointSet :=
  perChan (fun c => if (enabledChans r.setup).contains c then binPoint (r.setup.get .acqMode) r.plan.k (r.bins.get c) else [])

/-- A closing bin (R87, R89, R92): a pretrigger candidate in PREFILL and ARMED, of which the T most recent are kept; the next
stored point in POSTFILL. The T-th bin arms the segment, and bin i + P − T − 1 completes it. -/
def closeBin (s : State) : State :=
  match s.seq.current with
  | none => s
  | some r =>
      let p := closedPoints r
      let r1 := { r with bin := r.bin + 1, bins := .all emptyBin }
      match s.seq.cap with
      | .prefill =>
          let s1 := setCurrent (some { r1 with before := (p :: r.before).take r.plan.trigIndex }) s
          if r.bin + 1 = r.plan.trigIndex then arm s1 else s1
      | .armed => setCurrent (some { r1 with before := (p :: r.before).take r.plan.trigIndex }) s
      | .postfill =>
          let r2 := { r1 with after := p :: r.after }
          match r.trigger with
          | some t =>
              if t.bin + (r.plan.points - r.plan.trigIndex) ≤ r.bin + 1 then completeSegment r2 t s
              else setCurrent (some r2) s
          | none => setCurrent (some r2) s
      | _ => s

/-- One sampling instant of every enabled channel, taken whole: clip marks (R77), detectors on the source channel (R81, R99),
a firing in ARMED without holdoff as the trigger (R90), then the bins, which close together at D samples (R73). DESIGN CHOICE:
the timestamp is the time counter when the last code of the instant has arrived, a SAMPLE carrying no sampling instant (log 13). -/
def takeInstant (codes : PerChan Byte) (r : Record) (s : State) : State :=
  let en := enabledChans r.setup
  let clipped (c : Chan) : Bool := en.contains c && (codes.get c == 0#8 || codes.get c == 255#8)
  let det := detect r.setup r.lower r.upper r.detectors (codes.get (sourceChan r.setup))
  let r1 := { r with
    marks := addMarks r.marks (perChan clipped)
    detectors := det.1
    bins := perChan (fun c => if en.contains c then binAdd (r.bins.get c) (codes.get c) else r.bins.get c) }
  let s1 := setCurrent (some r1) s
  let s2 := if det.2 ∧ s.seq.cap = .armed ∧ s.seq.holdoff = none then takeTrigger ⟨r.bin, s.seq.time, false⟩ r1 s1 else s1
  if (r1.bins.get (en.headD .ch1)).count = 2 ^ r.plan.k then closeBin s2 else s2

/-- There is a next instant, and every core of it has a code waiting. -/
def instantReady (en : List Chan) (f : Front) : Bool :=
  coresAt en f.next != [] && (coresAt en f.next).all (fun core => f.waiting[core] != [])

/-- The code of a channel at the instant that is next: that of the core which serves it then. -/
def codeAt (en : List Chan) (f : Front) (c : Chan) : Byte :=
  match (coresAt en f.next).find? (fun core => coreChan en core == some c) with
  | some core => f.waiting[core].headD 0#8
  | none => 0#8

/-- The streams once the instant that is next has been taken. -/
def passInstant (en : List Chan) (f : Front) : Front :=
  { f with
    next := (f.next + 1) % (instantCores en).length
    waiting := Vector.ofFn fun core =>
      if (coresAt en f.next).contains core then f.waiting[core].tail else f.waiting[core] }

def setFront (f : Front) (s : State) : State := s.withSeq { s.seq with front := f }

/-- A commit routes the cores to channels (R26, R67): with another enabled set their streams are followed afresh from the next
code (log 13). -/
def routeStreams (old new : Setup) (s : State) : State :=
  if enabledChans old = enabledChans new then s else setFront startFront s

/-- The sampling instants whose codes have all arrived are taken in their order, while the record is being filled (R67, R68). The
first argument bounds how many. -/
def takeInstants : Nat → State → State
  | 0, s => s
  | n + 1, s =>
      match s.seq.current with
      | none => s
      | some r =>
          let en := enabledChans r.setup
          let f := s.seq.front
          if fillingState s.seq.cap ∧ instantReady en f then
            takeInstants n (takeInstant (perChan (codeAt en f)) r (setFront (passInstant en f) s))
          else s

/-- A code joins those that wait for their sampling instant, or is passed over when its instant came before the record. -/
def joinFront (core : Fin 4) (code : Byte) (f : Front) : Front :=
  if f.skip[core] then { f with skip := f.skip.set core false }
  else { f with waiting := f.waiting.set core (f.waiting[core] ++ [code]) }

/-- The codes that wait. -/
def waitingCodes (f : Front) : Nat := (f.waiting.toList.map List.length).sum

/-- The enabled set by which the front end routes the streams (R26, R67): that of the record in progress, which ends when it
changes (R105); else that of the front-end outputs, none while they are inactive (R205). -/
def routing (s : State) : Option (List Chan) :=
  match s.seq.current with
  | some r => some (enabledChans r.setup)
  | none => s.setup.outputs.map (fun _ => enabledChans s.setup.live)

/-- The streams are followed from the first code under a routing, the next number of `races` naming what no code can tell of
the first instant (log 13). -/
def followStreams (en : List Chan) (core : Fin 4) (s : State) : State :=
  if s.seq.front.routing = some en then s
  else setFront (beginStreams en s.races.head core) (s.withRaces s.races.tail)

/-- A code of a converter core whose streams are followed (R67, R68): dropped unless the capture state is filling; else taken with
the other codes of its sampling instant, once they have arrived and every earlier instant has been taken (log 13). -/
def takeCode (en : List Chan) (core : Fin 4) (code : Byte) (s : State) : State :=
  let f := coreDelivers en core s.seq.front
  if s.seq.current.isSome ∧ fillingState s.seq.cap then
    let f1 := joinFront core code f
    takeInstants (waitingCodes f1) (setFront f1 s)
  else setFront f s

/-- A code of a converter core (R67, R68), dropped when the core serves no enabled channel. -/
def takeSample (core : Fin 4) (code : Byte) (s : State) : State :=
  match routing s with
  | none => s
  | some en => if (coreChan en core).isSome then takeCode en core code (followStreams en core s) else s

/-- The record in progress lies within acquisition memory. -/
def currentFits (s : State) : Bool :=
  match s.seq.current with
  | none => true
  | some r => regionFits r.slot s.store.recordBytes r.setup r.segment r.plan.points

end Sys2Proof.Machine
end

