-- ==== Sys2Proof/Machine/Commit.lean ====
section
/-! DEFINITION. The commit procedure (section 1.3), its sources, and what an installing commit hands on (section 1.6). -/

namespace Sys2Proof.Machine

/-! ### Steps 1 to 3 -/

/-- The value requested for a field, if any. -/
def requested (req : List (Field × Int)) (f : Field) : Option Int := (req.find? (fun r => r.1 == f)).map Prod.snd

/-- Step 1 for one field (R10): a requested enumerated value outside its set, or, at TRIG.SLOPE, a type–slope pair of the
setup the commit would build that is not legal (R3). -/
def offends (live : Setup) (req : List (Field × Int)) (f : Field) : Bool :=
  (match requested req f, handling f with
    | some v, .enum set => !set.contains v
    | _, _ => false) ||
  (f == .trigSlope &&
    !(legalSlopes ((requested req .trigType).getD (live.get .trigType))).contains
      ((requested req .trigSlope).getD (live.get .trigSlope)))

/-- The first offending field in ascending field ID (R10). -/
def firstOffence (live : Setup) (req : List (Field × Int)) : Option Field := allFields.find? (offends live req)

/-- Step 2 (R11, R12): a numeric value clamped to its fixed bounds; TB.SCALE further to the stopped timebase window about
index `window`, the result kept within 0..32. -/
def clampValue (window : Option Int) (f : Field) (v : Int) : Int :=
  match handling f with
  | .enum _ => v
  | .clamp lo hi =>
      let v1 := clampInt lo hi v
      match f, window with
      | .tbScale, some k => clampInt 0 32 (clampInt (k - 9) (k + 9) v1)
      | _, _ => v1

/-- Step 3: the live setup with each requested field replaced by its value after step 2. -/
def buildCandidate (live : Setup) (window : Option Int) (req : List (Field × Int)) : Setup :=
  req.foldr (fun r st => st.put r.1 (clampValue window r.1 r.2)) live

/-! ### Step 4: the adjustments -/

/-- Adjustment 1 (R13): one channel's CHn.OFFSET within the range of its scale. -/
def adjustOffset (st : Setup) (c : Chan) : Setup :=
  let b := offsetBound (st.get (.chScale c))
  st.put (.chOffset c) (clampInt (-b) b (st.get (.chOffset c)))

def adjust1 (st : Setup) : Setup := Config.chans.foldl adjustOffset st

/-- Adjustment 2 (R13): TRIG.SOURCE off a disabled channel. -/
def adjust2 (st : Setup) : Setup :=
  if st.get (.chOn (sourceChan st)) = 1 then st
  else
    match enabledChans st with
    | [] => st
    | c :: _ => st.put .trigSource (chanNumber c)

/-- The lowest and highest trigger level of the source channel (R2). -/
def levelRange (st : Setup) : Int × Int :=
  let c := sourceChan st
  let s := scaleUv (st.get (.chScale c))
  let o := st.get (.chOffset c)
  (-o - 5 * s, -o + 5 * s)

/-- Adjustment 3 (R13): the levels within the source channel's range, and in WINDOW the upper at least the lower. -/
def adjust3 (st : Setup) : Setup :=
  let r := levelRange st
  let level := clampInt r.1 r.2 (st.get .trigLevel)
  let upper := clampInt r.1 r.2 (st.get .trigUpper)
  let upper' := if st.get .trigType = 1 ∧ upper < level then level else upper
  (st.put .trigLevel level).put .trigUpper upper'

/-- The largest depth index at most d whose samples fit c channels (R14). -/
def fitDepth (c : Nat) : Nat → Nat
  | 0 => 0
  | d + 1 => if depthSamples ((d + 1 : Nat) : Int) * c ≤ Config.maxRecordSamples then d + 1 else fitDepth c d

/-- Adjustment 4 (R14). -/
def adjust4 (st : Setup) : Setup :=
  st.put .acqDepth (fitDepth (enabledChans st).length (st.get .acqDepth).toNat : Nat)

/-- Adjustment 5 (R14): at most 2d segments' exponent. -/
def adjust5 (st : Setup) : Setup := st.put .acqSegments (min (st.get .acqSegments) (2 * st.get .acqDepth))

/-- The five adjustments in order. -/
def adjustAll (st : Setup) : Setup := adjust5 (adjust4 (adjust3 (adjust2 (adjust1 st))))

/-! ### The verdict on a commit, before anything is installed -/

inductive Verdict where
  | invalid (f : Field)
  | constraint
  | candidate (st : Setup)
  deriving DecidableEq, Repr

/-- Steps 1 to 5 (R10 to R15). -/
def judge (live : Setup) (window : Option Int) (req : List (Field × Int)) : Verdict :=
  match firstOffence live req with
  | some f => .invalid f
  | none =>
      let st := adjustAll (buildCandidate live window req)
      if enabledChans st = [] then .constraint else .candidate st

/-- The stopped timebase window (R12, R116): the timebase index of the newest COMPLETE record, while STOPPED. -/
def timebaseWindow (s : State) : Option Int :=
  if s.seq.run = .stopped then (newestComplete s).map (fun x => x.2.setup.get .tbScale) else none

/-! ### Installing and handing on -/

/-- The fields whose values differ, in ascending field ID. -/
def changedFields (old new : Setup) : List Field := allFields.filter (fun f => old.get f != new.get f)

/-- The last-changed generations after a commit that changed some fields (R4). -/
def stampChanged (changed : Vector Word 44) (gen : Word) (fs : List Field) : Vector Word 44 :=
  fs.foldl (fun v f => v.set (fieldIndex f) gen) changed

/-- The front-end control outputs that present a live setup (R26). -/
def presentOutputs (st : Setup) : PerChan FrontEnd :=
  perChan (fun c => ⟨st.get (.chOn c) == 1, st.get (.chScale c), st.get (.chOffset c), st.get (.chCoupling c),
    st.get (.chBwl c)⟩)

/-- A CHn.ON, SCALE, OFFSET, COUPLING or BWL (R24). -/
def frontEndField : Field → Bool
  | .chOn _ => true
  | .chScale _ => true
  | .chOffset _ => true
  | .chCoupling _ => true
  | .chBwl _ => true
  | _ => false

/-- A field whose change requests a redraw while STOPPED (R24). -/
def redrawField (f : Field) : Bool :=
  decide (fieldClass f = .view) ||
  (match f with
    | .chScale _ => true
    | .chOffset _ => true
    | .tbScale => true
    | _ => false)

/-- The links that an installed commit notifies (R25). -/
def notifySource (src : Source) (s : State) : State :=
  match src with
  | .link l => notify (otherLink l) .setupChanged s
  | .store (some l) => notify (otherLink l) .setupChanged s
  | .store none => notifyBoth .setupChanged s
  | .panel => notifyBoth .setupChanged s
  | .system => notifyBoth .setupChanged s

/-- The reactions of the receivers that own acquisition, records and drawing, which the manual leaves unordered (R24). -/
def reactions (old new : Setup) (gen : Word) (stopped : Bool) : List (State → State) :=
  let fs := changedFields old new
  (if fs.any (fun f => decide (fieldClass f = .capture)) then [captureChange gen] else []) ++
  (if (enabledChans old).length ≠ (enabledChans new).length ∨ old.get .acqDepth ≠ new.get .acqDepth
    then [layoutChange] else []) ++
  (if old.get .acqRetain ≠ new.get .acqRetain then [retentionChange] else []) ++
  (if stopped && fs.any redrawField then [redrawRequest] else [])

/-- The candidate becomes the live setup: generation and last-changed generations, the front-end outputs and the quiet timer
(R4, R26, R27). -/
def installSetup (new : Setup) (s : State) : State :=
  let b := s.setup
  let gen := b.gen + 1#32
  let fs := changedFields b.live new
  s.withSetup { b with
    live := new
    gen := gen
    changed := stampChanged b.changed gen fs
    outputs := if fs.any frontEndField then b.outputs.map (fun _ => presentOutputs new) else b.outputs
    quiet := if s.power.state = .active then some Config.quietTime else b.quiet }

/-- An installing commit: installed, the cores routed, the links notified, the LEDs evaluated, and the receivers' reactions (R16,
R24, R25, R67). -/
def installAndHandOn (src : Source) (new : Setup) (s : State) : State :=
  let acts := reactions s.setup.live new (s.setup.gen + 1#32) (decide (s.seq.run = .stopped))
  takeAll acts (evalLeds (notifySource src (routeStreams s.setup.live new (installSetup new s))))

/-- Steps 1 to 6 of a commit that has passed the gate and the guard (R10 to R16). -/
def commit (src : Source) (req : List (Field × Int)) (s : State) : State × CommitResult :=
  match judge s.setup.live (timebaseWindow s) req with
  | .invalid f => (s, .invalid f)
  | .constraint => (s, .constraint)
  | .candidate st =>
      if st = s.setup.live then (s, .unchanged s.setup.gen (clampedFlag req st))
      else
        (installAndHandOn src st s,
          .applied (s.setup.gen + 1#32) (clampedFlag req st) (adjustedFlag req s.setup.live st))

/-- The lockout gate (R8): a commit from the console while lockout is not LOCAL. -/
def gated (l : Link) (s : State) : Bool := decide (l = .console) && decide (s.router.lockout ≠ .localControl)

/-- The staged fields changed since the base, in ascending field ID (R9). -/
def staleFields (b : Batch) (s : State) : List Field :=
  allFields.filter (fun f => (requested b.staged f).isSome && newer s.setup.changed[fieldIndex f] b.base)

/-- The status and payload by which a link is answered a commit's outcome (R9, R10, R15, R16). -/
def commitAnswer : CommitResult → Status × Payload
  | .locked => (.locked, .nothing)
  | .stale g fs => (.stale, .stale g fs)
  | .invalid f => (.invalid, .offending f)
  | .constraint => (.constraint, .nothing)
  | .unchanged g c => (.unchanged, .installed g c)
  | .applied g c a => (.applied, .applied g c a)

/-- All 44 factory values as requested values (R20). -/
def setupRequest (st : Setup) : List (Field × Int) := allFields.map (fun f => (f, st.get f))

/-! ### Run start -/

/-- ACQ.RUN and ACQ.SINGLE by the run state (R94), without the answer: from STOPPED the run state moves, the SYSTEM commit of
VIEW.PAN 500 is made, and a record is started (R23); else the run state moves and stop-pending is cleared. -/
def acqStart (target : RunState) (s : State) : State :=
  match s.seq.run with
  | .stopped => requestSlot (commit .system [(.viewPan, 500)] (setRun target s)).1
  | _ => setRun target (s.withSeq { s.seq with stopPending := false })

end Sys2Proof.Machine
end

