-- ==== Sys2Proof/Machine/SavedSetups.lean ====
section
/-! DEFINITION. The Store Controller: the saved image, the directory, the store queue, and each operation from its service to
its end (chapter 9). -/

namespace Sys2Proof.Machine

/-! ### The saved image (R169, R170, R204) -/

/-- The sum of the little-endian 16-bit words of a run of bytes. -/
def wordSum : List Byte → Nat
  | a :: b :: rest => a.toNat + 256 * b.toNat + wordSum rest
  | _ => 0

/-- The word that makes a sum of the other words come out to 0 (R169). -/
def checksumFor (sum : Nat) : BitVec 16 := BitVec.ofNat 16 ((65536 - sum % 65536) % 65536)

/-- An image of the listed bytes. -/
def imageOf (bytes : List Byte) : Image := Vector.ofFn fun i => bytes.getD i.val 0#8

def imageByte (img : Image) (n : Nat) : Byte := img.toList.getD n 0#8

/-- The body: the 44 fields as signed 32-bit values (R169). -/
def bodyBytes (st : Setup) : List Byte := allFields.flatMap (fun f => le32 (BitVec.ofInt 32 (st.get f)))

/-- The attributes byte: the saved-by code, plus 128 when locked (R169). -/
def attributesByte (savedBy : BitVec 7) (locked : Bool) : Byte := (if locked then 1#1 else 0#1) ++ savedBy

/-- The header's bytes before the checksum. -/
def headerBytes (attributes : Byte) (gen : BitVec 16) (label : Vector Byte 8) : List Byte :=
  [0xC3#8, 0x5A#8, 1#8, attributes] ++ le16 gen ++ label.toList

/-- An image composed of its parts, with the checksum of R169. -/
def composeImage (attributes : Byte) (gen : BitVec 16) (label : Vector Byte 8) (body : List Byte) : Image :=
  let head := headerBytes attributes gen label
  imageOf (head ++ le16 (checksumFor (wordSum head + wordSum body)) ++ body)

/-- The class of an image read from a slot (R170), as the directory entry that it gives. -/
def classify (img : Image) : DirEntry :=
  if imageByte img 0 = 0xFF#8 ∧ imageByte img 1 = 0xFF#8 then .empty
  else if imageByte img 0 = 0xC3#8 ∧ imageByte img 1 = 0x5A#8 ∧ imageByte img 2 = 1#8 ∧
      wordSum img.toList % 65536 = 0 then
    .valid (Vector.ofFn fun i => imageByte img (6 + i.val)) ((imageByte img 3).getLsbD 7) ((imageByte img 3).setWidth 7)
      (half (imageByte img 4) (imageByte img 5))
  else .corrupt

/-- The 44 body values of an image. -/
def imageSetup (img : Image) : Setup :=
  ⟨Vector.ofFn fun j =>
    (word (imageByte img (16 + 4 * j.val)) (imageByte img (17 + 4 * j.val)) (imageByte img (18 + 4 * j.val))
      (imageByte img (19 + 4 * j.val))).toInt⟩

/-- The image with its lock flag changed and its checksum made anew (R180). -/
def lockImage (img : Image) (on : Bool) : Image :=
  let bytes := img.toList
  composeImage (attributesByte ((imageByte img 3).setWidth 7) on) (half (imageByte img 4) (imageByte img 5))
    (Vector.ofFn fun i => imageByte img (6 + i.val)) (bytes.drop 16)

/-- The label of an autosave: "LAST" and four spaces (R185). -/
def lastLabel : Vector Byte 8 := #v[0x4C#8, 0x41#8, 0x53#8, 0x54#8, 0x20#8, 0x20#8, 0x20#8, 0x20#8]

/-- The saved-by code of a link (R169). -/
def savedByCode : Option Link → BitVec 7
  | some .console => 1#7
  | some .remote => 2#7
  | none => 3#7

/-- The image that a save or an autosave composes from the live setup (R177, R185). -/
def snapshotImage (source : Option Link) (label : Vector Byte 8) (b : SetupBlock) : Image :=
  composeImage (attributesByte (savedByCode source) false) (b.gen.setWidth 16) label (bodyBytes b.live)

/-! ### Directory and queue -/

def setEntry (slot : Fin 12) (e : DirEntry) (s : State) : State :=
  s.withSaved { s.saved with directory := s.saved.directory.set slot e }

/-- The operation in flight with its next EEPROM access in hand, or none: an access that begins has 20 ms (R168). -/
def setOp (op : Option Op) (s : State) : State :=
  s.withSaved { s.saved with op := op, limit := op.map (fun _ => Config.accessTime), polling := false }

/-- The directory entry is VALID with the lock flag set (R175, R176). -/
def lockedEntry : DirEntry → Bool
  | .valid _ locked _ _ => locked
  | _ => false

/-- The status after a cancel mark (R182). -/
def markedStatus (status : Status) : Status :=
  match status with
  | .done => .doneDespiteCancel
  | .applied => .doneDespiteCancel
  | .unchanged => .doneDespiteCancel
  | _ => .cancelled

/-- The final status of an operation handed to its link: none for autosave, and dropped once the link has been reset (R174,
R183). -/
def deliver (op : Op) (status : Status) (payload : Payload) (s : State) : State :=
  match op.req.source with
  | none => s
  | some l => if op.dropped then s else finalStatus l op.req.held (if op.marked then markedStatus status else status) payload s

/-- The service of a request whose directory entry is known (R176): the operation goes on with its first access, or ends at
once with a status. -/
def serviceKnown (op : Op) (s : State) : State × Option (Status × Payload) :=
  let e := s.saved.directory[op.req.slot]
  match op.req.kind with
  | .save label =>
      if lockedEntry e then (s, some (.slotLocked, .nothing))
      else
        (setOp (some { op with phase := .writing (snapshotImage op.req.source label s.setup) s.setup.gen 0 })
          (setEntry op.req.slot .corrupt s), none)
  | .autosave =>
      (setOp (some { op with phase := .writing (snapshotImage none lastLabel s.setup) s.setup.gen 0 })
        (setEntry op.req.slot .corrupt s), none)
  | .recall =>
      if e = .empty then (s, some (.slotEmpty, .nothing)) else (setOp (some { op with phase := .reading }) s, none)
  | .erase =>
      if lockedEntry e then (s, some (.slotLocked, .nothing))
      else (setOp (some { op with phase := .erasing }) (setEntry op.req.slot .corrupt s), none)
  | .lock on =>
      match e with
      | .empty => (s, some (.slotEmpty, .nothing))
      | .valid _ locked _ _ =>
          if locked = on then (s, some (.done, .nothing)) else (setOp (some { op with phase := .reading }) s, none)
      | _ => (setOp (some { op with phase := .reading }) s, none)

/-- The service of a request begins (R176): an UNREAD entry is resolved first, by a read of the slot. -/
def beginService (op : Op) (s : State) : State × Option (Status × Payload) :=
  if s.saved.directory[op.req.slot] = .unread then (setOp (some { op with phase := .resolving }) s, none)
  else serviceKnown op s

/-- A request at the beginning of its service. -/
def opOf (req : StoreReq) : Op := ⟨req, false, false, .resolving⟩

/-- The Store Controller's final-autosave report (R186, R207). -/
def savedReport (s : State) : State := tryStandby (s.withPower { s.power with savedReport := true })

/-- The final autosave request (R186): slot 0 is saved when its saved generation differs from the live one; else, and in
ABSENT, the report is made at once. -/
def finalAutosave (s : State) : State :=
  let s1 := s.withSaved { s.saved with finalAsked := true }
  if s.saved.ctrl = .absent ∨ s.setup.gen = s.saved.slot0Gen then savedReport s1
  else
    match beginService (opOf ⟨none, .autosave, 0, false⟩) (s1.withSaved { s1.saved with ctrl := .busy }) with
    | (s2, none) => s2
    | (s2, some _) => savedReport s2

/-- No operation is in flight and nothing is queued: BUSY becomes IDLE (R172), and while standby is entered the controller
reports (R186). -/
def storeAtRest (s : State) : State :=
  let s1 := if s.saved.ctrl = .busy then s.withSaved { s.saved with ctrl := .idle } else s
  if s1.saved.cancelled then (if s1.saved.finalAsked then savedReport s1 else finalAutosave s1) else s1

/-- The oldest queued request is served when no operation is in flight, and the next after one that ends at once (R172,
R174). The first argument bounds how many. -/
def serveQueue : Nat → State → State
  | 0, s => s
  | n + 1, s =>
      match s.saved.op, s.saved.queue with
      | some _, _ => s
      | none, [] => storeAtRest s
      | none, req :: rest =>
          match beginService (opOf req) (s.withSaved { s.saved with queue := rest, ctrl := .busy }) with
          | (s1, none) => s1
          | (s1, some r) => serveQueue n (deliver (opOf req) r.1 r.2 (setOp none s1))

def serveNext (s : State) : State := serveQueue (s.saved.queue.length + 1) s

/-- The operation in flight ends with a status (R172, R174, R193). -/
def endOp (op : Op) (status : Status) (payload : Payload) (s : State) : State :=
  serveNext (deliver op status payload (setOp none s))

/-! ### Arrival (R175) -/

/-- The link has a store request queued or in flight. -/
def hasRequest (l : Link) (sv : SavedStore) : Bool :=
  sv.queue.any (fun r => r.source == some l) ||
  (match sv.op with
    | some op => op.req.source == some l
    | none => false)

/-- The slot 0..11 of a request. -/
def slotOf (b : Byte) : Option (Fin 12) := if h : b.toNat < 12 then some ⟨b.toNat, h⟩ else none

/-- The kinds that may not name slot 0 (R175). -/
def writesSlot : StoreKind → Bool
  | .recall => false
  | _ => true

/-- SAVE and ERASE, which a locked slot refuses (R175). -/
def lockChecked : StoreKind → Bool
  | .save _ => true
  | .erase => true
  | _ => false

/-- The checks at arrival in order: the refusal, or none (R175, R186). `valuesOk` is the check of label and lock value. -/
def arrivalRefusal (l : Link) (kind : StoreKind) (valuesOk : Bool) (slot : Byte) (s : State) : Option Status :=
  if s.saved.cancelled then some .inStandby
  else if kind = .recall ∧ gated l s then some .locked
  else if s.saved.ctrl = .absent then some .noStore
  else
    match slotOf slot with
    | none => some .invalid
    | some n =>
        if n.val = 0 ∧ writesSlot kind then some .notPermitted
        else if !valuesOk then some .invalid
        else if lockChecked kind && lockedEntry s.saved.directory[n] then some .slotLocked
        else if hasRequest l s.saved then some .busy
        else none

/-- A store request judged at arrival, and queued when it passes (R174, R175). -/
def storeRequest (l : Link) (tag code : Byte) (kind : StoreKind) (valuesOk : Bool) (slot : Byte) (s : State) : State :=
  match arrivalRefusal l kind valuesOk slot s, slotOf slot with
  | some st, _ => answer l st .nothing s
  | none, some n =>
      let s1 := acceptLong l tag code s
      serveNext (s1.withSaved { s1.saved with queue := s1.saved.queue ++ [⟨some l, kind, n, holds l s⟩] })
  | none, none => answer l .invalid .nothing s

/-! ### Accesses that end (R168, R176 to R180, R185) -/

/-- The status of a recall from the outcome of its commit (R178). -/
def recallStatus : CommitResult → Status × Payload
  | .applied g c _ => (.applied, .installed g c)
  | .unchanged g c => (.unchanged, .installed g c)
  | .invalid _ => (.invalid, .nothing)
  | .constraint => (.constraint, .nothing)
  | .stale _ _ => (.stale, .nothing)
  | .locked => (.locked, .nothing)

/-- The read of a recall ends (R178). -/
def recallRead (op : Op) (img : Image) (s : State) : State :=
  let s1 := setEntry op.req.slot (classify img) s
  match classify img with
  | .empty => endOp op .slotEmpty .nothing s1
  | .valid .. =>
      let r := commit (.store (if op.dropped then none else op.req.source)) (setupRequest (imageSetup img)) s1
      endOp op (recallStatus r.2).1 (recallStatus r.2).2 r.1
  | _ => endOp op .slotCorrupt .nothing s1

/-- The read of a lock change ends (R180). -/
def lockRead (op : Op) (on : Bool) (img : Image) (s : State) : State :=
  match classify img with
  | .empty => endOp op .slotEmpty .nothing (setEntry op.req.slot .empty s)
  | .valid label locked savedBy gen =>
      if locked = on then endOp op .done .nothing (setEntry op.req.slot (.valid label locked savedBy gen) s)
      else setOp (some { op with phase := .locking (lockImage img on) }) (setEntry op.req.slot .corrupt s)
  | _ => endOp op .slotCorrupt .nothing (setEntry op.req.slot .corrupt s)

/-- A read of the operation in flight completes; no effect when it makes no read. -/
def opRead (img : Image) (s : State) : State :=
  match s.saved.op with
  | none => s
  | some op =>
      match op.phase with
      | .resolving =>
          match serviceKnown op (setEntry op.req.slot (classify img) s) with
          | (s1, none) => s1
          | (s1, some r) => endOp op r.1 r.2 s1
      | .reading =>
          match op.req.kind with
          | .lock on => lockRead op on img s
          | _ => recallRead op img s
      | _ => s

/-- The sixth page write of a save or an autosave has ended (R177, R185). -/
def writeEnds (op : Op) (img : Image) (gen : Word) (s : State) : State :=
  let s1 := setEntry op.req.slot (classify img) s
  match op.req.kind with
  | .autosave => endOp op .done .nothing (s1.withSaved { s1.saved with slot0Gen := gen })
  | _ => endOp op .done (.saved op.req.slot gen) s1

/-- A page write of the operation in flight ends; no effect when it makes none. -/
def opPage (s : State) : State :=
  match s.saved.op with
  | none => s
  | some op =>
      match op.phase with
      | .writing img gen page =>
          if page < 5 then setOp (some { op with phase := .writing img gen (page + 1) }) s else writeEnds op img gen s
      | .erasing => endOp op .done .nothing (setEntry op.req.slot .empty s)
      | .locking img => endOp op .done .nothing (setEntry op.req.slot (classify img) s)
      | _ => s

/-- An access of the operation in flight ends in a fault (R168): the operation ends with STORE_FAULT. -/
def opFault (s : State) : State :=
  match s.saved.op with
  | none => s
  | some op =>
      match op.phase, op.req.kind with
      | .writing _ _ _, .autosave => endOp op .storeFault .nothing (s.withSaved { s.saved with slot0Gen := 0#32 })
      | .writing _ _ page, _ => endOp op .storeFault (.pages page) s
      | _, _ => endOp op .storeFault .nothing s

/-! ### Cancelling, autosave and standby (R182 to R186) -/

/-- An autosave offer (R184). -/
def autosaveOffer (s : State) : State :=
  let inHand := s.saved.queue.any (fun r => r.source == none) ||
    (match s.saved.op with
      | some op => op.req.source == none
      | none => false)
  if s.saved.ctrl = .absent ∨ s.saved.cancelled ∨ s.setup.gen = s.saved.slot0Gen ∨ inHand then s
  else serveNext (s.withSaved { s.saved with queue := s.saved.queue ++ [⟨none, .autosave, 0, false⟩] })

/-- STORE.CANCEL's effect and answer outside ABSENT (R182). -/
def cancelRequest (l : Link) (s : State) : State :=
  match s.saved.queue.find? (fun r => r.source == some l) with
  | some req =>
      let s1 := s.withSaved { s.saved with queue := s.saved.queue.filter (fun r => r.source != some l) }
      answer l .ok .removed (deliver (opOf req) .cancelled .nothing s1)
  | none =>
      match s.saved.op with
      | some op =>
          if op.req.source = some l then answer l .ok .marked (s.withSaved { s.saved with op := some { op with marked := true } })
          else answer l .ignored .nothing s
      | none => answer l .ignored .nothing s

/-- A link's reset at the Store Controller (R183). -/
def resetStore (l : Link) (s : State) : State :=
  s.withSaved { s.saved with
    queue := s.saved.queue.filter (fun r => r.source != some l)
    op := s.saved.op.map (fun op => if op.req.source = some l then { op with dropped := true } else op) }

/-- The standby cancellation (R186): queued requests leave with CANCELLED, and the controller reports when it is at rest. -/
def cancelStore (s : State) : State :=
  let s1 := s.withSaved { s.saved with queue := [], cancelled := true }
  let s2 := s.saved.queue.foldl (fun t req => deliver (opOf req) .cancelled .nothing t) s1
  if s2.saved.op = none then storeAtRest s2 else s2

end Sys2Proof.Machine
end

