-- ==== Sys2Proof/Machine/StartUp.lean ====
section
/-! DEFINITION. Start-up, after power-on and after wake (R28, R33, R173, R201, R209, R210): its beginning, the scan, and the
stages 4 and 5 that its end brings. -/

namespace Sys2Proof.Machine

/-! ### Stages 1 and 2 -/

/-- A key at its start-up value, the level on its line kept: a line is a pin. -/
def restKey (k : Key) : Key := { startKey with line := k.line }

/-- An encoder likewise. -/
def restEncoder (e : Encoder) : Encoder := { startEncoder with lineA := e.lineA, lineB := e.lineB }

/-- A link at its start-up value, the level of its reset line kept. -/
def restLink (k : LinkState) : LinkState := { startLink with resetLine := k.resetLine }

/-- Stages 1 and 2 of R210 and the beginning of the scan: every block takes its start-up value but for the input pins, the
power state is ACTIVE, MAIN_POWER is high, and slot 0 is being read. The commands that wait and the free choices stay. -/
def beginStartUp (device : BitVec 7) (s : State) : State :=
  { State.reset with
    panel := { startPanel with
      keys := Vector.ofFn fun i => restKey s.panel.keys[i]
      encs := Vector.ofFn fun i => restEncoder s.panel.encs[i] }
    disp := { startComposer with present := s.disp.present, lock := s.disp.lock }
    links := ⟨restLink s.links.console, restLink s.links.remote⟩
    saved := { startSaved with device := device, scanSlot := some 0, limit := some Config.accessTime }
    power := { startPower with mainPower := true, phase := .starting }
    races := s.races
    pending := s.pending }

/-- Start-up after power-on: the straps give the device address 50h to 53h (R209, R210). -/
def startUpPowerOn (straps : BitVec 2) (s : State) : State := beginStartUp (0x50#7 + straps.setWidth 7) s

/-- An LED entry as wake leaves it: source and operands kept, link value off (R61, R209). -/
def wakeLed (e : LedEntry) : LedEntry := { e with linkValue := false }

/-- Start-up after wake: the device address, the routing table, the default action and the LED sources stay (R209). -/
def wake (s : State) : State :=
  (beginStartUp s.saved.device s).withRouter { startRouter with
    routes := s.router.routes
    defaultAction := s.router.defaultAction
    leds := Vector.ofFn fun i => wakeLed s.router.leds[i] }

/-! ### Stage 4 -/

/-- The setup that start-up installs, and whether slot 0 supplied it (R28). -/
def startUpSetup (s : State) : Setup × Bool :=
  match s.saved.scanSetup with
  | none => (factorySetup, false)
  | some st =>
      match judge s.setup.live none (setupRequest (st.put .viewPan 500)) with
      | .candidate c => (c, true)
      | _ => (factorySetup, false)

/-- Stage 4 (R28, R173, R205, R210): the setup with every generation 1, the front-end outputs, the slot-0 saved generation, K
and FREE slots. -/
def installStartUp (s : State) : State :=
  let pick := startUpSetup s
  let bytes := recordBytesOf pick.1
  let s1 := s.withSetup { s.setup with
    live := pick.1
    gen := 1#32
    changed := Vector.replicate 44 1#32
    outputs := some (presentOutputs pick.1) }
  let s2 := s1.withSaved { s1.saved with slot0Gen := if pick.2 then 1#32 else 0#32, scanSlot := none, scanSetup := none, limit := none }
  s2.withStore { s2.store with slots := List.replicate (slotCount bytes) .free, recordBytes := bytes }

/-! ### Stage 5 -/

/-- The scanner begins scanning (R33). -/
def beginScanning (p : PanelScanner) : PanelScanner :=
  { p with
    keys := Vector.ofFn fun i => { p.keys[i] with settled := p.keys[i].line, timer := none }
    encs := Vector.ofFn fun i => { p.encs[i] with
      lastA := p.encs[i].lineA
      lastB := p.encs[i].lineB
      progress := 0
      sync := p.encs[i].lineA && p.encs[i].lineB } }

/-- The first interval of the frame timer (R151). -/
def firstInterval : Nat := 16666667

/-- The composer's part: the frame timer starts, and the display-link state follows the lines without a notice (R166). -/
def startComposing (c : Composer) : Composer :=
  { c with
    frameTimer := some firstInterval
    framePhase := 0
    link := if c.present then (if c.lock then .locked else .training) else .absent }

/-- A link opens: READY high unless its reset line is asserted (R187, R201). -/
def openLink (k : LinkState) : LinkState := { k with opened := true, ready := !k.resetLine }

/-- Stage 5 (R210); its parts belong to different blocks. The record start comes last: it asks nothing of the others. -/
def finishStartUp (s : State) : State :=
  let s1 := s.withPower { s.power with phase := .up }
  let s2 := s1.withPanel (beginScanning s1.panel)
  let s3 := s2.withDisp (startComposing s2.disp)
  let s4 := s3.withLinks ⟨openLink s3.links.console, openLink s3.links.remote⟩
  let s5 := s4.withSetup { s4.setup with quiet := some Config.quietTime }
  requestSlot (setRun .running (evalLeds s5))

/-! ### Stage 3: the scan (R173) -/

/-- The scan ends, with the controller IDLE or ABSENT; stages 4 and 5 follow. -/
def endScan (ctrl : StoreState) (s : State) : State :=
  finishStartUp (installStartUp (s.withSaved { s.saved with ctrl := ctrl }))

/-- The scan goes on after slot n. -/
def scanOn (n : Fin 12) (s : State) : State :=
  if h : n.val + 1 < 12 then s.withSaved { s.saved with scanSlot := some ⟨n.val + 1, h⟩, limit := some Config.accessTime } else endScan .idle s

/-- The read of slot n has completed with an image. -/
def scanRead (n : Fin 12) (img : Image) (s : State) : State :=
  let s1 := setEntry n (classify img) s
  match n.val, classify img with
  | 0, .valid .. => scanOn n (s1.withSaved { s1.saved with scanSetup := some (imageSetup img) })
  | _, _ => scanOn n s1

/-- The read of slot n has faulted: of slot 0, the EEPROM is absent; of a later slot, its entry stays UNREAD. -/
def scanFault (n : Fin 12) (s : State) : State := if n.val = 0 then endScan .absent s else scanOn n s

end Sys2Proof.Machine
end

