-- ==== Sys2Proof/Machine/EepromEvents.lean ====
section
/-! DEFINITION. The ends of EEPROM accesses (R168, R173): of the scan while it runs, else of the operation in flight. An end
without an access in hand cannot occur, and leaves the state as it is (log 21). -/

namespace Sys2Proof.Machine

/-- EEPROM_READ_COMPLETE: the 192 bytes of a slot image. -/
def execEepromReadComplete (image : Vector Byte 192) (s : State) : Result :=
  match s.saved.scanSlot with
  | some n => .next (scanRead n image s)
  | none => .next (opRead image s)

/-- PAGE_WRITE_COMPLETE. -/
def execPageWriteComplete (s : State) : Result := .next (opPage s)

/-- EEPROM_ACCESS_FAULT. -/
def execEepromAccessFault (s : State) : Result :=
  match s.saved.scanSlot with
  | some n => .next (scanFault n s)
  | none => .next (opFault s)

/-! ### The two-wire line (R167, R168) -/

/-- An access: a run of consecutive bytes read, or the bytes of one page written, from a byte address on. -/
inductive Access where
  | read (address length : Nat)
  | write (address : Nat) (bytes : List Byte)
  deriving DecidableEq, Repr

/-- The address of page j of slot n (R167). -/
def pageAddress (n j : Nat) : Nat := n * Config.slotStride + j * Config.pageSize

/-- The 32 bytes of page j of an image (R167). -/
def pageBytes (img : Image) (j : Nat) : List Byte := (img.toList.drop (j * Config.pageSize)).take Config.pageSize

/-- The read of a whole slot image (R168). -/
def slotRead (n : Nat) : Access := .read (pageAddress n 0) Config.imageBytes

/-- The access that an operation on slot n has in hand: pages 0 to 5 of a save (R177, R185), the header page as FFh of an erase
(R179), the new header page of a lock change (R180), else a read of the slot (R176, R178). -/
def phaseAccess (n : Nat) : OpPhase → Access
  | .resolving => slotRead n
  | .reading => slotRead n
  | .writing img _ page => .write (pageAddress n page) (pageBytes img page)
  | .erasing => .write (pageAddress n 0) (List.replicate Config.pageSize 0xFF#8)
  | .locking img => .write (pageAddress n 0) (pageBytes img 0)

/-- The access in hand on device `saved.device`: a read of the scan, or that of the operation in flight. -/
def accessInHand (sv : SavedStore) : Option Access :=
  match sv.scanSlot with
  | some n => some (slotRead n.val)
  | none => sv.op.map (fun op => phaseAccess op.req.slot.val op.phase)

/-- The access in hand is a page write. -/
def writesPage (sv : SavedStore) : Bool :=
  match accessInHand sv with
  | some (.write ..) => true
  | _ => false

/-- The 20 ms of an access have run out (R168). While the device is addressed, whether it has acknowledged in time is not the
part's to know, and the next number of `races` says (log 20): without an acknowledge the access ends in a fault; with one a read
goes on, and a page write has sent its bytes and polls for another 20 ms, after which it ends in a fault. -/
def accessLimit (s : State) : Result :=
  if s.saved.limit = none then .next s
  else if s.saved.polling then execEepromAccessFault s
  else
    let s1 := s.withRaces s.races.tail
    if s.races.head % 2 = 0 then execEepromAccessFault s1
    else if writesPage s.saved then .next (s1.withSaved { s1.saved with limit := some Config.accessTime, polling := true })
    else .next (s1.withSaved { s1.saved with limit := none })

end Sys2Proof.Machine
end

