-- ==== Sys2Proof/Machine/EventQueues.lean ====
section
/-! DEFINITION. The event queues (section 3.1): entering, merging, spilling, the threshold check and the queue timer. -/

namespace Sys2Proof.Machine

/-- The longest event queue (R48). -/
def queueCapacity : Nat := 32

def setQueue (l : Link) (q : EventQueue) (s : State) : State := s.withQueues (s.queues.set l q)

/-- A record placed after every entry whose time is equal or earlier, before the first that is later (R49). -/
def insertByTime (e : PanelEvent) : List PanelEvent → List PanelEvent
  | [] => [e]
  | x :: rest => if newer x.time e.time then e :: x :: rest else x :: insertByTime e rest

/-- The threshold check (R52). -/
def thresholdCheck (l : Link) (s : State) : State :=
  let q := s.queues.get l
  if q.threshold ≤ q.entries.length then notify l .events (setQueue l { q with timer := none } s) else s

/-- A new entry enters the queue (R49, R51 to R53). -/
def enterEntry (l : Link) (e : PanelEvent) (s : State) : State :=
  let q := s.queues.get l
  if q.entries.length < queueCapacity then
    thresholdCheck l (setQueue l { q with
      entries := insertByTime e q.entries
      timer := if q.entries = [] then startMs q.setting else q.timer } s)
  else
    match q.mode with
    | .hold => setQueue l { q with lost := satInc q.lost } s
    | .overwrite =>
        thresholdCheck l (setQueue l { q with entries := (insertByTime e q.entries).tail, lost := satInc q.lost } s)

/-- The entry that an arriving record merges with: the newest, when both are a TURN of one control (R50). -/
def mergesWith (e : PanelEvent) (q : EventQueue) : Option PanelEvent :=
  match q.entries.getLast? with
  | some n => if e.kind = .turn ∧ n.kind = .turn ∧ n.control = e.control then some n else none
  | none => none

/-- The newest entry replaced. -/
def replaceNewest (n : PanelEvent) (q : EventQueue) : EventQueue := { q with entries := q.entries.dropLast ++ [n] }

/-- The newest entry removed; a queue left empty stops its timer (R50). -/
def removeNewest (q : EventQueue) : EventQueue :=
  { q with entries := q.entries.dropLast, timer := if q.entries.dropLast = [] then none else q.timer }

/-- An arriving TURN added to the newest entry `n` (R50). -/
def merge (l : Link) (n e : PanelEvent) (s : State) : State :=
  let q := s.queues.get l
  let sum := n.detents + e.detents
  if sum = 0 then setQueue l (removeNewest q) s
  else if 127 < sum then
    enterEntry l { e with detents := sum - 127 } (setQueue l (replaceNewest { n with detents := 127 } q) s)
  else if sum < -127 then
    enterEntry l { e with detents := sum + 127 } (setQueue l (replaceNewest { n with detents := -127 } q) s)
  else setQueue l (replaceNewest { n with detents := sum } q) s

/-- A record handed to a link's queue (R49). -/
def handOver (l : Link) (e : PanelEvent) (s : State) : State :=
  match mergesWith e (s.queues.get l) with
  | some n => merge l n e s
  | none => enterEntry l e s

/-- The m oldest entries removed; a queue left empty stops its timer (R54). -/
def takeEntries (m : Nat) (q : EventQueue) : EventQueue :=
  { q with entries := q.entries.drop m, timer := if q.entries.drop m = [] then none else q.timer }

/-- The queue timer restarted by a clear of a pending EVENTS notice (R53, R196). -/
def restartAfterClear (q : EventQueue) : EventQueue :=
  if q.entries = [] then q else { q with timer := startMs q.setting }

end Sys2Proof.Machine
end

