-- ==== Sys2Proof/Machine/StandbyRequest.lean ====
section
/-! DEFINITION. The standby request (R206) and the halt of the Raster Engine (R149). -/

namespace Sys2Proof.Machine

/-- The Raster Engine reports that it has no draw in flight (R149). -/
def reportHalt (s : State) : State := tryStandby (s.withPower { s.power with haltReport := true })

/-- The draw in flight is abandoned: the record gets back the drawn status it had before, and a held slot request is judged
again (R113, R115, R149). -/
def abandonDraw (s : State) : State :=
  match s.raster.engine, s.raster.draw with
  | .rendering, some d => reevaluate (s.withStore (setDrawn d.number d.header.prior s.store))
  | _, _ => s

/-- A halt request (R149). -/
def haltRaster (s : State) : State :=
  let s1 := abandonDraw s
  reportHalt (s1.withRaster { s1.raster with engine := .halted, draw := none, chosen := none })

/-- The Setup Controller's part of the entry: both batches closed, quiet timer stopped (R206). -/
def closeForStandby (b : SetupBlock) : SetupBlock := { b with batches := .both none, quiet := none }

/-- A standby request taken (R206): in ACTIVE the entry into STANDBY_PENDING, its receivers in any order; else nothing. -/
def standbyRequest (s : State) : State :=
  if s.power.state = .active then
    let s1 := notifyBoth .standby (s.withPower { s.power with state := .standbyPending })
    takeAll [standbyStop, cancelStore, haltRaster] (evalLeds (s1.withSetup (closeForStandby s1.setup)))
  else s

end Sys2Proof.Machine
end

