-- ==== Sys2Proof/Machine/Router.lean ====
section
/-! DEFINITION. The Event Router: matching, direct edits, the actions and the lockout state (sections 2.2 and 3.3), and the
Panel Scanner that feeds it (section 2.1). -/

namespace Sys2Proof.Machine

/-! ### Lockout (R62) -/

/-- The lockout state set: a change re-evaluates the LEDs and sets LOCKOUT on both links. -/
def setLockout (x : Lockout) (s : State) : State :=
  if s.router.lockout = x then s
  else notifyBoth .lockout (evalLeds (s.withRouter { s.router with lockout := x }))

/-- An event discarded under lockout (R37, R44). -/
def countLockedOut (s : State) : State := s.withRouter { s.router with lockedOut := satInc s.router.lockedOut }

/-! ### Matching (R36, R37) -/

def matchesControl (e : RouteEntry) (c : Nat) : Bool :=
  match e.matchKind with
  | .range => decide (e.a.toNat ≤ c) && decide (c ≤ e.b.toNat)
  | .pair => c == e.a.toNat || c == e.b.toNat
  | .mask => (BitVec.ofNat 8 c &&& e.b) == (e.a &&& e.b)

def entryMatches (e : RouteEntry) (ev : PanelEvent) (run : RunState) : Bool :=
  e.enabled && matchesControl e ev.control && e.kinds.getLsbD (eventKindCode ev.kind) && runCondMet e.cond run

/-- Whether an entry is considered at all (R37). -/
def considered (lockout : Lockout) (e : RouteEntry) : Bool := decide (lockout = .localControl) || e.exempt

/-- The first entry that is considered and matches, with its index. -/
def findRoute (r : Router) (ev : PanelEvent) (run : RunState) : Option (RouteEntry × Nat) :=
  r.routes.toList.zipIdx.find? (fun x => considered r.lockout x.1 && entryMatches x.1 ev run)

/-! ### Direct edits (R39 to R42) -/

/-- The ID of the field that an EDIT entry names for a control. -/
def editId (e : RouteEntry) (c : Nat) : Nat :=
  match e.matchKind with
  | .range => e.fieldBase.toNat + (c - e.a.toNat) * e.stride.toNat
  | _ => e.fieldBase.toNat

/-- The channel whose scale a FINE step takes (R40). -/
def relevantChan (st : Setup) : Field → Chan
  | .chOffset c => c
  | _ => sourceChan st

/-- The values through which CYCLE goes (R41); empty for a field that is not enumerated. -/
def cycleSet (st : Setup) (f : Field) : List Int :=
  match f with
  | .trigSlope => legalSlopes (st.get .trigType)
  | .trigSource => (enabledChans st).map chanNumber
  | _ =>
      match handling f with
      | .enum set => set
      | .clamp _ _ => []

/-- The next value above v, else the first. -/
def cycleNext (set : List Int) (v : Int) : Option Int :=
  match set.find? (fun x => decide (v < x)) with
  | some x => some x
  | none => set.head?

/-- The value that a step hands for a field (R39 to R41); none when the step does not act on the event's kind. -/
def editValue (k : StepKind) (st : Setup) (f : Field) (ev : PanelEvent) : Option Int :=
  match k, ev.kind with
  | .index, .turn => some (st.get f + ev.detents)
  | .permille, .turn => some (st.get f + 10 * ev.detents)
  | .fine, .turn => some (st.get f + ev.detents * (scaleUv (st.get (.chScale (relevantChan st f))) / 25))
  | .toggle, .press => some (1 - st.get f)
  | .cycle, .press => cycleNext (cycleSet st f) (st.get f)
  | _, _ => none

/-- The direct edit of an EDIT entry (R39, R42), its outcome unseen. -/
def directEdit (e : RouteEntry) (ev : PanelEvent) (s : State) : State :=
  match fieldOfId (editId e ev.control), stepKindOf e.stepKind with
  | some f, some k =>
      match editValue k s.setup.live f ev with
      | some v => (commit .panel [(f, v)] s).1
      | none => s
  | _, _ => s

/-! ### Actions (R38, R43, R44) -/

/-- A routed run-control action; one taken after Power Control's stop is dropped (R107). -/
def routedRun (act : State → State) (s : State) : State := if s.seq.standbyStop then s else act s

/-- LOCAL (R44, R62). -/
def releaseLockout (s : State) : State :=
  match s.router.lockout with
  | .localControl => s
  | .remote => setLockout .localControl s
  | .remoteHard => countLockedOut s

/-- The actions that need no entry, on an event with its matched entry filled in. -/
def runAction (a : Action) (ev : PanelEvent) (s : State) : State :=
  match a with
  | .toConsole => handOver .console ev s
  | .toRemote => handOver .remote ev s
  | .toBoth => handOver .remote ev (handOver .console ev s)
  | .runStop => routedRun (if s.seq.run = .stopped then acqStart .running else acqStop) s
  | .single => routedRun (acqStart .single) s
  | .force => routedRun acqForce s
  | .localRelease => releaseLockout s
  | .standby => standbyRequest s
  | .discard => s
  | .edit => s

/-- A panel event matched and acted on (R37). -/
def routeEvent (ev : PanelEvent) (s : State) : State :=
  match findRoute s.router ev s.seq.run with
  | some (e, i) =>
      let ev1 := { ev with entry := some i }
      if e.action = .edit then directEdit e ev1 s else runAction e.action ev1 s
  | none =>
      if s.router.lockout = .localControl then runAction s.router.defaultAction { ev with entry := none } s
      else countLockedOut s

/-- A panel event taken by the router: outside ACTIVE it is discarded uncounted (R35). -/
def takeEvent (ev : PanelEvent) (s : State) : State := if s.power.state = .active then routeEvent ev s else s

/-! ### Keys (R30, R31, R33) -/

/-- The POWER key. -/
def powerKey : Fin 64 := 63

/-- The scanner scans a key: once start-up has ended, every key, but in STANDBY the POWER key alone (R33). -/
def scansKey (key : Fin 64) (s : State) : Bool :=
  decide (s.power.phase = .up) && (decide (s.power.state ≠ .standby) || decide (key = powerKey))

def setKey (key : Fin 64) (k : Key) (s : State) : State := s.withPanel { s.panel with keys := s.panel.keys.set key k }

/-- A new level on a key's line: an attempt opens, or goes on with its timer restarted (R30). -/
def keyChange (key : Fin 64) (pressed : Bool) (s : State) : State :=
  let k := s.panel.keys[key]
  if k.line = pressed then s
  else if scansKey key s then
    setKey key { k with
      line := pressed
      timer := some Config.debounceTime
      attempt := if k.timer = none then s.panel.ms else k.attempt } s
  else setKey key { k with line := pressed } s

/-- The event of an accepted key change (R31). -/
def keyEvent (key : Fin 64) (k : Key) : PanelEvent :=
  ⟨key.val, if k.line then .press else .release, 0, k.attempt, none⟩

/-- An accepted key change handed on: in STANDBY a PRESS of the POWER key is the wake request, and nothing else is handed
(R33). -/
def keyAccepted (key : Fin 64) (k : Key) (s : State) : State :=
  if s.power.state = .standby then (if key = powerKey ∧ k.line = true then wake s else s)
  else takeEvent (keyEvent key k) s

/-- The expiry of a key's debounce timer (R31). -/
def keyExpiry (key : Fin 64) (s : State) : State :=
  let k := s.panel.keys[key]
  if k.timer = none then s
  else if k.line = k.settled then setKey key { k with timer := none } s
  else keyAccepted key k (setKey key { k with timer := none, settled := k.line } s)

/-! ### Encoders (R32) -/

/-- The place of a pair of levels among the phases in the positive direction, the detent phase first. -/
def encPhase (a b : Bool) : Nat :=
  match a, b with
  | true, true => 0
  | false, true => 1
  | false, false => 2
  | true, false => 3

/-- A synchronised encoder after a step of ±1 to phase `phase`, and the TURN it produces. -/
def encStep (e : Encoder) (phase : Nat) (step : Int) : Encoder × Option Int :=
  let p := e.progress + step
  if phase = 0 then ({ e with progress := 0 }, if p = 4 then some 1 else if p = -4 then some (-1) else none)
  else ({ e with progress := p }, none)

/-- New levels judged against the last ones by the table of R32; `e` has the last levels. -/
def encJudge (e : Encoder) (a b : Bool) : Encoder × Option Int :=
  let phase := encPhase a b
  let e1 := { e with lastA := a, lastB := b }
  match (phase + 4 - encPhase e.lastA e.lastB) % 4 with
  | 0 => (e1, none)
  | 2 => ({ e1 with sync := false, progress := 0 }, none)
  | 1 => if e.sync then encStep e1 phase 1 else ({ e1 with sync := decide (phase = 0), progress := 0 }, none)
  | _ => if e.sync then encStep e1 phase (-1) else ({ e1 with sync := decide (phase = 0), progress := 0 }, none)

def setEnc (enc : Fin 12) (e : Encoder) (s : State) : State := s.withPanel { s.panel with encs := s.panel.encs.set enc e }

/-- The event of a completed detent. -/
def turnEvent (enc : Fin 12) (detents : Int) (time : Word) : PanelEvent := ⟨64 + enc.val, .turn, detents, time, none⟩

/-- A line change on an encoder; before the end of start-up and in STANDBY it moves nothing but the pins (R33). -/
def encChange (enc : Fin 12) (a b : Bool) (s : State) : State :=
  let e := { s.panel.encs[enc] with lineA := a, lineB := b }
  if s.power.phase = .up ∧ s.power.state ≠ .standby then
    let r := encJudge e a b
    let s1 := setEnc enc r.1 s
    match r.2 with
    | some d => takeEvent (turnEvent enc d s.panel.ms) s1
    | none => s1
  else setEnc enc e s

end Sys2Proof.Machine
end

