-- ==== Sys2Proof/Machine/PanelEvents.lean ====
section
/-! DEFINITION. The panel events (section 2.1). -/

namespace Sys2Proof.Machine

/-- KEY_LINE_CHANGE (R30). -/
def execKeyLineChange (key : Fin 64) (pressed : Bool) (s : State) : Result := .next (keyChange key pressed s)

/-- DEBOUNCE_EXPIRY (R31). -/
def execDebounceExpiry (key : Fin 64) (s : State) : Result := .next (keyExpiry key s)

/-- ENCODER_LINE_CHANGE (R32). -/
def execEncoderLineChange (enc : Fin 12) (a b : Bool) (s : State) : Result := .next (encChange enc a b s)

end Sys2Proof.Machine
end

