-- ==== Sys2Proof/Machine/TimerEvents.lean ====
section
/-! DEFINITION. The expiries of the timers and the frame event. An expiry of a timer that is stopped cannot occur, and leaves the
state as it is (log 21). -/

namespace Sys2Proof.Machine

/-- QUEUE_TIMER_EXPIRY (R53). -/
def execQueueTimerExpiry (l : Link) (s : State) : Result :=
  let q := s.queues.get l
  if q.timer = none then .next s else .next (notify l .events (setQueue l { q with timer := none } s))

/-- RECORD_TIMER_EXPIRY (R125). -/
def execRecordTimerExpiry (l : Link) (s : State) : Result :=
  let n := s.store.notice.get l
  if n.timer = none then .next s
  else .next (notify l .records (s.withStore { s.store with notice := s.store.notice.set l { n with timer := none } }))

/-- QUIET_TIMER_EXPIRY (R27): the timer stops and an autosave offer is handed (R184). -/
def execQuietTimerExpiry (s : State) : Result :=
  if s.setup.quiet = none then .next s else .next (autosaveOffer (s.withSetup { s.setup with quiet := none }))

/-- HOLDOFF_EXPIRY (R102). -/
def execHoldoffExpiry (s : State) : Result :=
  if s.seq.holdoff = none then .next s else .next (s.withSeq { s.seq with holdoff := none })

/-- AUTO_TIMER_EXPIRY (R103): a forced trigger in ARMED. -/
def execAutoTimerExpiry (s : State) : Result :=
  if s.seq.auto = none then .next s
  else
    let s1 := s.withSeq { s.seq with auto := none }
    if s.seq.cap = .armed then .next (forcedTrigger s1) else .next s1

/-! ### The frame event (R151, R152, R157, R158) -/

/-- One cell after a decay of shift p. -/
def decayCell (p : Nat) (v : Byte) : Byte :=
  if v = 0#8 then 0#8 else BitVec.ofNat 8 (v.toNat - max 1 (v.toNat / 2 ^ p))

/-- The decay of the planes under a persistence setting: shifts 1..7 (R152). -/
def decayPlanes (persist : Int) (planes : PerChan Memory) : PerChan Memory :=
  if 1 ≤ persist ∧ persist ≤ 7 then perChan (fun c => memMap (decayCell persist.toNat) (planes.get c)) else planes

/-- The place of the next interval among the three of R151. -/
def nextPhase (p : Nat) : Nat := if p = 0 then 1 else if p = 1 then 2 else 0

/-- The length of an interval in nanoseconds. -/
def frameInterval (p : Nat) : Nat := if p = 2 then 16666666 else 16666667

/-- The frame composed of the planes, layers and palette as they stand, with DISP.GRADE and DISP.GRID (R157). -/
def composeFrame (s : State) : Frame :=
  ⟨s.raster.planes, s.disp.overlay, s.disp.palette, s.setup.live.get .dispGrade, s.setup.live.get .dispGrid⟩

/-- FRAME_EVENT (R151): the timer restarts for the next interval, the frame count goes up, the planes decay, and in LOCKED a
frame is composed and becomes the frame in transmission. A transmission that has not completed yet does so before it (R158; DEDUCED, log 35). -/
def execFrameEvent (s : State) : Result :=
  if s.disp.frameTimer = none then .next s
  else
    let p := nextPhase s.disp.framePhase
    let c := finishSending s.disp
    let s1 := s.withDisp { c with frames := c.frames + 1#32, framePhase := p, frameTimer := some (frameInterval p) }
    let s2 := s1.withRaster { s1.raster with planes := decayPlanes (s1.setup.live.get .dispPersist) s1.raster.planes }
    if s2.disp.link = .locked then .next (s2.withDisp { s2.disp with sending := some (composeFrame s2) }) else .next s2

end Sys2Proof.Machine
end

