-- ==== Sys2Proof/Machine/Clock.lean ====
section
/-! DEFINITION. The clock: what a step does on an empty queue (log 3). A timer that has run out gives its expiry; while none has,
one nanosecond passes. -/

namespace Sys2Proof.Machine

/-- The timer has run out and awaits its expiry event. -/
def expired (t : Timer) : Bool := decide (t = some 0)

/-- The expiry of a timer, if it has run out. -/
def dueIf (t : Timer) (act : State → Result) : List (State → Result) := if expired t then [act] else []

/-- The expiries that are due, of every timer of the part. -/
def dueExpiries (s : State) : List (State → Result) :=
  (List.finRange 64).flatMap (fun i => dueIf s.panel.keys[i].timer (execDebounceExpiry i)) ++
  dueIf s.queues.console.timer (execQueueTimerExpiry .console) ++
  dueIf s.queues.remote.timer (execQueueTimerExpiry .remote) ++
  dueIf s.store.notice.console.timer (execRecordTimerExpiry .console) ++
  dueIf s.store.notice.remote.timer (execRecordTimerExpiry .remote) ++
  dueIf s.setup.quiet execQuietTimerExpiry ++
  dueIf s.seq.holdoff execHoldoffExpiry ++
  dueIf s.seq.auto execAutoTimerExpiry ++
  dueIf s.disp.frameTimer execFrameEvent ++
  dueIf s.saved.limit accessLimit

/-- A timer one nanosecond later. -/
def countDown (t : Timer) : Timer := t.map (fun n => n - 1)

def ageKeys (p : PanelScanner) : PanelScanner :=
  { p with keys := Vector.ofFn fun i => { p.keys[i] with timer := countDown p.keys[i].timer } }

def ageQueue (q : EventQueue) : EventQueue := { q with timer := countDown q.timer }

def ageNotice (n : RecordNotice) : RecordNotice := { n with timer := countDown n.timer }

/-- The millisecond counter advances when a whole millisecond has passed (R29). -/
def ageMs (s : State) : State :=
  if s.subMs + 1 < Config.nsPerMs then s.withSubMs (s.subMs + 1)
  else (s.withSubMs 0).withPanel { s.panel with ms := s.panel.ms + 1#32 }

/-- One nanosecond passes: the two counters advance (R29, R104) and every running timer counts down. -/
def nanosecond (s : State) : State :=
  let s1 := ageMs s
  let s2 := s1.withPanel (ageKeys s1.panel)
  let s3 := s2.withQueues ⟨ageQueue s2.queues.console, ageQueue s2.queues.remote⟩
  let s4 := s3.withStore { s3.store with
    notice := ⟨ageNotice s3.store.notice.console, ageNotice s3.store.notice.remote⟩ }
  let s5 := s4.withSetup { s4.setup with quiet := countDown s4.setup.quiet }
  let s6 := s5.withSeq { s5.seq with
    time := s5.seq.time + 1#48
    holdoff := countDown s5.seq.holdoff
    auto := countDown s5.seq.auto }
  let s7 := s6.withDisp { s6.disp with frameTimer := countDown s6.disp.frameTimer }
  s7.withSaved { s7.saved with limit := countDown s7.saved.limit }

/-- What a step does when no command waits: before the supply is established nothing; else an expiry that is due, the next
number of `races` choosing among several (log 5), or one nanosecond. -/
def tick (s : State) : Result :=
  if s.power.phase = .noSupply then .next s
  else
    match dueExpiries s with
    | [] => .next (nanosecond s)
    | [act] => act s
    | acts => (acts.getD (s.races.head % acts.length) Host.Outcome.next) (s.withRaces s.races.tail)

end Sys2Proof.Machine
end

