-- ==== Sys2Proof/Machine/DataEvents.lean ====
section
/-! DEFINITION. The data events: samples (R67, R68), span passes (R135 to R140) and completed transmissions (R158). -/

namespace Sys2Proof.Machine

/-- SAMPLE (R67, R68): one code of one converter core. -/
def execSample (core : Fin 4) (code : Byte) (s : State) : Result :=
  if currentFits s then .next (takeSample core code s) else .fault .acquisitionAddress

/-- SPAN_PASS (R139): one span pass of the draw in flight; none when the engine is not RENDERING. -/
def execSpanPass (s : State) : Result :=
  match s.raster.engine, s.raster.draw with
  | .rendering, some d =>
      match findComplete s.store.slots d.number with
      | some x =>
          if regionFits x.1 s.store.recordBytes d.header.setup d.segment d.header.points then
            .next (spanPassAt x.1 d s)
          else .fault .acquisitionAddress
      | none => .next s
  | _, _ => .next s

/-- TRANSMISSION_COMPLETE (R158). -/
def execTransmissionComplete (s : State) : Result :=
  .next (s.withDisp (finishSending s.disp))

end Sys2Proof.Machine
end

