-- ==== Sys2Proof/Machine/DisplayEvents.lean ====
section
/-! DEFINITION. Line changes of the display panel (R162, R163, R166). -/

namespace Sys2Proof.Machine

/-- The composer takes line changes: from the end of start-up until STANDBY (R162, R166). -/
def takesLines (s : State) : Bool := decide (s.power.phase = .up) && decide (s.power.state ≠ .standby)

/-- The display-link state after a change of the panel-present line (R162). -/
def afterPresent (high lock : Bool) (d : DispLink) : DispLink :=
  if high then (if d = .absent then (if lock then .locked else .training) else d) else .absent

/-- The display-link state after a change of the lock line (R162). -/
def afterLock (high : Bool) (d : DispLink) : DispLink :=
  if high then (if d = .training then .locked else d) else (if d = .locked then .training else d)

/-- PANEL_PRESENT_CHANGE; the same level again is no change (log 18). -/
def execPanelPresentChange (high : Bool) (s : State) : Result :=
  if s.disp.present = high then .next s
  else
    let s1 := s.withDisp { s.disp with present := high }
    if takesLines s then .next (setDispLink (afterPresent high s.disp.lock s.disp.link) s1) else .next s1

/-- LOCK_CHANGE. -/
def execLockChange (high : Bool) (s : State) : Result :=
  if s.disp.lock = high then .next s
  else
    let s1 := s.withDisp { s.disp with lock := high }
    if takesLines s then .next (setDispLink (afterLock high s.disp.link) s1) else .next s1

end Sys2Proof.Machine
end

