-- ==== Sys2Proof/Machine/Requests.lean ====
section
/-! DEFINITION. How a link takes a request frame and judges it before its owner does (R187 to R190). -/

namespace Sys2Proof.Machine

/-- The long requests (R190, R192): STORE.SAVE, RECALL, ERASE, LOCK and POWER.STANDBY. -/
def longKind (kind : Byte) : Bool :=
  kind == 0x60#8 || kind == 0x61#8 || kind == 0x62#8 || kind == 0x63#8 || kind == 0x78#8

/-- LINK.STATUS, which alone passes the power-state check outside ACTIVE (R208). -/
def linkStatusKind : Byte := 0x70#8

/-- The link's own checks on a frame taken, in the order of R190, then the owner. -/
def judgeRequest (l : Link) (kind : Byte) (lengthOk : Bool) (owner : State → Result) (s : State) : Result :=
  if lengthOk = false then .next (answer l .malformed .nothing s)
  else if s.power.state ≠ .active ∧ kind ≠ linkStatusKind then .next (answer l .inStandby .nothing s)
  else if longKind kind = true ∧ (s.links.get l).deferred ≠ .empty then .next (answer l .busy .nothing s)
  else owner s

/-- A WRITE transfer with a frame of this tag and kind ends: not taken at all by a link that takes no transfer (R187), refused
BUSY while READY is low (R189), else taken (R188) and judged. -/
def takeRequest (l : Link) (tag kind : Byte) (lengthOk : Bool) (owner : State → Result) (s : State) : Result :=
  if takesTransfers (s.links.get l) = false then .next s
  else if (s.links.get l).ready = false then .next (refuseBusy l tag s)
  else judgeRequest l kind lengthOk owner (beginRequest l tag kind s)

/-- A request whose length suits its kind and whose owner always answers. -/
def request (l : Link) (tag kind : Byte) (owner : State → State) (s : State) : Result :=
  takeRequest l tag kind true (fun t => .next (owner t)) s

end Sys2Proof.Machine
end

