-- ==== Sys2Proof/Machine/AcqRequests.lean ====
section
/-! DEFINITION. The acquisition requests (section 5.4). -/

namespace Sys2Proof.Machine

/-- What an ACQ answer carries (R97). -/
def acqPayload (q : Sequencer) : Payload := .acq q.run q.cap q.stopPending q.forcePending

/-- A run-control request: the lockout judgement (R65, R97), then Power Control's stop (R107), then its own effect `act` and
the status it gives. -/
def runRequest (l : Link) (status : Status) (act : State → State) (s : State) : State :=
  if gated l s then answer l .locked .nothing s
  else if s.seq.standbyStop then answer l .inStandby .nothing s
  else answer l status (acqPayload (act s).seq) (act s)

/-- ACQ.RUN (R94). -/
def execAcqRun (l : Link) (tag : Byte) (s : State) : Result := request l tag 0x30#8 (runRequest l .ok (acqStart .running)) s

/-- ACQ.SINGLE (R94). -/
def execAcqSingle (l : Link) (tag : Byte) (s : State) : Result := request l tag 0x31#8 (runRequest l .ok (acqStart .single)) s

/-- The status of ACQ.STOP (R95). -/
def stopStatus (c : CapState) : Status := if c = .idle then .ignored else .ok

/-- ACQ.STOP (R95). -/
def execAcqStop (l : Link) (tag : Byte) (s : State) : Result :=
  request l tag 0x32#8 (fun t => runRequest l (stopStatus t.seq.cap) acqStop t) s

/-- The status of ACQ.FORCE (R96). -/
def forceStatus (c : CapState) : Status :=
  match c with
  | .armed => .ok
  | .prefill => .ok
  | _ => .ignored

/-- ACQ.FORCE (R96). -/
def execAcqForce (l : Link) (tag : Byte) (s : State) : Result :=
  request l tag 0x33#8 (fun t => runRequest l (forceStatus t.seq.cap) acqForce t) s

/-- What ACQ.STATUS carries (R97). -/
def acqStatusPayload (q : Sequencer) : Payload :=
  .acqStatus q.run q.cap q.stopPending q.forcePending q.holdoff.isSome q.auto.isSome q.time
    (q.current.map (fun r => (r.number, r.segment, r.completed)))

def ownAcqStatus (l : Link) (s : State) : State := answer l .ok (acqStatusPayload s.seq) s

/-- ACQ.STATUS (R97). -/
def execAcqStatus (l : Link) (tag : Byte) (s : State) : Result := request l tag 0x34#8 (ownAcqStatus l) s

end Sys2Proof.Machine
end

