-- ==== Sys2Proof/Machine/DispRequests.lean ====
section
/-! DEFINITION. The display requests (R147, R159 to R161, R164). -/

namespace Sys2Proof.Machine

/-! ### Status and clearing -/

/-- The sequence number of the record in draw, when the engine is RENDERING (R147, R164). -/
def drawnNumber (r : RasterEngine) : Option Word := if r.engine = .rendering then r.draw.map Draw.number else none

def ownDispStatus (l : Link) (s : State) : State :=
  answer l .ok (.display s.disp.link s.disp.present s.disp.lock s.disp.frames s.disp.sent s.disp.sending.isSome
    s.raster.engine (drawnNumber s.raster) s.raster.redraw) s

/-- DISP.STATUS (R164). -/
def execDispStatus (l : Link) (tag : Byte) (s : State) : Result := request l tag 0x50#8 (ownDispStatus l) s

/-- Every cell of the planes 0; a draw in flight restarts at its first pass (R147). -/
def clearPlanes (r : RasterEngine) : RasterEngine :=
  { r with
    planes := .all []
    draw := r.draw.map (fun d => if r.engine = .rendering then { d with segment := 0, chan := firstChan d.header } else d) }

def ownDispClear (l : Link) (s : State) : State :=
  answer l .ok (.cleared s.raster.engine (drawnNumber s.raster)) (s.withRaster (clearPlanes s.raster))

/-- DISP.CLEAR (R147). -/
def execDispClear (l : Link) (tag : Byte) (s : State) : Result := request l tag 0x51#8 (ownDispClear l) s

/-! ### Overlay layers -/

/-- The address of pixel (X, Y) in an overlay layer. -/
def pixelAddress (x y : Nat) : Nat := y * Config.frameWidth + x

/-- Pixel (x, y) of signed frame coordinates lies within the frame. -/
def inFrame (x y : Int) : Bool := decide (0 ≤ x) && decide (x < 800) && decide (0 ≤ y) && decide (y < 480)

/-- Indexes written to the pixels of a rectangle from its k-th pixel on, those outside the frame dropped; the layer and the
number written (R159). -/
def writePixels (x y : Int) (w : Nat) : Nat → List Byte → Memory × Nat → Memory × Nat
  | _, [], acc => acc
  | k, b :: rest, acc =>
      let px := x + (k % w : Nat)
      let py := y + (k / w : Nat)
      writePixels x y w (k + 1) rest
        (if inFrame px py then (memSet acc.1 (pixelAddress px.toNat py.toNat) b, acc.2 + 1) else acc)

def setOverlay (l : Link) (m : Memory) (s : State) : State :=
  s.withDisp { s.disp with overlay := s.disp.overlay.set l m }

/-- OK when every pixel of the rectangle was written, else TRUNCATED (R159, R160). -/
def wholeStatus (written all : Nat) : Status := if written = all then .ok else .truncated

def ownDispOverlay (l : Link) (x y w h : BitVec 16) (indexes : List Byte) (s : State) : State :=
  let area := w.toNat * h.toNat
  if w.toNat = 0 ∨ h.toNat = 0 ∨ 4096 < area then answer l .invalid .nothing s
  else
    let r := writePixels x.toInt y.toInt w.toNat 0 indexes (s.disp.overlay.get l, 0)
    answer l (wholeStatus r.2 area) (.pixels r.2) (setOverlay l r.1 s)

/-- DISP.OVERLAY (R159). -/
def execDispOverlay (l : Link) (tag : Byte) (x y w h : BitVec 16) (indexes : List Byte) (s : State) : Result :=
  takeRequest l tag 0x52#8 (suitsOverlay w h indexes) (fun t => .next (ownDispOverlay l x y w h indexes t)) s

/-- The part of a run of n places from a signed start that lies within 0..limit − 1: its first place and its length. -/
def clipRun (start : Int) (n limit : Nat) : Nat × Nat :=
  let lo := (max 0 start).toNat
  let hi := (min (limit : Int) (start + (n : Int))).toNat
  (lo, hi - lo)

/-- One byte written to n consecutive pixels. -/
def fillRow (m : Memory) (a : Nat) (b : Byte) : Nat → Memory
  | 0 => m
  | n + 1 => fillRow (memSet m a b) (a + 1) b n

/-- Rows of a clipped rectangle filled, from row y on. -/
def fillRows (m : Memory) (x y n : Nat) (b : Byte) : Nat → Memory
  | 0 => m
  | k + 1 => fillRows (fillRow m (pixelAddress x y) b n) x (y + 1) n b k

def ownDispOverlayFill (l : Link) (x y w h : BitVec 16) (index : Byte) (s : State) : State :=
  if w.toNat = 0 ∨ h.toNat = 0 then answer l .invalid .nothing s
  else
    let cols := clipRun x.toInt w.toNat Config.frameWidth
    let rows := clipRun y.toInt h.toNat Config.frameHeight
    let written := cols.2 * rows.2
    answer l (wholeStatus written (w.toNat * h.toNat)) (.pixels written)
      (setOverlay l (fillRows (s.disp.overlay.get l) cols.1 rows.1 cols.2 index rows.2) s)

/-- DISP.OVERLAY_FILL (R160). -/
def execDispOverlayFill (l : Link) (tag : Byte) (x y w h : BitVec 16) (index : Byte) (s : State) : Result :=
  request l tag 0x53#8 (ownDispOverlayFill l x y w h index) s

/-! ### Palette (R161) -/

/-- Entries of the range that exist: min(255, f + m − 1) − f + 1. -/
def paletteRun (first m : Byte) : Nat := min m.toNat (256 - first.toNat)

def colourOf (c : Byte × Byte × Byte) : Colour := ⟨c.1, c.2.1, c.2.2⟩

/-- Entry i + 1 after colours are written from entry f on. -/
def paletteEntry (p : Vector Colour 255) (first : Nat) (cs : List (Byte × Byte × Byte)) (i : Fin 255) : Colour :=
  if first ≤ i.val + 1 then (cs[i.val + 1 - first]?.map colourOf).getD p[i] else p[i]

def ownDispPalette (l : Link) (first m : Byte) (cs : List (Byte × Byte × Byte)) (s : State) : State :=
  if first.toNat = 0 ∨ m.toNat = 0 then answer l .invalid .nothing s
  else
    answer l (wholeStatus (paletteRun first m) m.toNat) (.entries (paletteRun first m))
      (s.withDisp { s.disp with palette := Vector.ofFn fun i => paletteEntry s.disp.palette first.toNat cs i })

/-- DISP.PALETTE (R161). -/
def execDispPalette (l : Link) (tag : Byte) (first m : Byte) (cs : List (Byte × Byte × Byte)) (s : State) : Result :=
  takeRequest l tag 0x54#8 (suitsPalette m cs) (fun t => .next (ownDispPalette l first m cs t)) s

def ownDispPaletteGet (l : Link) (first m : Byte) (s : State) : State :=
  if first.toNat = 0 ∨ m.toNat = 0 then answer l .invalid .nothing s
  else
    answer l (wholeStatus (paletteRun first m) m.toNat)
      (.colours ((s.disp.palette.toList.drop (first.toNat - 1)).take (paletteRun first m))) s

/-- DISP.PALETTE_GET (R161). -/
def execDispPaletteGet (l : Link) (tag : Byte) (first m : Byte) (s : State) : Result :=
  request l tag 0x55#8 (ownDispPaletteGet l first m) s

end Sys2Proof.Machine
end

