-- ==== Sys2Proof/Machine/LinkRequests.lean ====
section
/-! DEFINITION. The link and power requests (R196 to R198, R206). -/

namespace Sys2Proof.Machine

/-- What LINK.STATUS carries (R198). -/
def statusPayload (l : Link) (s : State) : Payload :=
  let k := s.links.get l
  .linkStatus s.seq.run s.seq.cap s.seq.time s.setup.gen s.router.lockout s.disp.link s.saved.ctrl s.power.state k.style
    (deferredCode k.deferred) k.notices k.enables (s.queues.get l).lost (s.store.missed.get l) s.store.overwritten
    s.router.lockedOut

def ownLinkStatus (l : Link) (s : State) : State := answer l .ok (statusPayload l s) s

/-- LINK.STATUS (R198, R208). -/
def execLinkStatus (l : Link) (tag : Byte) (s : State) : Result := request l tag linkStatusKind (ownLinkStatus l) s

/-- A set of notice kinds: bit 7 names none (R202). -/
def noticeSet (b : Byte) : Option (BitVec 7) := if b.toNat < 128 then some (b.setWidth 7) else none

def ownLinkConfig (l : Link) (style enables : Byte) (s : State) : State :=
  match styleOf style, noticeSet enables with
  | some st, some en =>
      let k := s.links.get l
      answer l .ok (.config k.style k.enables) (setLink l { k with style := st, enables := en } s)
  | _, _ => answer l .invalid .nothing s

/-- LINK.CONFIG (R197). -/
def execLinkConfig (l : Link) (tag : Byte) (style enables : Byte) (s : State) : Result :=
  request l tag 0x71#8 (ownLinkConfig l style enables) s

/-- The Event Queues learn of a clear of a pending EVENTS (R53, R196). -/
def eventsCleared (l : Link) (before cleared : BitVec 7) (s : State) : State :=
  if (before &&& cleared &&& noticeMask .events) = 0#7 then s
  else s.withQueues (s.queues.set l (restartAfterClear (s.queues.get l)))

def ownLinkClearNotices (l : Link) (notices : Byte) (s : State) : State :=
  match noticeSet notices with
  | some n =>
      let k := s.links.get l
      answer l .ok (.notices k.notices)
        (eventsCleared l k.notices n (setLink l { k with notices := k.notices &&& ~~~n } s))
  | none => answer l .invalid .nothing s

/-- LINK.CLEAR_NOTICES (R196). -/
def execLinkClearNotices (l : Link) (tag : Byte) (notices : Byte) (s : State) : Result :=
  request l tag 0x72#8 (ownLinkClearNotices l notices) s

/-- POWER.STANDBY past the link's checks, hence taken in ACTIVE (R206): the link waits by its style, and the entry is made. -/
def ownPowerStandby (l : Link) (tag : Byte) (s : State) : State :=
  let s1 := acceptLong l tag 0x78#8 s
  standbyRequest (s1.withPower { s1.power with requester := some (l, holds l s) })

/-- POWER.STANDBY (R206). -/
def execPowerStandby (l : Link) (tag : Byte) (s : State) : Result := request l tag 0x78#8 (ownPowerStandby l tag) s

end Sys2Proof.Machine
end

