-- ==== Sys2Proof/Machine/PanelRequests.lean ====
section
/-! DEFINITION. The panel requests (chapters 2 and 3): queues, routing table, default action, LEDs and lockout. -/

namespace Sys2Proof.Machine

/-! ### Event queues (R54, R55) -/

def ownPanelTake (l : Link) (m : Byte) (s : State) : State :=
  if 1 ≤ m.toNat ∧ m.toNat ≤ queueCapacity then
    let q := s.queues.get l
    let q1 := takeEntries m.toNat q
    answer l .ok (.taken (q.entries.take m.toNat) q1.entries.length q.lost) (setQueue l q1 s)
  else answer l .invalid .nothing s

/-- PANEL.TAKE (R54). -/
def execPanelTake (l : Link) (tag : Byte) (m : Byte) (s : State) : Result := request l tag 0x20#8 (ownPanelTake l m) s

def ownPanelQueueConfig (l : Link) (mode threshold setting : Byte) (s : State) : State :=
  match queueModeOf mode with
  | some m =>
      if 1 ≤ threshold.toNat ∧ threshold.toNat ≤ 32 ∧ 1 ≤ setting.toNat then
        let q := s.queues.get l
        answer l .ok (.discarded q.entries.length q.lost) (setQueue l ⟨[], m, threshold.toNat, setting.toNat, none, 0#16⟩ s)
      else answer l .invalid .nothing s
  | none => answer l .invalid .nothing s

/-- PANEL.QUEUE_CONFIG (R55). -/
def execPanelQueueConfig (l : Link) (tag : Byte) (mode threshold setting : Byte) (s : State) : Result :=
  request l tag 0x21#8 (ownPanelQueueConfig l mode threshold setting) s

def ownPanelQueueGet (l : Link) (s : State) : State :=
  let q := s.queues.get l
  answer l .ok (.queue q.mode q.threshold q.setting q.entries.length q.lost) s

/-- PANEL.QUEUE_GET (R55). -/
def execPanelQueueGet (l : Link) (tag : Byte) (s : State) : Result := request l tag 0x22#8 (ownPanelQueueGet l) s

/-! ### Routing table (R45) -/

def ownPanelRouteGet (l : Link) (index : Byte) (s : State) : State :=
  match s.router.routes[index.toNat]? with
  | some e => answer l .ok (.route e) s
  | none => answer l .invalid .nothing s

/-- PANEL.ROUTE_GET (R45). -/
def execPanelRouteGet (l : Link) (tag : Byte) (index : Byte) (s : State) : Result :=
  request l tag 0x23#8 (ownPanelRouteGet l index) s

/-- The operand check of R45. -/
def operandsOk (m : MatchKind) (a b : Byte) : Bool :=
  match m with
  | .range => decide (a.toNat ≤ 75) && decide (b.toNat ≤ 75) && decide (a.toNat ≤ b.toNat)
  | .pair => decide (a.toNat ≤ 75) && decide (b.toNat ≤ 75)
  | .mask => decide (a.toNat ≤ 127) && decide (b.toNat ≤ 127)

/-- The step check of R45. -/
def stepSuits (k : StepKind) (f : Field) : Bool :=
  match k with
  | .index => (match handling f with
      | .clamp _ _ => true
      | .enum _ => false)
  | .permille => (match handling f with
      | .clamp _ _ => true
      | .enum _ => false)
  | .fine => (match f with
      | .chOffset _ => true
      | .trigLevel => true
      | .trigUpper => true
      | _ => false)
  | .toggle => decide (handling f = .enum [0, 1])
  | .cycle => (match handling f with
      | .clamp _ _ => false
      | .enum _ => true)

/-- The IDs that an EDIT entry can name: for RANGE one for every control a..b. -/
def editIds (e : RouteEntry) : List Nat :=
  match e.matchKind with
  | .range => (List.range (e.b.toNat + 1 - e.a.toNat)).map (fun i => editId e (e.a.toNat + i))
  | _ => [e.fieldBase.toNat]

/-- The step-kind, field and step checks of an EDIT entry (R45); no check on another entry (log 11). -/
def editOk (e : RouteEntry) : Bool :=
  if e.action = .edit then
    match stepKindOf e.stepKind with
    | some k => decide (e.stride.toNat ≤ 60) && (editIds e).all (fun id => match fieldOfId id with
        | some f => stepSuits k f
        | none => false)
    | none => false
  else true

/-- The entry that a PANEL.ROUTE_SET carries, when it passes every check of R45. -/
def routeOf (enabled matchKind a b kinds cond exempt action fieldBase stride stepKind : Byte) : Option RouteEntry :=
  match onOff enabled, matchKindOf matchKind, runCondOf cond, onOff exempt, actionOf action with
  | some en, some mk, some rc, some ex, some ac =>
      let e : RouteEntry := ⟨en, mk, a, b, kinds.setWidth 3, rc, ex, ac, fieldBase, stride, stepKind⟩
      if kinds.toNat < 8 && operandsOk mk a b && editOk e then some e else none
  | _, _, _, _, _ => none

def ownPanelRouteSet (l : Link) (index : Byte) (entry : Option RouteEntry) (s : State) : State :=
  if h : index.toNat < 24 then
    match entry with
    | some e => answer l .ok .nothing (s.withRouter { s.router with routes := s.router.routes.set index.toNat e h })
    | none => answer l .invalid .nothing s
  else answer l .invalid .nothing s

/-- PANEL.ROUTE_SET (R45). -/
def execPanelRouteSet (l : Link) (tag : Byte)
    (index enabled matchKind a b kinds cond exempt action fieldBase stride stepKind : Byte) (s : State) : Result :=
  request l tag 0x24#8 (ownPanelRouteSet l index
    (routeOf enabled matchKind a b kinds cond exempt action fieldBase stride stepKind)) s

/-! ### Default action (R46) -/

def ownPanelDefaultGet (l : Link) (s : State) : State := answer l .ok (.action s.router.defaultAction) s

/-- PANEL.DEFAULT_GET (R46). -/
def execPanelDefaultGet (l : Link) (tag : Byte) (s : State) : Result := request l tag 0x25#8 (ownPanelDefaultGet l) s

/-- The actions that may be the default (R46), by their positions in R36 (log 10). -/
def defaultOf (b : Byte) : Option Action :=
  match actionOf b with
  | some .toConsole => some .toConsole
  | some .toRemote => some .toRemote
  | some .toBoth => some .toBoth
  | some .discard => some .discard
  | _ => none

def ownPanelDefaultSet (l : Link) (action : Byte) (s : State) : State :=
  match defaultOf action with
  | some a => answer l .ok .nothing (s.withRouter { s.router with defaultAction := a })
  | none => answer l .invalid .nothing s

/-- PANEL.DEFAULT_SET (R46). -/
def execPanelDefaultSet (l : Link) (tag : Byte) (action : Byte) (s : State) : Result :=
  request l tag 0x26#8 (ownPanelDefaultSet l action) s

/-! ### LEDs (R59, R60) -/

def setLed (led : Fin 32) (e : LedEntry) (s : State) : State :=
  s.withRouter { s.router with leds := s.router.leds.set led e }

def ownPanelLedSet (l : Link) (led value : Byte) (s : State) : State :=
  if h : led.toNat < 32 then
    match onOff value with
    | some v => answer l .ok .nothing (evalLeds (setLed ⟨led.toNat, h⟩ { s.router.leds[led.toNat] with linkValue := v } s))
    | none => answer l .invalid .nothing s
  else answer l .invalid .nothing s

/-- PANEL.LED_SET (R59). -/
def execPanelLedSet (l : Link) (tag : Byte) (led value : Byte) (s : State) : Result :=
  request l tag 0x27#8 (ownPanelLedSet l led value) s

def ownPanelLedGet (l : Link) (led : Byte) (s : State) : State :=
  if h : led.toNat < 32 then answer l .ok (.led s.router.leds[led.toNat] s.router.lit[led.toNat]) s
  else answer l .invalid .nothing s

/-- PANEL.LED_GET (R59). -/
def execPanelLedGet (l : Link) (tag : Byte) (led : Byte) (s : State) : Result :=
  request l tag 0x28#8 (ownPanelLedGet l led) s

/-- The source that a PANEL.LED_CONFIG carries (R60, R202): its position in R57, then a field ID or a set, then a value. -/
def ledSourceOf (source op : Byte) (value : Word) : Option LedSource :=
  match source.toNat with
  | 0 => (fieldOfId op.toNat).map (fun f => .fieldEq f value.toInt)
  | 1 => if op.toNat < 8 then some (.runState (op.setWidth 3)) else none
  | 2 => if op.toNat < 32 then some (.capState (op.setWidth 5)) else none
  | 3 => some .lockout
  | 4 => some .link
  | 5 => some .standbyInd
  | 6 => some .off
  | _ => none

def ownPanelLedConfig (l : Link) (led source op : Byte) (value : Word) (s : State) : State :=
  if h : led.toNat < 32 then
    match ledSourceOf source op value with
    | some src => answer l .ok .nothing (evalLeds (setLed ⟨led.toNat, h⟩ { s.router.leds[led.toNat] with source := src } s))
    | none => answer l .invalid .nothing s
  else answer l .invalid .nothing s

/-- PANEL.LED_CONFIG (R60). -/
def execPanelLedConfig (l : Link) (tag : Byte) (led source op : Byte) (value : Word) (s : State) : Result :=
  request l tag 0x29#8 (ownPanelLedConfig l led source op value) s

/-! ### Lockout (R63) -/

def ownLockoutSet (l : Link) (state : Byte) (s : State) : State :=
  match l, lockoutOf state with
  | .console, _ => answer l .notPermitted .nothing s
  | .remote, some x => answer l .ok (.lockouts s.router.lockout x) (setLockout x s)
  | .remote, none => answer l .invalid .nothing s

/-- LOCKOUT.SET (R63). -/
def execLockoutSet (l : Link) (tag : Byte) (state : Byte) (s : State) : Result :=
  request l tag 0x2A#8 (ownLockoutSet l state) s

end Sys2Proof.Machine
end

