-- ==== Sys2Proof/Machine/RecRequests.lean ====
section
/-! DEFINITION. The record requests (sections 6.3 to 6.5). -/

namespace Sys2Proof.Machine

/-- What a sequence number names in the slot table. -/
inductive Named where
  | gone
  | filling (h : Header)
  | complete (slot : Nat) (h : Header)
  deriving DecidableEq, Repr

/-- The slot that holds a number, if any (R117, R118, R122, R123). -/
def nameRecord (slots : List Slot) (number : Word) : Named :=
  match findNumber slots number with
  | none => .gone
  | some n =>
      match slots.getD n .free with
      | .free => .gone
      | .filling h => .filling h
      | .complete h => .complete n h

/-! ### Listing and headers (R121, R122) -/

def listEntry (l : Link) (h : Header) : ListEntry :=
  ⟨h.number, h.gen, h.outcome, h.planned, h.completed, h.drawn, h.pins, h.released.get l⟩

def ownRecList (l : Link) (s : State) : State :=
  let st := s.store
  let n := st.notice.get l
  let entries := (oldestFirst (completes st.slots)).map (fun x => listEntry l x.2)
  answer l .ok (.records entries st.slots.length (st.missed.get l) n.unreported)
    (s.withStore { st with notice := st.notice.set l { n with unreported := 0#16, timer := none } })

/-- REC.LIST (R121). -/
def execRecList (l : Link) (tag : Byte) (s : State) : Result := request l tag 0x40#8 (ownRecList l) s

/-- The most segment entries of one answer (R122). -/
def headerEntries : Nat := 64

def ownRecHeader (l : Link) (number : Word) (first : BitVec 16) (m : Byte) (s : State) : State :=
  match nameRecord s.store.slots number with
  | .gone => answer l .gone .nothing s
  | .filling _ => answer l .notReady .nothing s
  | .complete _ h =>
      if headerEntries < m.toNat then answer l .invalid .nothing s
      else
        let cut := m.toNat ≠ 0 ∧ h.completed < first.toNat + m.toNat
        answer l (if cut then .truncated else .ok) (.header h ((h.segments.drop first.toNat).take m.toNat)) s

/-- REC.HEADER (R122). -/
def execRecHeader (l : Link) (tag : Byte) (number : Word) (first : BitVec 16) (m : Byte) (s : State) : Result :=
  request l tag 0x41#8 (ownRecHeader l number first m) s

/-! ### Points (R123, R124) -/

/-- The format of a REC.READ: true is SIGNED (R123). -/
def signedFormat (b : Byte) : Option Bool := if b = 0#8 then some false else if b = 1#8 then some true else none

/-- The centre that SIGNED takes away: 128 codes, or 32,768 of a c256 value (R124). -/
def centre (mode : Int) : Int := if mode = 2 then 32768 else 128

/-- The values that one stored point carries (R124). -/
def pointValues (mode : Int) (signed : Bool) (bytes : List Byte) : List Int :=
  let raw : List Int := if mode = 2 then (match bytes with
    | [a, b] => [((half a b).toNat : Int)]
    | _ => []) else bytes.map (fun b => (b.toNat : Int))
  if signed then raw.map (fun v => v - centre mode) else raw

/-- Bytes of one carried value (R124). -/
def valueBytes (mode : Int) : Nat := if mode = 2 then 2 else 1

/-- The stored points of a run of stored indexes (R78, R89). -/
def readPoints (st : RecordStore) (slot : Nat) (h : Header) (c : Chan) (segment first : Nat) (signed : Bool) :
    Nat → List Int
  | 0 => []
  | n + 1 =>
      pointValues (h.setup.get .acqMode) signed
        (memRead st.mem (pointAddress slot st.recordBytes h.setup c segment first) (pointSize (h.setup.get .acqMode))) ++
      readPoints st slot h c segment (first + 1) signed n

/-- The checks of R123 after the slot's: the channel and format of a read that passes them. -/
def readChecks (h : Header) (chan : Byte) (segment : BitVec 16) (first : Word) (count : BitVec 16) (format : Byte) :
    Option (Chan × Bool) :=
  match chanOfNumber chan.toNat, signedFormat format with
  | some c, some signed =>
      if (enabledChans h.setup).contains c ∧ segment.toNat < h.completed ∧ first.toNat < h.points ∧
          1 ≤ count.toNat ∧ count.toNat ≤ 2048 then some (c, signed) else none
  | _, _ => none

def ownRecRead (l : Link) (number : Word) (chan : Byte) (segment : BitVec 16) (first : Word) (count : BitVec 16)
    (format : Byte) (s : State) : Result :=
  match nameRecord s.store.slots number with
  | .gone => .next (answer l .gone .nothing s)
  | .filling _ => .next (answer l .notReady .nothing s)
  | .complete slot h =>
      match readChecks h chan segment first count format with
      | none => .next (answer l .invalid .nothing s)
      | some (c, signed) =>
          if regionFits slot s.store.recordBytes h.setup segment.toNat h.points then
            let n := min count.toNat (h.points - first.toNat)
            .next (answer l (if n < count.toNat then .truncated else .ok)
              (.points (valueBytes (h.setup.get .acqMode))
                (readPoints s.store slot h c segment.toNat first.toNat signed n)) s)
          else .fault .acquisitionAddress

/-- REC.READ (R123). -/
def execRecRead (l : Link) (tag : Byte) (number : Word) (chan : Byte) (segment : BitVec 16) (first : Word)
    (count : BitVec 16) (format : Byte) (s : State) : Result :=
  takeRequest l tag 0x42#8 true (ownRecRead l number chan segment first count format) s

/-! ### Pins (R117, R118) -/

def pinHeader (l : Link) (on : Bool) (h : Header) : Header := { h with pins := h.pins.set l on }

def ownRecPin (l : Link) (number : Word) (s : State) : State :=
  match nameRecord s.store.slots number with
  | .gone => answer l .gone .nothing s
  | .filling _ => answer l .notReady .nothing s
  | .complete _ h =>
      let list := s.store.pinsList.get l
      if h.pins.get l then answer l .ok .nothing s
      else if 2 ≤ list.length then answer l .full .nothing s
      else answer l .ok .nothing (s.withStore { s.store with
        slots := updateNumber number (pinHeader l true) s.store.slots
        pinsList := s.store.pinsList.set l (list ++ [number]) })

/-- REC.PIN (R117). -/
def execRecPin (l : Link) (tag : Byte) (number : Word) (s : State) : Result := request l tag 0x43#8 (ownRecPin l number) s

def ownRecUnpin (l : Link) (number : Word) (s : State) : State :=
  match nameRecord s.store.slots number with
  | .gone => answer l .gone .nothing s
  | .filling _ => answer l .ok .nothing s
  | .complete _ h =>
      if h.pins.get l then
        answer l .ok .nothing (reevaluate (s.withStore { s.store with
          slots := updateNumber number (pinHeader l false) s.store.slots
          pinsList := s.store.pinsList.set l ((s.store.pinsList.get l).filter (fun n => n != number)) }))
      else answer l .ok .nothing s

/-- REC.UNPIN (R118). -/
def execRecUnpin (l : Link) (tag : Byte) (number : Word) (s : State) : Result :=
  request l tag 0x44#8 (ownRecUnpin l number) s

/-! ### Releases and subscriptions (R119, R120) -/

def releaseHeader (l : Link) (h : Header) : Header := { h with released := h.released.set l true }

/-- r or older in serial order (R120). -/
def atOrBefore (number r : Word) : Bool := atOrAbove r number

/-- The COMPLETE records whose release flag a REC.RELEASE changes. -/
def releaseCount (l : Link) (r : Word) (slots : List Slot) : Nat :=
  ((completes slots).filter (fun x => atOrBefore x.2.number r && !x.2.released.get l)).length

def ownRecRelease (l : Link) (r : Word) (s : State) : State :=
  let s1 := s.withStore { s.store with
    slots := updateCompletes (fun h => if atOrBefore h.number r then releaseHeader l h else h) s.store.slots }
  answer l .ok (.released (releaseCount l r s.store.slots)) (reevaluate s1)

/-- REC.RELEASE (R120). -/
def execRecRelease (l : Link) (tag : Byte) (r : Word) (s : State) : Result := request l tag 0x45#8 (ownRecRelease l r) s

/-- A subscription changed (R119): every COMPLETE record is released for the link; turned off, a held request is judged
again. -/
def changeSubscription (l : Link) (on : Bool) (s : State) : State :=
  let s1 := s.withStore { s.store with
    slots := updateCompletes (releaseHeader l) s.store.slots
    sub := s.store.sub.set l on }
  if on then s1 else reevaluate s1

def ownRecSubscribe (l : Link) (value : Byte) (s : State) : State :=
  match onOff value with
  | none => answer l .invalid .nothing s
  | some on =>
      let before := s.store.sub.get l
      answer l .ok (.subscription before) (if before = on then s else changeSubscription l on s)

/-- REC.SUBSCRIBE (R119). -/
def execRecSubscribe (l : Link) (tag : Byte) (value : Byte) (s : State) : Result :=
  request l tag 0x46#8 (ownRecSubscribe l value) s

/-! ### Record notices (R126) -/

def ownRecNoticeConfig (l : Link) (pace : Byte) (setting : BitVec 16) (s : State) : State :=
  if 1 ≤ pace.toNat ∧ pace.toNat ≤ 16 ∧ setting.toNat ≤ 1000 then
    answer l .ok (.unreported (s.store.notice.get l).unreported)
      (s.withStore { s.store with notice := s.store.notice.set l ⟨pace.toNat, setting.toNat, none, 0#16⟩ })
  else answer l .invalid .nothing s

/-- REC.NOTICE_CONFIG (R126). -/
def execRecNoticeConfig (l : Link) (tag : Byte) (pace : Byte) (setting : BitVec 16) (s : State) : Result :=
  request l tag 0x47#8 (ownRecNoticeConfig l pace setting) s

def ownRecNoticeGet (l : Link) (s : State) : State :=
  let n := s.store.notice.get l
  answer l .ok (.recordNotice n.pace n.setting n.timer.isSome n.unreported (s.store.sub.get l) (s.store.pinsList.get l)) s

/-- REC.NOTICE_GET (R126). -/
def execRecNoticeGet (l : Link) (tag : Byte) (s : State) : Result := request l tag 0x48#8 (ownRecNoticeGet l) s

/-! ### A link's reset (R129) -/

/-- The Record Store's steps for a reset link. -/
def resetRecords (l : Link) (s : State) : State :=
  reevaluate (s.withStore { s.store with
    slots := updateCompletes (fun h => releaseHeader l (pinHeader l false h)) s.store.slots
    pinsList := s.store.pinsList.set l []
    sub := s.store.sub.set l false
    missed := s.store.missed.set l 0#16
    notice := s.store.notice.set l startNotice })

end Sys2Proof.Machine
end

