-- ==== Sys2Proof/Machine/SetupRequests.lean ====
section
/-! DEFINITION. The setup requests (chapter 1). -/

namespace Sys2Proof.Machine

/-! ### Reading -/

/-- The fields that a list of IDs names; none when some ID names no field (R5). -/
def fieldsOf : List Byte → Option (List Field)
  | [] => some []
  | b :: rest =>
      match fieldOfId b.toNat, fieldsOf rest with
      | some f, some fs => some (f :: fs)
      | _, _ => none

/-- The values of listed fields (R5). -/
def readFields (b : SetupBlock) (fs : List Field) : Payload :=
  .setupValues b.gen (fs.map (fun f => (f, b.live.get f, b.changed[fieldIndex f])))

def ownSetupGet (l : Link) (ids : List Byte) (s : State) : State :=
  match fieldsOf ids with
  | some fs => answer l .ok (readFields s.setup fs) s
  | none => answer l .invalid .nothing s

/-- SETUP.GET (R5). -/
def execSetupGet (l : Link) (tag : Byte) (ids : List Byte) (s : State) : Result :=
  takeRequest l tag 0x10#8 (suitsSetupGet ids) (fun t => .next (ownSetupGet l ids t)) s

/-- The fields changed after generation g; none when g is at or above the live generation (R6, log 24). -/
def changedSince (b : SetupBlock) (g : Word) : List Field :=
  if atOrAbove g b.gen then [] else allFields.filter (fun f => newer b.changed[fieldIndex f] g)

def ownSetupChanges (l : Link) (g : Word) (s : State) : State :=
  answer l .ok (.changes s.setup.gen (changedSince s.setup g)) s

/-- SETUP.CHANGES (R6). -/
def execSetupChanges (l : Link) (tag : Byte) (g : Word) (s : State) : Result :=
  request l tag 0x11#8 (ownSetupChanges l g) s

/-! ### Committing -/

/-- An unguarded commit of a link, past the lockout gate (R8), answered with its outcome. -/
def linkCommit (l : Link) (req : List (Field × Int)) (s : State) : State :=
  if gated l s then answer l .locked .nothing s
  else
    let r := commit (.link l) req s
    answer l (commitAnswer r.2).1 (commitAnswer r.2).2 r.1

def ownSetupSet (l : Link) (field : Byte) (value : Word) (s : State) : State :=
  match fieldOfId field.toNat with
  | some f => linkCommit l [(f, value.toInt)] s
  | none => answer l .invalid .nothing s

/-- SETUP.SET (R20). -/
def execSetupSet (l : Link) (tag : Byte) (field : Byte) (value : Word) (s : State) : Result :=
  request l tag 0x12#8 (ownSetupSet l field value) s

def ownSetupDefault (l : Link) (s : State) : State := linkCommit l (setupRequest factorySetup) s

/-- SETUP.DEFAULT (R20). -/
def execSetupDefault (l : Link) (tag : Byte) (s : State) : Result := request l tag 0x13#8 (ownSetupDefault l) s

/-! ### Batches (R17 to R19) -/

/-- The most pairs of a staged list (R17). -/
def batchCapacity : Nat := 16

def setBatch (l : Link) (b : Option Batch) (s : State) : State :=
  s.withSetup { s.setup with batches := s.setup.batches.set l b }

def ownBatchOpen (l : Link) (s : State) : State :=
  answer l .ok (.base s.setup.gen) (setBatch l (some ⟨s.setup.gen, []⟩) s)

/-- BATCH.OPEN (R17). -/
def execBatchOpen (l : Link) (tag : Byte) (s : State) : Result := request l tag 0x14#8 (ownBatchOpen l) s

/-- A field's staged value replaced in its place. -/
def restage (f : Field) (v : Int) (staged : List (Field × Int)) : List (Field × Int) :=
  staged.map (fun p => if p.1 = f then (f, v) else p)

/-- A pair staged; none when the list is full (R18). -/
def stage (f : Field) (v : Int) (b : Batch) : Option Batch :=
  if (requested b.staged f).isSome then some { b with staged := restage f v b.staged }
  else if b.staged.length < batchCapacity then some { b with staged := b.staged ++ [(f, v)] }
  else none

def ownBatchStage (l : Link) (field : Byte) (value : Word) (s : State) : State :=
  match s.setup.batches.get l with
  | none => answer l .noBatch .nothing s
  | some b =>
      match fieldOfId field.toNat with
      | none => answer l .invalid .nothing s
      | some f =>
          match stage f value.toInt b with
          | some b1 => answer l .ok .nothing (setBatch l (some b1) s)
          | none => answer l .full .nothing s

/-- BATCH.STAGE (R18). -/
def execBatchStage (l : Link) (tag : Byte) (field : Byte) (value : Word) (s : State) : Result :=
  request l tag 0x15#8 (ownBatchStage l field value) s

/-- The form of a BATCH.COMMIT: true is guarded, which an unset form is (R19). -/
def guardedForm : Option Byte → Option Bool
  | none => some true
  | some b => if b = 0#8 then some true else if b = 1#8 then some false else none

/-- A BATCH.COMMIT past the form, the batch and the gate: the guard, then the commit; the batch is closed (R9, R19). -/
def commitBatch (l : Link) (guarded : Bool) (b : Batch) (s : State) : State :=
  let s1 := setBatch l none s
  if guarded && !(staleFields b s).isEmpty then answer l .stale (.stale s.setup.gen (staleFields b s)) s1
  else
    let r := commit (.link l) b.staged s1
    answer l (commitAnswer r.2).1 (commitAnswer r.2).2 r.1

def ownBatchCommit (l : Link) (form : Option Byte) (s : State) : State :=
  match guardedForm form, s.setup.batches.get l with
  | none, _ => answer l .invalid .nothing s
  | some _, none => answer l .noBatch .nothing s
  | some g, some b => if gated l s then answer l .locked .nothing s else commitBatch l g b s

/-- BATCH.COMMIT (R19). -/
def execBatchCommit (l : Link) (tag : Byte) (form : Option Byte) (s : State) : Result :=
  request l tag 0x16#8 (ownBatchCommit l form) s

def ownBatchDrop (l : Link) (s : State) : State := answer l .ok .nothing (setBatch l none s)

/-- BATCH.DROP (R17). -/
def execBatchDrop (l : Link) (tag : Byte) (s : State) : Result := request l tag 0x17#8 (ownBatchDrop l) s

end Sys2Proof.Machine
end

