-- ==== Sys2Proof/Machine/StoreRequests.lean ====
section
/-! DEFINITION. The store requests (section 9.5), and STORE.RESULT, which the link answers (R194). -/

namespace Sys2Proof.Machine

/-- The label check of R175. -/
def labelOk (label : Vector Byte 8) : Bool := label.toList.all (fun b => decide (0x20 ≤ b.toNat) && decide (b.toNat ≤ 0x7E))

def ownStoreSave (l : Link) (tag : Byte) (slot : Byte) (label : Vector Byte 8) (s : State) : State :=
  storeRequest l tag 0x60#8 (.save label) (labelOk label) slot s

/-- STORE.SAVE (R175, R177). -/
def execStoreSave (l : Link) (tag : Byte) (slot : Byte) (label : Vector Byte 8) (s : State) : Result :=
  request l tag 0x60#8 (ownStoreSave l tag slot label) s

def ownStoreRecall (l : Link) (tag : Byte) (slot : Byte) (s : State) : State :=
  storeRequest l tag 0x61#8 .recall true slot s

/-- STORE.RECALL (R175, R178). -/
def execStoreRecall (l : Link) (tag : Byte) (slot : Byte) (s : State) : Result :=
  request l tag 0x61#8 (ownStoreRecall l tag slot) s

def ownStoreErase (l : Link) (tag : Byte) (slot : Byte) (s : State) : State :=
  storeRequest l tag 0x62#8 .erase true slot s

/-- STORE.ERASE (R175, R179). -/
def execStoreErase (l : Link) (tag : Byte) (slot : Byte) (s : State) : Result :=
  request l tag 0x62#8 (ownStoreErase l tag slot) s

/-- A value that is neither on nor off fails the values check, whichever of the two it is read as. -/
def ownStoreLock (l : Link) (tag : Byte) (slot value : Byte) (s : State) : State :=
  storeRequest l tag 0x63#8 (.lock ((onOff value).getD false)) (onOff value).isSome slot s

/-- STORE.LOCK (R175, R180). -/
def execStoreLock (l : Link) (tag : Byte) (slot value : Byte) (s : State) : Result :=
  request l tag 0x63#8 (ownStoreLock l tag slot value) s

/-- What STORE.LIST carries (R181). -/
def listPayload (sv : SavedStore) : Payload :=
  .storeList sv.ctrl sv.slot0Gen sv.directory (sv.op.map (fun op => (op.req, op.marked))) sv.queue

def ownStoreList (l : Link) (s : State) : State :=
  if s.saved.ctrl = .absent then answer l .noStore .nothing s else answer l .ok (listPayload s.saved) s

/-- STORE.LIST (R181). -/
def execStoreList (l : Link) (tag : Byte) (s : State) : Result := request l tag 0x64#8 (ownStoreList l) s

def ownStoreCancel (l : Link) (s : State) : State :=
  if s.saved.ctrl = .absent then answer l .noStore .nothing s else cancelRequest l s

/-- STORE.CANCEL (R182). -/
def execStoreCancel (l : Link) (tag : Byte) (s : State) : Result := request l tag 0x65#8 (ownStoreCancel l) s

/-- A notice cleared on a link. -/
def clearNotice (l : Link) (n : Notice) (s : State) : State :=
  setLink l { s.links.get l with notices := (s.links.get l).notices &&& ~~~(noticeMask n) } s

def ownStoreResult (l : Link) (s : State) : State :=
  match (s.links.get l).deferred with
  | .ready tag kind status payload =>
      clearNotice l .result (answer l .ok (.result tag kind status payload)
        (setLink l { s.links.get l with deferred := .empty } s))
  | .outstanding tag kind => answer l .notReady (.outstanding tag kind) s
  | .empty => answer l .ignored .nothing s

/-- STORE.RESULT (R194). -/
def execStoreResult (l : Link) (tag : Byte) (s : State) : Result := request l tag 0x66#8 (ownStoreResult l) s

end Sys2Proof.Machine
end

