-- ==== Sys2Proof/Machine/LinkEvents.lean ====
section
/-! DEFINITION. The link events (chapter 10): WRITE transfers given as raw frames, and the link reset line. -/

namespace Sys2Proof.Machine

/-! ### Raw frames (R188 to R190) -/

/-- The meaning of the request that a well-formed frame spells; a command that is no request spells no frame. -/
def runFrame (i : Instr) (s : State) : Result :=
  match i with
  | .setupGet l t ids => execSetupGet l t ids s
  | .setupChanges l t g => execSetupChanges l t g s
  | .setupSet l t f v => execSetupSet l t f v s
  | .setupDefault l t => execSetupDefault l t s
  | .batchOpen l t => execBatchOpen l t s
  | .batchStage l t f v => execBatchStage l t f v s
  | .batchCommit l t f => execBatchCommit l t f s
  | .batchDrop l t => execBatchDrop l t s
  | .panelTake l t m => execPanelTake l t m s
  | .panelQueueConfig l t m th st => execPanelQueueConfig l t m th st s
  | .panelQueueGet l t => execPanelQueueGet l t s
  | .panelRouteGet l t i => execPanelRouteGet l t i s
  | .panelRouteSet l t i en mk a b ks co ex ac fb st sk => execPanelRouteSet l t i en mk a b ks co ex ac fb st sk s
  | .panelDefaultGet l t => execPanelDefaultGet l t s
  | .panelDefaultSet l t a => execPanelDefaultSet l t a s
  | .panelLedSet l t n v => execPanelLedSet l t n v s
  | .panelLedGet l t n => execPanelLedGet l t n s
  | .panelLedConfig l t n src op v => execPanelLedConfig l t n src op v s
  | .lockoutSet l t x => execLockoutSet l t x s
  | .acqRun l t => execAcqRun l t s
  | .acqSingle l t => execAcqSingle l t s
  | .acqStop l t => execAcqStop l t s
  | .acqForce l t => execAcqForce l t s
  | .acqStatus l t => execAcqStatus l t s
  | .recList l t => execRecList l t s
  | .recHeader l t n f m => execRecHeader l t n f m s
  | .recRead l t n c sg f k fmt => execRecRead l t n c sg f k fmt s
  | .recPin l t n => execRecPin l t n s
  | .recUnpin l t n => execRecUnpin l t n s
  | .recRelease l t n => execRecRelease l t n s
  | .recSubscribe l t v => execRecSubscribe l t v s
  | .recNoticeConfig l t p st => execRecNoticeConfig l t p st s
  | .recNoticeGet l t => execRecNoticeGet l t s
  | .dispStatus l t => execDispStatus l t s
  | .dispClear l t => execDispClear l t s
  | .dispOverlay l t x y w h ix => execDispOverlay l t x y w h ix s
  | .dispOverlayFill l t x y w h ix => execDispOverlayFill l t x y w h ix s
  | .dispPalette l t f m cs => execDispPalette l t f m cs s
  | .dispPaletteGet l t f m => execDispPaletteGet l t f m s
  | .storeSave l t sl label => execStoreSave l t sl label s
  | .storeRecall l t sl => execStoreRecall l t sl s
  | .storeErase l t sl => execStoreErase l t sl s
  | .storeLock l t sl v => execStoreLock l t sl v s
  | .storeList l t => execStoreList l t s
  | .storeCancel l t => execStoreCancel l t s
  | .storeResult l t => execStoreResult l t s
  | .linkStatus l t => execLinkStatus l t s
  | .linkConfig l t st e => execLinkConfig l t st e s
  | .linkClearNotices l t n => execLinkClearNotices l t n s
  | .powerStandby l t => execPowerStandby l t s
  | .frameMalformed .. => .next s
  | .writeRefusedBusy .. => .next s
  | .linkResetAssert .. => .next s
  | .linkResetRelease .. => .next s
  | .keyLineChange .. => .next s
  | .debounceExpiry .. => .next s
  | .encoderLineChange .. => .next s
  | .queueTimerExpiry .. => .next s
  | .recordTimerExpiry .. => .next s
  | .quietTimerExpiry => .next s
  | .holdoffExpiry => .next s
  | .autoTimerExpiry => .next s
  | .frameEvent => .next s
  | .sample .. => .next s
  | .spanPass => .next s
  | .transmissionComplete => .next s
  | .panelPresentChange .. => .next s
  | .lockChange .. => .next s
  | .eepromReadComplete .. => .next s
  | .pageWriteComplete => .next s
  | .eepromAccessFault => .next s
  | .powerOn .. => .next s

/-- The tag byte of a frame, 0 when it has none (R189, R190). -/
def frameTag (frame : List Byte) : Byte := frame.headD 0#8

/-- The kind byte of a frame, 0 when it has none. -/
def frameKind (frame : List Byte) : Byte := frame.tail.headD 0#8

/-- A WRITE transfer ends (R188 to R190): a frame that fails the form, kind or length check is answered MALFORMED, a
well-formed one is its request; with READY low either is refused BUSY (log 8). -/
def writeTransfer (l : Link) (frame : List Byte) (s : State) : Result :=
  match decodeFrame l frame with
  | some i => runFrame i s
  | none => takeRequest l (frameTag frame) (frameKind frame) false (fun t => .next t) s

/-- FRAME_MALFORMED (R190): a WRITE transfer of these bytes. -/
def execFrameMalformed (l : Link) (frame : List Byte) (s : State) : Result := writeTransfer l frame s

/-- WRITE_REFUSED_BUSY (R189): a WRITE transfer of these bytes. -/
def execWriteRefusedBusy (l : Link) (frame : List Byte) (s : State) : Result := writeTransfer l frame s

/-! ### The link reset line (R199, R200) -/

/-- The link's own part of the assertion: it keeps only that it has opened. -/
def resetLink (k : LinkState) : LinkState := { startLink with opened := k.opened, resetLine := true }

/-- The Event Router's part (R64): for the remote link, lockout to LOCAL with LOCKOUT on the console link. -/
def resetLockout (l : Link) (s : State) : State :=
  if l = .remote ∧ s.router.lockout ≠ .localControl then
    notify .console .lockout (evalLeds (s.withRouter { s.router with lockout := .localControl }))
  else s

/-- Power Control drops the requester of a standby entry whose link is reset (R206). -/
def resetRequester (l : Link) (p : Power) : Power :=
  { p with requester := p.requester.filter (fun r => decide (r.1 ≠ l)) }

/-- The receivers' parts, which touch different state (R199, log 27). -/
def resetReceivers (l : Link) (s : State) : State :=
  let s1 := s.withSetup { s.setup with batches := s.setup.batches.set l none }
  let s2 := setQueue l startQueue s1
  let s3 := resetStore l (resetRecords l s2)
  let s4 := s3.withDisp { s3.disp with overlay := s3.disp.overlay.set l [] }
  let s5 := resetLockout l s4
  s5.withPower (resetRequester l s5.power)

/-- LINK_RESET_ASSERT (R199); a line already asserted has no change. -/
def execLinkResetAssert (l : Link) (s : State) : Result :=
  if (s.links.get l).resetLine then .next s
  else .next (resetReceivers l (setLink l (resetLink (s.links.get l)) s))

/-- LINK_RESET_RELEASE (R200): READY goes high, once the link has opened. -/
def execLinkResetRelease (l : Link) (s : State) : Result :=
  let k := s.links.get l
  if k.resetLine then .next (setLink l { k with resetLine := false, ready := k.opened } s) else .next s

end Sys2Proof.Machine
end

