-- ==== Sys2Proof/Machine/PowerEvents.lean ====
section
/-! DEFINITION. POWER_ON (R209, R210). -/

namespace Sys2Proof.Machine

/-- POWER_ON: the supply is established, with the levels of the two STORE_ADDR straps. -/
def execPowerOn (straps : BitVec 2) (s : State) : Result := .next (startUpPowerOn straps s)

end Sys2Proof.Machine
end

