-- ==== Sys2Proof/Machine/Dispatch.lean ====
section
/-! DEFINITION. One arm per command: the meaning that each calls. -/

namespace Sys2Proof.Machine

/-- The effect of a command on everything but the queue of commands. -/
def exec (i : Instr) (s : State) : Host.Outcome State Fault Refusal :=
  match i with
  | .setupGet l tag ids => Sys2Proof.Machine.execSetupGet l tag ids s
  | .setupChanges l tag gen => Sys2Proof.Machine.execSetupChanges l tag gen s
  | .setupSet l tag field value => Sys2Proof.Machine.execSetupSet l tag field value s
  | .setupDefault l tag => Sys2Proof.Machine.execSetupDefault l tag s
  | .batchOpen l tag => Sys2Proof.Machine.execBatchOpen l tag s
  | .batchStage l tag field value => Sys2Proof.Machine.execBatchStage l tag field value s
  | .batchCommit l tag form => Sys2Proof.Machine.execBatchCommit l tag form s
  | .batchDrop l tag => Sys2Proof.Machine.execBatchDrop l tag s
  | .panelTake l tag m => Sys2Proof.Machine.execPanelTake l tag m s
  | .panelQueueConfig l tag mode threshold setting => Sys2Proof.Machine.execPanelQueueConfig l tag mode threshold setting s
  | .panelQueueGet l tag => Sys2Proof.Machine.execPanelQueueGet l tag s
  | .panelRouteGet l tag index => Sys2Proof.Machine.execPanelRouteGet l tag index s
  | .panelRouteSet l tag index enabled mk a b kinds cond exempt action fieldBase stride stepKind => Sys2Proof.Machine.execPanelRouteSet l tag index enabled mk a b kinds cond exempt action fieldBase stride stepKind s
  | .panelDefaultGet l tag => Sys2Proof.Machine.execPanelDefaultGet l tag s
  | .panelDefaultSet l tag action => Sys2Proof.Machine.execPanelDefaultSet l tag action s
  | .panelLedSet l tag led value => Sys2Proof.Machine.execPanelLedSet l tag led value s
  | .panelLedGet l tag led => Sys2Proof.Machine.execPanelLedGet l tag led s
  | .panelLedConfig l tag led source op opValue => Sys2Proof.Machine.execPanelLedConfig l tag led source op opValue s
  | .lockoutSet l tag state => Sys2Proof.Machine.execLockoutSet l tag state s
  | .acqRun l tag => Sys2Proof.Machine.execAcqRun l tag s
  | .acqSingle l tag => Sys2Proof.Machine.execAcqSingle l tag s
  | .acqStop l tag => Sys2Proof.Machine.execAcqStop l tag s
  | .acqForce l tag => Sys2Proof.Machine.execAcqForce l tag s
  | .acqStatus l tag => Sys2Proof.Machine.execAcqStatus l tag s
  | .recList l tag => Sys2Proof.Machine.execRecList l tag s
  | .recHeader l tag number first m => Sys2Proof.Machine.execRecHeader l tag number first m s
  | .recRead l tag number chan segment first count format => Sys2Proof.Machine.execRecRead l tag number chan segment first count format s
  | .recPin l tag number => Sys2Proof.Machine.execRecPin l tag number s
  | .recUnpin l tag number => Sys2Proof.Machine.execRecUnpin l tag number s
  | .recRelease l tag number => Sys2Proof.Machine.execRecRelease l tag number s
  | .recSubscribe l tag value => Sys2Proof.Machine.execRecSubscribe l tag value s
  | .recNoticeConfig l tag pace setting => Sys2Proof.Machine.execRecNoticeConfig l tag pace setting s
  | .recNoticeGet l tag => Sys2Proof.Machine.execRecNoticeGet l tag s
  | .dispStatus l tag => Sys2Proof.Machine.execDispStatus l tag s
  | .dispClear l tag => Sys2Proof.Machine.execDispClear l tag s
  | .dispOverlay l tag x y w h indexes => Sys2Proof.Machine.execDispOverlay l tag x y w h indexes s
  | .dispOverlayFill l tag x y w h index => Sys2Proof.Machine.execDispOverlayFill l tag x y w h index s
  | .dispPalette l tag first m colours => Sys2Proof.Machine.execDispPalette l tag first m colours s
  | .dispPaletteGet l tag first m => Sys2Proof.Machine.execDispPaletteGet l tag first m s
  | .storeSave l tag slot label => Sys2Proof.Machine.execStoreSave l tag slot label s
  | .storeRecall l tag slot => Sys2Proof.Machine.execStoreRecall l tag slot s
  | .storeErase l tag slot => Sys2Proof.Machine.execStoreErase l tag slot s
  | .storeLock l tag slot value => Sys2Proof.Machine.execStoreLock l tag slot value s
  | .storeList l tag => Sys2Proof.Machine.execStoreList l tag s
  | .storeCancel l tag => Sys2Proof.Machine.execStoreCancel l tag s
  | .storeResult l tag => Sys2Proof.Machine.execStoreResult l tag s
  | .linkStatus l tag => Sys2Proof.Machine.execLinkStatus l tag s
  | .linkConfig l tag style enables => Sys2Proof.Machine.execLinkConfig l tag style enables s
  | .linkClearNotices l tag notices => Sys2Proof.Machine.execLinkClearNotices l tag notices s
  | .powerStandby l tag => Sys2Proof.Machine.execPowerStandby l tag s
  | .frameMalformed l frame => Sys2Proof.Machine.execFrameMalformed l frame s
  | .writeRefusedBusy l frame => Sys2Proof.Machine.execWriteRefusedBusy l frame s
  | .linkResetAssert l => Sys2Proof.Machine.execLinkResetAssert l s
  | .linkResetRelease l => Sys2Proof.Machine.execLinkResetRelease l s
  | .keyLineChange key pressed => Sys2Proof.Machine.execKeyLineChange key pressed s
  | .debounceExpiry key => Sys2Proof.Machine.execDebounceExpiry key s
  | .encoderLineChange enc a b => Sys2Proof.Machine.execEncoderLineChange enc a b s
  | .queueTimerExpiry l => Sys2Proof.Machine.execQueueTimerExpiry l s
  | .recordTimerExpiry l => Sys2Proof.Machine.execRecordTimerExpiry l s
  | .quietTimerExpiry => Sys2Proof.Machine.execQuietTimerExpiry s
  | .holdoffExpiry => Sys2Proof.Machine.execHoldoffExpiry s
  | .autoTimerExpiry => Sys2Proof.Machine.execAutoTimerExpiry s
  | .frameEvent => Sys2Proof.Machine.execFrameEvent s
  | .sample core code => Sys2Proof.Machine.execSample core code s
  | .spanPass => Sys2Proof.Machine.execSpanPass s
  | .transmissionComplete => Sys2Proof.Machine.execTransmissionComplete s
  | .panelPresentChange high => Sys2Proof.Machine.execPanelPresentChange high s
  | .lockChange high => Sys2Proof.Machine.execLockChange high s
  | .eepromReadComplete image => Sys2Proof.Machine.execEepromReadComplete image s
  | .pageWriteComplete => Sys2Proof.Machine.execPageWriteComplete s
  | .eepromAccessFault => Sys2Proof.Machine.execEepromAccessFault s
  | .powerOn straps => Sys2Proof.Machine.execPowerOn straps s

end Sys2Proof.Machine
end

