-- ==== Sys2Proof/Machine/Picture.lean ====
section
/-! DEFINITION. The pixels of a composed frame (R153 to R156), and the order in which the display link carries them (R158). -/

namespace Sys2Proof.Machine

/-- The base colour of a channel's ramp (R154). -/
def baseColour : Chan → Nat × Nat × Nat
  | .ch1 => (255, 224, 0)
  | .ch2 => (0, 224, 255)
  | .ch3 => (255, 64, 255)
  | .ch4 => (64, 255, 64)

/-- The level at which a cell value is shown under DISP.GRADE g (R154). -/
def cellLevel (v : Byte) (g : Int) : Nat := min 255 (v.toNat * g.toNat / 16)

/-- One component of a ramp colour. -/
def rampPart (b level : Nat) : Byte := BitVec.ofNat 8 (b * (level + 32) / 287)

def rampColour (c : Chan) (level : Nat) : Colour :=
  let b := baseColour c
  ⟨rampPart b.1 level, rampPart b.2.1 level, rampPart b.2.2 level⟩

/-- Cell (x, y) lies on a graticule line: FULL 0, AXES 1, NONE 2 (R156). -/
def onGrid (grid : Int) (x y : Nat) : Bool :=
  if grid = 0 then
    [0, 70, 140, 210, 280, 350, 420, 490, 560, 630, 699].contains x || [0, 50, 100, 150, 200, 250, 300, 350, 399].contains y
  else if grid = 1 then x == 350 || y == 200
  else false

def graticule : Colour := ⟨80#8, 80#8, 80#8⟩
def background : Colour := ⟨0#8, 0#8, 0#8⟩

/-- The base colour of cell (x, y): the lowest-numbered channel with hits there, the graticule, or the background (R155). -/
def cellColour (f : Frame) (x y : Nat) : Colour :=
  match Config.chans.find? (fun c => memGet (f.planes.get c) (cellAddress x y) != 0#8) with
  | some c => rampColour c (cellLevel (memGet (f.planes.get c) (cellAddress x y)) f.grade)
  | none => if onGrid f.grid x y then graticule else background

/-- An overlay layer over a colour: index 0 lets it show through (R155). -/
def overlaid (palette : Vector Colour 255) (layer : Memory) (a : Nat) (under : Colour) : Colour :=
  let i := (memGet layer a).toNat
  if i = 0 then under else palette.toList.getD (i - 1) under

/-- Pixel (X, Y) of a composed frame (R153, R155): the waveform area is X 50..749, Y 40..439, its rows upward. -/
def framePixel (f : Frame) (x y : Nat) : Colour :=
  let base := if 50 ≤ x ∧ x ≤ 749 ∧ 40 ≤ y ∧ y ≤ 439 then cellColour f (x - 50) (439 - y) else background
  let a := y * Config.frameWidth + x
  overlaid f.palette f.overlay.remote a (overlaid f.palette f.overlay.console a base)

/-! ### The order in which the display link carries a frame (R158) -/

/-- Row Y, from X = 0 to X = 799. -/
def frameRow (f : Frame) (y : Nat) : List Colour := (List.range Config.frameWidth).map (fun x => framePixel f x y)

/-- The frame in transmission as the display link carries it: rows Y = 0 to Y = 479, each pixel as red, green and blue. -/
def carriedFrame (f : Frame) : List Byte :=
  ((List.range Config.frameHeight).flatMap (frameRow f)).flatMap (fun c => [c.red, c.green, c.blue])

end Sys2Proof.Machine
end

