-- ==== Sys2Proof/Machine/Wire.lean ====
section
/-! DEFINITION. What a READ transfer shifts out (R191): response frames and the bytes of their payloads (R202, R203). Items that
the manual leaves uncoded are log 17's. -/

namespace Sys2Proof.Machine

/-- A count or position in one byte. -/
def byteOf (n : Nat) : Byte := BitVec.ofNat 8 n

def bitByte (b : Bool) : Byte := byteOf (bit b)

def fieldByte (f : Field) : Byte := byteOf (fieldId f)

/-- A signed value in four bytes. -/
def valueOf (v : Int) : List Byte := le32 (BitVec.ofInt 32 v)

/-- A count in two bytes. -/
def le16Of (n : Nat) : List Byte := le16 (BitVec.ofNat 16 n)

/-- A panel event record (R203). -/
def eventBytes (e : PanelEvent) : List Byte :=
  [byteOf e.control, byteOf (eventKindCode e.kind), BitVec.ofInt 8 e.detents, byteOf (e.entry.getD 255)] ++ le32 e.time

/-- Every part of a routing entry in the order of R36. -/
def routeBytes (e : RouteEntry) : List Byte :=
  [bitByte e.enabled, byteOf (matchKindCode e.matchKind), e.a, e.b, e.kinds.setWidth 8, byteOf (runCondCode e.cond),
   bitByte e.exempt, byteOf (actionCode e.action), e.fieldBase, e.stride, e.stepKind]

/-- An LED source by its position in R57, with five bytes of operands (R59, R202). DESIGN CHOICE: in an answer the bytes that
PANEL.LED_CONFIG ignores are zeros, the four after the set of RUNSTATE or CAPSTATE and all five of a source without operands
(log 28). -/
def ledBytes : LedSource → List Byte
  | .fieldEq f v => [0#8, fieldByte f] ++ valueOf v
  | .runState set => [1#8, set.setWidth 8] ++ le32 0#32
  | .capState set => [2#8, set.setWidth 8] ++ le32 0#32
  | .lockout => [3#8, 0#8] ++ le32 0#32
  | .link => [4#8, 0#8] ++ le32 0#32
  | .standbyInd => [5#8, 0#8] ++ le32 0#32
  | .off => [6#8, 0#8] ++ le32 0#32

/-- Flags of the two links: bit 0 console, bit 1 remote (R203). -/
def linkFlags (p : PerLink Bool) : Byte := byteOf (bit p.console + 2 * bit p.remote)

/-- A segment entry (R203). -/
def segBytes (e : SegEntry) : List Byte := le48 e.time ++ le32 e.point ++ [bitByte e.forced, 0#8]

/-- Clip flags: bit n − 1 for CHn (R203). -/
def clipByte (p : PerChan Bool) : Byte := byteOf (bit p.ch1 + 2 * bit p.ch2 + 4 * bit p.ch3 + 8 * bit p.ch4)

/-- A record header and the segment entries it carries (R203). -/
def headerBytesOf (h : Header) (entries : List SegEntry) : List Byte :=
  le32 h.number ++ le32 h.gen ++ [byteOf h.k, byteOf (outcomeCode h.outcome)] ++ le16Of h.planned ++ le16Of h.completed ++
  [clipByte h.clip, byteOf (drawnCode h.drawn)] ++ le32 (BitVec.ofNat 32 h.points) ++ le32 (BitVec.ofNat 32 h.trigIndex) ++
  [linkFlags h.pins, linkFlags h.released] ++ le16Of entries.length ++
  (allFields.filter (fun f => decide (fieldClass f = .capture))).flatMap (fun f => valueOf (h.setup.get f)) ++
  entries.flatMap segBytes

/-- An entry of REC.LIST (R121). DESIGN CHOICE: both links' pin flags take one byte, bit 0 the console link's (log 17). -/
def listEntryBytes (e : ListEntry) : List Byte :=
  le32 e.number ++ le32 e.gen ++ [byteOf (outcomeCode e.outcome)] ++ le16Of e.planned ++ le16Of e.completed ++
  [byteOf (drawnCode e.drawn), linkFlags e.pins, bitByte e.released]

def numberBytes : Option Word → List Byte
  | some n => le32 n
  | none => []

def pointBytes (size : Nat) (v : Int) : List Byte := if size = 2 then le16 (BitVec.ofInt 16 v) else [BitVec.ofInt 8 v]

/-- A saved-by source by its position in R202, CONSOLE, REMOTE, AUTOSAVE, of the image's codes 1 to 3 (R169). A code that R169 does
not list has no position: its byte is free (log 26). -/
def savedByByte (code : BitVec 7) : Byte :=
  if 1 ≤ code.toNat ∧ code.toNat ≤ 3 then byteOf (code.toNat - 1) else Config.unlistedSavedBy code

/-- A directory entry of STORE.LIST (R181). DESIGN CHOICE: the saved generation, of which R169 holds the low 16 bits, takes the four
bytes of a generation of R202 with zeros above them (log 17). -/
def dirBytes : DirEntry → List Byte
  | .empty => [0#8]
  | .valid label locked savedBy gen =>
      [1#8] ++ label.toList ++ [bitByte locked, savedByByte savedBy] ++ le32 (gen.setWidth 32)
  | .corrupt => [2#8]
  | .unread => [3#8]

def storeSourceByte : Option Link → Byte
  | some .console => 0#8
  | some .remote => 1#8
  | none => 2#8

def storeKindByte : StoreKind → Byte
  | .save _ => 0#8
  | .recall => 1#8
  | .erase => 2#8
  | .lock _ => 3#8
  | .autosave => 4#8

def storeReqBytes (r : StoreReq) : List Byte := [storeSourceByte r.source, storeKindByte r.kind, byteOf r.slot.val]

/-- The bytes of a response payload, its items in the order their rule lists them (R202). DEDUCED: flags are 1 when set, and the
level of PANEL.LED_GET is 1 when lit (log 9). DESIGN CHOICE: items without a code have the one of log 17, and the 48-bit time
counter of ACQ.STATUS and LINK.STATUS, for which R202 gives no width, takes six bytes (log 17). -/
def payloadBytes : Payload → List Byte
  | .nothing => []
  | .setupValues g vs => le32 g ++ vs.flatMap (fun x => fieldByte x.1 :: (valueOf x.2.1 ++ le32 x.2.2))
  | .changes g fs => le32 g ++ fs.map fieldByte
  | .base g => le32 g
  | .applied g c a => le32 g ++ [bitByte c, bitByte a]
  | .installed g c => le32 g ++ [bitByte c]
  | .stale g fs => le32 g ++ fs.map fieldByte
  | .offending f => [fieldByte f]
  | .taken es left lost => [byteOf es.length, byteOf left] ++ le16 lost ++ es.flatMap eventBytes
  | .discarded n lost => [byteOf n] ++ le16 lost
  | .queue m th st n lost => [byteOf (queueModeCode m), byteOf th, byteOf st, byteOf n] ++ le16 lost
  | .route e => routeBytes e
  | .action a => [byteOf (actionCode a)]
  | .led e lit => ledBytes e.source ++ [bitByte e.linkValue, bitByte lit]
  | .lockouts a b => [byteOf (lockoutCode a), byteOf (lockoutCode b)]
  | .acq r c sp fp => [byteOf (runCode r), byteOf (capCode c), bitByte sp, bitByte fp]
  | .acqStatus r c sp fp h a t rec' =>
      [byteOf (runCode r), byteOf (capCode c), bitByte sp, bitByte fp, bitByte h, bitByte a] ++ le48 t ++
      (match rec' with
        | some x => le32 x.1 ++ le16Of x.2.1 ++ le16Of x.2.2
        | none => [])
  | .records es k m u => es.flatMap listEntryBytes ++ [byteOf k] ++ le16 m ++ le16 u
  | .header h es => headerBytesOf h es
  | .points size vs => vs.flatMap (pointBytes size)
  | .released n => [byteOf n]
  | .subscription b => [bitByte b]
  | .unreported n => le16 n
  | .recordNotice p st t u sub pins =>
      [byteOf p] ++ le16Of st ++ [bitByte t] ++ le16 u ++ [bitByte sub] ++ pins.flatMap le32
  | .display d p k f n sd e r rd =>
      [byteOf (dispLinkCode d), bitByte p, bitByte k] ++ le32 f ++ le32 n ++ [bitByte sd, byteOf (engineCode e)] ++
      numberBytes r ++ [bitByte rd]
  | .cleared e r => [byteOf (engineCode e)] ++ numberBytes r
  | .pixels n => le32 (BitVec.ofNat 32 n)
  | .entries n => [byteOf n]
  | .colours cs => cs.flatMap (fun c => [c.red, c.green, c.blue])
  | .saved n g => [byteOf n.val] ++ le32 g
  | .pages n => [byteOf n]
  | .storeList c g dir op q =>
      [byteOf (storeStateCode c)] ++ le32 g ++ dir.toList.flatMap dirBytes ++
      (match op with
        | some x => [1#8] ++ storeReqBytes x.1 ++ [bitByte x.2]
        | none => [0#8]) ++
      q.flatMap storeReqBytes
  | .removed => [0#8]
  | .marked => [1#8]
  | .result t k st p => [t, k, statusCode st] ++ payloadBytes p
  | .outstanding t k => [t, k]
  | .linkStatus r c t g lo d sc pw st df n e lost missed ow lk =>
      [byteOf (runCode r), byteOf (capCode c)] ++ le48 t ++ le32 g ++
      [byteOf (lockoutCode lo), byteOf (dispLinkCode d), byteOf (storeStateCode sc), byteOf (powerCode pw),
       byteOf (styleCode st), byteOf df, n.setWidth 8, e.setWidth 8] ++ le16 lost ++ le16 missed ++ le16 ow ++ le16 lk
  | .config st e => [byteOf (styleCode st), e.setWidth 8]
  | .notices n => [n.setWidth 8]

/-- A response frame: tag, status code, payload length, payload (R202). -/
def responseBytes (r : Response) : List Byte :=
  let p := payloadBytes r.payload
  [r.tag, statusCode r.status] ++ le16Of p.length ++ p

/-- The response that a READ transfer shifts out (R191). -/
def readResponse (k : LinkState) : Response :=
  (if k.ready then k.response else k.refusal).getD ⟨0#8, .noResponse, .nothing⟩

/-- The response frame that a READ transfer shifts out after its transfer code and before the 00h (R191); none from a link that
takes no transfer (R187). -/
def readFrame (l : Link) (s : State) : List Byte :=
  let k := s.links.get l
  if takesTransfers k then responseBytes (readResponse k) else []

end Sys2Proof.Machine
end

