-- ==== Sys2Proof/Machine/Transfers.lean ====
section
/-! DEFINITION. A transfer on a link's serial wires (R187): what it does when select is released, and what the part shifts out
while it lasts. The commands stand for the WRITE transfers; a READ transfer has no effect and hence no command. -/

namespace Sys2Proof.Machine

/-- The bytes that the processor has clocked in, judged when select is released: a WRITE transfer is judged as one frame, and a
transfer of any other code, or with no code, has no effect (R187). -/
def endTransfer (l : Link) (clockedIn : List Byte) (s : State) : Result :=
  match clockedIn with
  | [] => .next s
  | code :: frame => if code = Config.writeCode then writeTransfer l frame s else .next s

/-- What follows the transfer code on data out, 00h being shifted out after it (R187, R191). -/
def outgoing (l : Link) (clockedIn : List Byte) (s : State) : List Byte :=
  match clockedIn with
  | [] => []
  | code :: _ => if code = Config.readCode then readFrame l s else []

/-- What the part shifts out, one byte for each byte clocked (R187, R191): 00h while the transfer code comes in (DEDUCED, log 34), then the
response frame of a READ transfer, then 00h. -/
def shiftedOut (l : Link) (clockedIn : List Byte) (s : State) : List Byte :=
  (List.range clockedIn.length).map (fun i => if i = 0 then 0#8 else (outgoing l clockedIn s).getD (i - 1) 0#8)

end Sys2Proof.Machine
end

