-- ==== Sys2Proof/Safety.lean ====
section
/-! DEFINITION. What claims about the part speak of: a link that takes a request, the state an answer leaves, what a commit, a
panel event, a record or a draw leaves, and the invariants that every step keeps. -/

namespace Sys2Proof.Machine

/-! ### Links -/

/-- The link takes a request and hands it to its owner: open, reset line not asserted, READY high, power ACTIVE (R187 to
R190). -/
def taking (l : Link) (s : State) : Prop :=
  takesTransfers (s.links.get l) = true ∧ (s.links.get l).ready = true ∧ s.power.state = .active

/-- The link takes a long request too: its deferred result is EMPTY (R190). -/
def takingLong (l : Link) (s : State) : Prop := taking l s ∧ (s.links.get l).deferred = .empty

/-- The link takes frames, whatever the power state and the deferred result: open, not in reset, READY high. -/
def ready (l : Link) (s : State) : Prop :=
  takesTransfers (s.links.get l) = true ∧ (s.links.get l).ready = true

/-- A state once a request of the link with this tag has been answered (R188): response placed, READY high, no request in
work, no refusal; nothing else changed. -/
def replied (l : Link) (tag : Byte) (status : Status) (payload : Payload) (s : State) : State :=
  s.withLinks (s.links.set l { s.links.get l with
    response := some ⟨tag, status, payload⟩, inWork := none, ready := true, refusal := none })

/-- A state while the link works on the request it has taken (R188). -/
def working (l : Link) (tag kind : Byte) (s : State) : State :=
  s.withLinks (s.links.set l { s.links.get l with response := none, inWork := some (tag, kind), ready := false })

/-- The link holds this answer (R188): response placed, READY high, no request in work, no refusal. -/
def answered (l : Link) (tag : Byte) (status : Status) (payload : Payload) (t : State) : Prop :=
  (t.links.get l).response = some ⟨tag, status, payload⟩ ∧ (t.links.get l).ready = true ∧
    (t.links.get l).inWork = none ∧ (t.links.get l).refusal = none

/-- No link has changed from s to t but in the notices that pend on it. -/
def linksKept (s t : State) : Prop := ∀ m, t.links.get m = { s.links.get m with notices := (t.links.get m).notices }

/-- Power Control is neither asked nor asking: no standby request is pending on it (R206). -/
def atPeace (s : State) : Prop := s.power.state = .active ∧ s.seq.standbyStop = false

/-! ### The live setup (R16) -/

/-- A value lies within the catalogue range of its field, dependent ranges left to `setupLegal` (R1). -/
def inCatalogue (f : Field) (v : Int) : Bool :=
  match handling f with
  | .enum set => set.contains v
  | .clamp lo hi => decide (lo ≤ v) && decide (v ≤ hi)

/-- The slope suits the trigger type (R3). -/
def slopeLegal (st : Setup) : Bool := (legalSlopes (st.get .trigType)).contains (st.get .trigSlope)

/-- Every offset lies in the range of its channel's scale (R2). -/
def offsetsLegal (st : Setup) : Bool :=
  Config.chans.all (fun c =>
    decide (-(offsetBound (st.get (.chScale c))) ≤ st.get (.chOffset c)) &&
    decide (st.get (.chOffset c) ≤ offsetBound (st.get (.chScale c))))

/-- The trigger levels lie in the source channel's range, and in WINDOW the lower is at most the upper (R2, R16). -/
def levelsLegal (st : Setup) : Bool :=
  let r := levelRange st
  decide (r.1 ≤ st.get .trigLevel) && decide (st.get .trigLevel ≤ r.2) &&
  decide (r.1 ≤ st.get .trigUpper) && decide (st.get .trigUpper ≤ r.2) &&
  (decide (st.get .trigType = 0) || decide (st.get .trigLevel ≤ st.get .trigUpper))

/-- Depth times enabled channels is at most 33,554,432, and depth over S at least 1,024 (R14, R16). -/
def memoryLegal (st : Setup) : Bool :=
  decide (depthSamples (st.get .acqDepth) * (enabledChans st).length ≤ Config.maxRecordSamples) &&
  decide (1024 * 2 ^ (st.get .acqSegments).toNat ≤ depthSamples (st.get .acqDepth))

/-- What holds of the live setup after every installation (R16). -/
def setupLegal (st : Setup) : Bool :=
  allFields.all (fun f => inCatalogue f (st.get f)) && slopeLegal st && offsetsLegal st &&
  !(enabledChans st).isEmpty && (st.get (.chOn (sourceChan st)) == 1) && levelsLegal st && memoryLegal st

/-! ### Commits (section 1.3) -/

/-- The value of a field in the setup that a commit would build without clamping: the one requested, else the live one. -/
def asked (live : Setup) (req : List (Field × Int)) (f : Field) : Int :=
  ((req.find? (fun p => decide (p.1 = f))).map Prod.snd).getD (live.get f)

/-- A commit that is requested fails step 1 at a field (R10): an enumerated value outside its set, or at TRIG.SLOPE a pair of
type and slope that is not legal (R3: slopes 0 to 2 for EDGE, 3 and 4 for WINDOW). -/
def offending (live : Setup) (req : List (Field × Int)) (f : Field) : Prop :=
  (∃ v set, (f, v) ∈ req ∧ handling f = .enum set ∧ v ∉ set) ∨
  (f = .trigSlope ∧
    asked live req .trigSlope ∉ (if asked live req .trigType = 0 then [0, 1, 2] else [3, 4] : List Int))

/-- A value of a numeric field after step 2 (R11, R12): clamped to lo..hi, and at TB.SCALE further to nine indexes about that
of the window. -/
def stepTwo (window : Option Int) (f : Field) (lo hi v : Int) : Int :=
  match window with
  | some k => if f = .tbScale then max 0 (min 32 (max (k - 9) (min (k + 9) (max lo (min hi v))))) else max lo (min hi v)
  | none => max lo (min hi v)

/-- The value of a numeric field with these bounds in the candidate of step 3. -/
def builtValue (live : Setup) (window : Option Int) (req : List (Field × Int)) (f : Field) (lo hi : Int) : Int :=
  if (∃ p ∈ req, p.1 = f) then stepTwo window f lo hi (asked live req f) else live.get f

/-- A commit of `req` has installed the candidate `st` and set SETUP_CHANGED on the links of `told` and on no other (R4, R16, R25
to R27). What the receivers of R24 do to acquisition, records and drawing is not said here. -/
def installed (told : List Link) (st : Setup) (s t : State) : Prop :=
  t.setup.live = st ∧ t.setup.gen = s.setup.gen + 1#32 ∧
  (∀ f, t.setup.changed[fieldIndex f] =
    if st.get f = s.setup.live.get f then s.setup.changed[fieldIndex f] else s.setup.gen + 1#32) ∧
  t.setup.quiet = (if s.power.state = .active then some Config.quietTime else s.setup.quiet) ∧
  (s.setup.outputs = some (presentOutputs s.setup.live) →
    t.setup.outputs = some (perChan (fun c => ⟨decide (st.get (.chOn c) = 1), st.get (.chScale c), st.get (.chOffset c),
      st.get (.chCoupling c), st.get (.chBwl c)⟩))) ∧
  (∀ l ∈ told, (t.links.get l).notices &&& noticeMask .setupChanged ≠ 0#7) ∧
  (∀ l, l ∉ told →
    (t.links.get l).notices &&& noticeMask .setupChanged = (s.links.get l).notices &&& noticeMask .setupChanged) ∧
  (s.power.phase = .up → ∀ i : Fin 32, t.router.lit[i] = ledLevel t.router.leds[i] t) ∧
  t.queues = s.queues ∧ t.store.mem = s.store.mem ∧ t.disp.overlay = s.disp.overlay ∧ t.disp.palette = s.disp.palette ∧
  t.router = { s.router with lit := t.router.lit } ∧ t.saved = s.saved ∧ t.power = s.power

/-- A link has been answered APPLIED for a commit of `req` that installed `st`, and the other link told of it (R16, R25). -/
def installedBy (l : Link) (tag : Byte) (req : List (Field × Int)) (st : Setup) (s t : State) : Prop :=
  installed [otherLink l] st s t ∧
  answered l tag .applied (.applied (s.setup.gen + 1#32) (decide (∃ p ∈ req, st.get p.1 ≠ p.2))
    (decide (∃ f ∈ allFields, (∀ p ∈ req, p.1 ≠ f) ∧ st.get f ≠ s.setup.live.get f))) t

/-- A request of the link commits these values (R19, R20). -/
def commits (l : Link) (tag : Byte) (i : Instr) (req : List (Field × Int)) : Prop :=
  (i = .setupDefault l tag ∧ req = allFields.map (fun f => (f, factorySetup.get f))) ∨
  (∃ (id : Byte) (value : Word) (f : Field), fieldOfId id.toNat = some f ∧ i = .setupSet l tag id value ∧
    req = [(f, value.toInt)])

/-- The link may change the live setup and control the run (R8, R97). -/
def permitted (l : Link) (s : State) : Prop := l = .remote ∨ s.router.lockout = .localControl

/-! ### Run control (sections 5.2 to 5.4) -/

/-- ACQ.RUN or ACQ.SINGLE has been taken (R23, R94): from STOPPED the run state has moved, VIEW.PAN is 500 and a record has been
started; from RUNNING or SINGLE the run state has moved and a pending stop is withdrawn. -/
def runStarted (target : RunState) (s t : State) : Prop :=
  (s.seq.run = .stopped → setupLegal s.setup.live = true →
    t.seq.run = target ∧ t.seq.cap ≠ .idle ∧ (t.store.held = true ∨ t.seq.current ≠ none) ∧
    t.setup.live = s.setup.live.put .viewPan 500 ∧ t.queues = s.queues ∧ t.store.mem = s.store.mem ∧ t.saved = s.saved ∧
    t.power = s.power) ∧
  (s.seq.run ≠ .stopped →
    t.seq = { s.seq with run := target, stopPending := false } ∧ t.setup = s.setup ∧ t.store = s.store ∧
    t.raster = s.raster ∧ t.queues = s.queues ∧ t.power = s.power)

/-- A slot's content but for its drawn status, which a draw of it that starts at once changes (R142). -/
def drawnAside : Slot → Slot
  | .complete h => .complete { h with drawn := .undrawn, prior := .undrawn }
  | sl => sl

/-- The slot of a record that closes (R106, R114): FREE with no completed segment, else COMPLETE, FULL with all the planned
ones and PARTIAL with fewer, pinned by neither link and released for the links that are not subscribed. -/
def slotAfterClose (completed : Nat) (sub : PerLink Bool) (h : Header) : Slot :=
  if completed = 0 then .free
  else .complete { h with
    outcome := if completed < h.planned then some .partialRecord else some .full
    drawn := .undrawn
    prior := .undrawn
    pins := ⟨false, false⟩
    released := ⟨!sub.console, !sub.remote⟩ }

/-- The slots after the FILLING record of this number has closed. -/
def slotsAfterClose (number : Word) (completed : Nat) (sub : PerLink Bool) (slots : List Slot) : List Slot :=
  slots.map (fun sl => match sl with
    | .filling h => if h.number = number then slotAfterClose completed sub h else sl
    | x => x)

/-- A link's record notice after a completion (R125). -/
def noticeAfterClose (n : RecordNotice) : RecordNotice :=
  { n with
    unreported := satInc n.unreported
    timer :=
      if n.pace ≤ (satInc n.unreported).toNat then none
      else if n.timer = none ∧ n.setting ≠ 0 then some (n.setting * 1000000) else n.timer }

/-- A record has closed with this many completed segments (R114, R125): with one or more it is counted for each link, whose RECORDS
notice is set when its count is then at or above its pace, and else stays as it was. -/
def closeCounted (completed : Nat) (s t : State) : Prop :=
  ∀ l, t.store.notice.get l = (if completed = 0 then s.store.notice.get l else noticeAfterClose (s.store.notice.get l)) ∧
    (t.links.get l).notices &&& noticeMask .records =
      if completed ≠ 0 ∧ (s.store.notice.get l).pace ≤ (satInc (s.store.notice.get l).unreported).toNat then
        noticeMask .records
      else (s.links.get l).notices &&& noticeMask .records

/-- s with these slots. -/
def withSlots (slots : List Slot) (s : State) : State := s.withStore { s.store with slots := slots }

/-- t has the Raster Engine and the slots, drawn statuses included, of u. -/
def drawnAs (u t : State) : Prop := t.raster = u.raster ∧ t.store.slots = u.store.slots

/-- ACQ.STOP has been taken (R95, R106): ignored in IDLE, the slot request dropped in WAIT_SLOT, the record closed with its
completed segments in PREFILL and ARMED, held until the segment completes in POSTFILL. -/
def runStopped (s t : State) : Prop :=
  (s.seq.cap = .idle → t.seq = s.seq ∧ t.store = s.store ∧ t.raster = s.raster) ∧
  (s.seq.cap = .postfill → t.seq = { s.seq with stopPending := true } ∧ t.store = s.store ∧ t.raster = s.raster) ∧
  (s.seq.cap = .waitSlot → t.store = { s.store with held := false } ∧ t.raster = s.raster) ∧
  (s.seq.cap = .waitSlot ∨ s.seq.cap = .prefill ∨ s.seq.cap = .armed → s.store.held = false ∨ s.seq.cap = .waitSlot →
    t.seq = { s.seq with
      run := .stopped
      cap := .idle
      stopPending := false
      forcePending := false
      holdoff := none
      auto := none
      current := none }) ∧
  (∀ r, s.seq.cap = .prefill ∨ s.seq.cap = .armed → s.seq.current = some r → s.store.held = false →
    isFilling r.number s.store = true →
    t.store.slots.map drawnAside = (slotsAfterClose r.number r.completed s.store.sub s.store.slots).map drawnAside ∧
    (s.raster.engine ≠ .idle ∨ r.completed = 0 →
      t.store.slots = slotsAfterClose r.number r.completed s.store.sub s.store.slots) ∧
    (s.raster.chosen = none → r.completed = 0 → t.raster = s.raster) ∧
    (s.raster.chosen = none → r.completed ≠ 0 → drawnAs
      (selectDraw (withSlots (slotsAfterClose r.number r.completed s.store.sub s.store.slots) s)) t) ∧
    t.store = { s.store with slots := t.store.slots, notice := t.store.notice } ∧
    closeCounted r.completed s t) ∧
  t.setup = s.setup ∧ t.queues = s.queues ∧ t.saved = s.saved ∧ t.power = s.power

/-- ACQ.FORCE has been taken (R91, R96): a forced trigger in ARMED, held in PREFILL, ignored elsewhere. -/
def forceTaken (s t : State) : Prop :=
  (∀ r, s.seq.cap = .armed → s.seq.current = some r → t.seq = { s.seq with
    cap := .postfill
    auto := none
    holdoff := if 0 < r.armed.holdoff then some (r.armed.holdoff.toNat * 10) else s.seq.holdoff
    current := some { r with trigger := some ⟨r.bin, s.seq.time, true⟩ } }) ∧
  (s.seq.cap = .prefill → t.seq = { s.seq with forcePending := true }) ∧
  (s.seq.cap = .idle ∨ s.seq.cap = .waitSlot ∨ s.seq.cap = .postfill → t.seq = s.seq) ∧
  t.setup = s.setup ∧ t.store = s.store ∧ t.raster = s.raster ∧ t.queues = s.queues ∧ t.saved = s.saved ∧ t.power = s.power

/-- The entry into STANDBY_PENDING has been made (R186, R206, R149): STANDBY set on both links, batches closed, quiet timer
stopped, the store queue empty, the sequencer stopped, and the Raster Engine halted with no draw in flight. -/
def standbyEntered (s t : State) : Prop :=
  t.power.state ≠ .active ∧ (∀ m, (t.links.get m).notices &&& noticeMask .standby ≠ 0#7) ∧
  (∀ m, t.setup.batches.get m = none) ∧ t.setup.quiet = none ∧ t.setup.live = s.setup.live ∧ t.setup.gen = s.setup.gen ∧
  t.saved.queue = [] ∧ t.saved.cancelled = true ∧ t.seq.standbyStop = true ∧
  t.raster.engine = .halted ∧ t.raster.draw = none ∧ t.raster.chosen = none ∧ t.queues = s.queues ∧
  t.store.mem = s.store.mem ∧ t.router.lockout = s.router.lockout ∧ t.router.routes = s.router.routes

/-- The part has entered STANDBY as one step, with these reports and everything else as in s (R205, R207, R166, R33): MAIN_POWER and
the front-end outputs off, the display link ABSENT, the debounce timers but POWER's stopped, the LEDs evaluated, and the final status OK
handed to the link that asked. -/
def standbyReached (s t : State) : Prop :=
  t.power = { s.power with state := .standby, mainPower := false, requester := none } ∧
  t.setup = { s.setup with outputs := none } ∧
  t.disp = { s.disp with frameTimer := none, sending := none, link := .absent } ∧
  t.panel = { s.panel with keys := t.panel.keys } ∧
  (∀ k : Fin 64, t.panel.keys[k] = if k.val = 63 then s.panel.keys[k] else { s.panel.keys[k] with timer := none }) ∧
  t.router = { s.router with lit := t.router.lit } ∧ (∀ i : Fin 32, t.router.lit[i] = ledLevel t.router.leds[i] t) ∧
  t.seq = s.seq ∧ t.store = s.store ∧ t.raster = s.raster ∧ t.saved = s.saved ∧ t.queues = s.queues ∧
  (∀ m, s.power.requester.map Prod.fst ≠ some m → t.links.get m = { s.links.get m with
    notices := if s.disp.link = .locked then (s.links.get m).notices ||| noticeMask .display else (s.links.get m).notices }) ∧
  (∀ l held tag kind, s.power.requester = some (l, held) →
    (held = true → (s.links.get l).inWork = some (tag, kind) → answered l tag .ok .nothing t) ∧
    (held = false → (s.links.get l).deferred = .outstanding tag kind →
      (t.links.get l).deferred = .ready tag kind .ok .nothing ∧ (t.links.get l).notices &&& noticeMask .result ≠ 0#7))

/-- A report has reached Power Control in s, which has these reports with it: all three enter STANDBY, fewer are noted (R207). -/
def reportTaken (p : Power) (s t : State) : Prop :=
  (p.idleReport = true ∧ p.savedReport = true ∧ p.haltReport = true → standbyReached (s.withPower p) t) ∧
  (p.idleReport = false ∨ p.savedReport = false ∨ p.haltReport = false → t = s.withPower p)

/-- The sequencer is as it was but for the converter streams, which are followed afresh when the enabled set has changed (R67;
log 13). -/
def seqKept (s t : State) : Prop :=
  t.seq = { s.seq with front := t.seq.front } ∧
  (enabledChans t.setup.live = enabledChans s.setup.live → t.seq.front = s.seq.front) ∧
  (enabledChans t.setup.live ≠ enabledChans s.setup.live → t.seq.front.routing = none)

/-- The controller as it begins the final autosave, an UNREAD slot 0 being read first (R176, R185, R186). -/
def finalSave (b : SetupBlock) (sv : SavedStore) : SavedStore :=
  { sv with
    finalAsked := true
    ctrl := .busy
    op := some ⟨⟨none, .autosave, 0, false⟩, false, false,
      if sv.directory[(0 : Fin 12)] = .unread then .resolving else .writing (snapshotImage none lastLabel b) b.gen 0⟩
    directory := if sv.directory[(0 : Fin 12)] = .unread then sv.directory else sv.directory.set (0 : Fin 12) .corrupt
    limit := some 20000000
    polling := false }

/-! ### Timers -/

/-- The expiry of a timer that has run out (log 3). -/
def due (act : State → Result) (s : State) : Prop :=
  (∃ k : Fin 64, s.panel.keys[k].timer = some 0 ∧ act = exec (.debounceExpiry k)) ∨
  (∃ l, (s.queues.get l).timer = some 0 ∧ act = exec (.queueTimerExpiry l)) ∨
  (∃ l, (s.store.notice.get l).timer = some 0 ∧ act = exec (.recordTimerExpiry l)) ∨
  (s.setup.quiet = some 0 ∧ act = exec .quietTimerExpiry) ∨ (s.seq.holdoff = some 0 ∧ act = exec .holdoffExpiry) ∨
  (s.seq.auto = some 0 ∧ act = exec .autoTimerExpiry) ∨ (s.disp.frameTimer = some 0 ∧ act = exec .frameEvent) ∨
  (s.saved.limit = some 0 ∧ act = accessLimit)

/-! ### Panel events (chapters 2 and 3) -/

/-- Entry i is the first that is considered and matches the event (R37). -/
def wins (i : Fin 24) (ev : PanelEvent) (s : State) : Prop :=
  (s.router.lockout = .localControl ∨ s.router.routes[i].exempt = true) ∧
  entryMatches s.router.routes[i] ev s.seq.run = true ∧
  ∀ j : Fin 24, j < i → (s.router.lockout = .localControl ∨ s.router.routes[j].exempt = true) →
    entryMatches s.router.routes[j] ev s.seq.run = false

/-- The field ID that an EDIT entry names for a control (R39). -/
def editedId (e : RouteEntry) (control : Nat) : Nat :=
  if e.matchKind = .range then e.fieldBase.toNat + (control - e.a.toNat) * e.stride.toNat else e.fieldBase.toNat

/-- The values through which CYCLE takes a field, in ascending order (R41). -/
def cycleValues (st : Setup) (f : Field) : List Int :=
  if f = .trigSlope then (if st.get .trigType = 0 then [0, 1, 2] else [3, 4])
  else if f = .trigSource then ([1, 2, 3, 4] : List Int).filter (fun n =>
    (chanOfNumber n).any (fun c => decide (st.get (.chOn c) = 1)))
  else match handling f with
    | .enum set => set
    | .clamp _ _ => []

/-- A direct edit of an event by an entry hands this value for field f (R39 to R41). -/
def handsValue (e : RouteEntry) (ev : PanelEvent) (st : Setup) (f : Field) (v : Int) : Prop :=
  (e.stepKind = 0#8 ∧ ev.kind = .turn ∧ v = st.get f + ev.detents) ∨
  (e.stepKind = 1#8 ∧ ev.kind = .turn ∧
    ((∃ c, f = .chOffset c ∧ v = st.get f + ev.detents * (scaleUv (st.get (.chScale c)) / 25)) ∨
      ((f = .trigLevel ∨ f = .trigUpper) ∧ ∃ c, chanOfNumber (st.get .trigSource) = some c ∧
        v = st.get f + ev.detents * (scaleUv (st.get (.chScale c)) / 25)))) ∨
  (e.stepKind = 2#8 ∧ ev.kind = .turn ∧ v = st.get f + 10 * ev.detents) ∨
  (e.stepKind = 3#8 ∧ ev.kind = .press ∧ v = 1 - st.get f) ∨
  (e.stepKind = 4#8 ∧ ev.kind = .press ∧ v ∈ cycleValues st f ∧
    ((∃ x ∈ cycleValues st f, st.get f < x) → st.get f < v ∧ ∀ x ∈ cycleValues st f, st.get f < x → v ≤ x) ∧
    ((∀ x ∈ cycleValues st f, x ≤ st.get f) → ∀ x ∈ cycleValues st f, v ≤ x))

/-- The step kind of an EDIT entry does not act on the event's kind (R39): TURN for INDEX, FINE and PERMILLE, PRESS for TOGGLE and
CYCLE. -/
def stepIdle (e : RouteEntry) (ev : PanelEvent) : Prop :=
  (e.stepKind.toNat ≤ 2 ∧ ev.kind ≠ .turn) ∨ (3 ≤ e.stepKind.toNat ∧ e.stepKind.toNat ≤ 4 ∧ ev.kind ≠ .press)

/-- A field suits a step kind (R45): INDEX 0, FINE 1, PERMILLE 2, TOGGLE 3, CYCLE 4. -/
def suitsStep (k : Nat) (f : Field) : Prop :=
  ((k = 0 ∨ k = 2) ∧ ∃ lo hi, handling f = .clamp lo hi) ∨
  (k = 1 ∧ ((∃ c, f = .chOffset c) ∨ f = .trigLevel ∨ f = .trigUpper)) ∨
  (k = 3 ∧ handling f = .enum [0, 1]) ∨
  (k = 4 ∧ ∃ set, handling f = .enum set)

/-- The parts of a routing entry pass the checks of R45 after the index: the enumerations and sets by R202's positions, the
operands by match kind (RANGE 0, PAIR 1, MASK 2), and for EDIT (action 3) stride, fields and step kind. -/
def routePasses (en mk a b ks co ex ac fb st sk : Byte) : Prop :=
  en.toNat ≤ 1 ∧ mk.toNat ≤ 2 ∧ ks.toNat < 8 ∧ co.toNat ≤ 2 ∧ ex.toNat ≤ 1 ∧ ac.toNat ≤ 9 ∧
  (mk.toNat = 0 → a.toNat ≤ b.toNat ∧ b.toNat ≤ 75) ∧ (mk.toNat = 1 → a.toNat ≤ 75 ∧ b.toNat ≤ 75) ∧
  (mk.toNat = 2 → a.toNat ≤ 127 ∧ b.toNat ≤ 127) ∧
  (ac.toNat = 3 → sk.toNat ≤ 4 ∧ st.toNat ≤ 60 ∧
    (mk.toNat = 0 → ∀ c, a.toNat ≤ c → c ≤ b.toNat →
      ∃ f, fieldId f = fb.toNat + (c - a.toNat) * st.toNat ∧ suitsStep sk.toNat f) ∧
    (mk.toNat ≠ 0 → ∃ f, fieldId f = fb.toNat ∧ suitsStep sk.toNat f))

/-- A record has entered the entries of a queue in the order of their times (R49): after those whose time is equal or earlier,
before the first that is later. -/
def placed (e : PanelEvent) (es es' : List PanelEvent) : Prop :=
  ∃ pre post, es = pre ++ post ∧ es' = pre ++ e :: post ∧ (∀ x ∈ pre, newer x.time e.time = false) ∧
    ∀ x, post.head? = some x → newer x.time e.time = true

/-- A new entry has entered queue l, or has been turned away from it (R49, R51 to R53). -/
def entered (l : Link) (e : PanelEvent) (s t : State) : Prop :=
  let q := s.queues.get l
  (q.entries.length < 32 ∨ q.mode = .overwrite →
    ∃ es es', placed e q.entries es ∧ es' = (if q.entries.length < 32 then es else es.tail) ∧
      t.queues = s.queues.set l { q with
        entries := es'
        timer := if q.threshold ≤ es'.length then none
          else if q.entries = [] then some (q.setting * 1000000) else q.timer
        lost := if q.entries.length < 32 then q.lost else satInc q.lost } ∧
      t = (s.withQueues t.queues).withLinks t.links ∧
      t.links = if q.threshold ≤ es'.length
        then s.links.set l { s.links.get l with notices := (s.links.get l).notices ||| 1#7 } else s.links) ∧
  (32 ≤ q.entries.length → q.mode = .hold → t = s.withQueues (s.queues.set l { q with lost := satInc q.lost }))

/-! ### Records (chapter 6) -/

/-- A COMPLETE record whose slot may be reused: pinned by neither link, not DRAWING, and in KEEP released for every link that is
subscribed (R111). -/
def reusable (keep : Bool) (sub : PerLink Bool) (h : Header) : Prop :=
  (∀ l, h.pins.get l = false) ∧ h.drawn ≠ .drawing ∧ (keep = true → ∀ l, sub.get l = true → h.released.get l = true)

/-- Slot n is the one that R111 chooses: the lowest FREE one; with none FREE, that of the oldest record that may be reused
(oldest: every other one is newer). -/
def chosenSlot (n : Nat) (s : State) : Prop :=
  (s.store.slots[n]? = some .free ∧ ∀ m < n, s.store.slots[m]? ≠ some .free) ∨
  ((∀ sl ∈ s.store.slots, sl ≠ .free) ∧ ∃ h, s.store.slots[n]? = some (.complete h) ∧
    reusable (s.setup.live.get .acqRetain == 1) s.store.sub h ∧
    ∀ m x, m ≠ n → s.store.slots[m]? = some (.complete x) → reusable (s.setup.live.get .acqRetain == 1) s.store.sub x →
      newer x.number h.number = true)

/-- Slot k holds the oldest COMPLETE record of those that p picks: every other one is newer. -/
def oldestOf (p : Header → Prop) (k : Nat) (h : Header) (slots : List Slot) : Prop :=
  slots[k]? = some (.complete h) ∧ p h ∧
    ∀ m x, m ≠ k → slots[m]? = some (.complete x) → p x → newer x.number h.number = true

/-- Slot k holds the newest COMPLETE record (R110). -/
def newestOf (k : Nat) (h : Header) (slots : List Slot) : Prop :=
  slots[k]? = some (.complete h) ∧ ∀ m x, m ≠ k → slots[m]? = some (.complete x) → newer h.number x.number = true

/-- The record of slot k becomes DRAWING, its drawn status before kept (R115). -/
def drawingSlot (k : Nat) (h : Header) (slots : List Slot) : List Slot :=
  slots.set k (.complete { h with drawn := .drawing, prior := h.drawn })

/-! ### Converter streams and bins (chapter 4) -/

/-- The cores that sample at instant j of a core period, for the enabled channels of a record (R67): one core after another for
one channel, cores 1 and 3 and then 2 and 4 for two channels of different pairs, else every core whose own channel is enabled. -/
def instantOf (en : List Chan) (j : Nat) (instant : List (Fin 4)) : Prop :=
  (∃ c, en = [c] ∧ ∃ core : Fin 4, core.val = j ∧ instant = [core]) ∨
  (en ∈ [[Chan.ch1, .ch3], [.ch1, .ch4], [.ch2, .ch3], [.ch2, .ch4]] ∧
    ((j = 0 ∧ instant = [0, 2]) ∨ (j = 1 ∧ instant = [1, 3]))) ∨
  (en.length ≠ 1 ∧ en ∉ [[Chan.ch1, .ch3], [.ch1, .ch4], [.ch2, .ch3], [.ch2, .ch4]] ∧ j = 0 ∧
    instant = (List.finRange 4).filter (fun core => decide (coreOwn core ∈ en)))

/-- A bin that has gathered these codes, in this order (R73). -/
def gathered (codes : List Byte) (b : Bin) : Prop :=
  b.count = codes.length ∧ codes.head? = some b.first ∧ b.low ∈ codes ∧ (∀ x ∈ codes, b.low.toNat ≤ x.toNat) ∧
  b.high ∈ codes ∧ (∀ x ∈ codes, x.toNat ≤ b.high.toNat) ∧ b.sum = (codes.map BitVec.toNat).sum

/-- The record in progress once its closing bin has been given to the segment at the end `before` or `after` the trigger (R73,
R89, R92): one bin more, every channel's bin empty. -/
def binClosed (before after : List PointSet) (r : Record) : Record :=
  { r with bin := r.bin + 1, bins := .all emptyBin, before := before, after := after }

/-- n is the integer nearest to x / d, half away from zero, for d above 0. -/
def roundsTo (x d n : Int) : Prop :=
  2 * (x - n * d).natAbs ≤ d ∧ (2 * ((x - n * d).natAbs : Int) = d → x.natAbs ≤ (n * d).natAbs)

/-- The level code of a level v in µV under a capture setup (R98). -/
def levelCoded (st : Setup) (v : Int) (code : Nat) : Prop :=
  ∀ c, chanNumber c = st.get .trigSource → ∃ n,
    roundsTo ((v + st.get (.chOffset c)) * 25) (scaleUv (st.get (.chScale c))) n ∧ (code : Int) = max 1 (min 254 (128 + n))

/-- A segment of the record has begun and taken no sample (R87, R98 to R101). -/
def segmentBegun (r : Record) : Prop :=
  r.bin = 0 ∧ r.before = [] ∧ r.after = [] ∧ r.detectors = ⟨false, false, .unknown⟩ ∧
  (∀ c, r.bins.get c = emptyBin ∧ r.marks.get c = false) ∧
  levelCoded r.setup (r.setup.get .trigLevel) r.lower ∧ levelCoded r.setup (r.setup.get .trigUpper) r.upper

/-- A slot request held in u has been judged again, which gives t (R113): granted with the slot that R111 chooses, a record
started in it as R84, R109 and R110 say; left held where no slot can be chosen. -/
def judgedAgain (u t : State) : Prop :=
  (∀ n, chosenSlot n u → ∃ (h : Header) (r : Record),
    t.store.slots = u.store.slots.set n (.filling h) ∧ t.store.held = false ∧ t.store.next = u.store.next + 1#32 ∧
    t.store.pinsList = u.store.pinsList ∧ t.store.sub = u.store.sub ∧ t.store.mem = u.store.mem ∧
    h.number = u.store.next ∧ h.gen = u.setup.gen ∧ h.completed = 0 ∧ h.segments = [] ∧
    (∀ f, h.setup.get f = if fieldClass f = .capture then u.setup.live.get f else 0) ∧
    t.seq.current = some r ∧ r.slot = n ∧ r.number = h.number ∧ r.gen = h.gen ∧ r.setup = h.setup ∧ r.segment = 0 ∧
    r.completed = 0 ∧ segmentBegun r ∧ t.seq.run = u.seq.run ∧
    (h.trigIndex ≠ 0 → t.seq.cap = .prefill ∧ r.trigger = none) ∧
    t.setup = u.setup ∧ t.raster = u.raster ∧ t.queues = u.queues ∧ t.links = u.links ∧ t.saved = u.saved ∧
    t.disp = u.disp ∧ t.power = u.power) ∧
  ((∀ sl ∈ u.store.slots, sl ≠ .free ∧
      ∀ h, sl = .complete h → ¬ reusable (u.setup.live.get .acqRetain == 1) u.store.sub h) → t = u)

/-! ### Answers as bytes (sections 6.4 and 10.5) -/

/-- The values that a stored point carries in a REC.READ answer (R124): one in SAMPLE, the lowest and then the highest in PEAK, one
c256 value in HIRES; in SIGNED each about the screen centre. -/
def carriedPoint (mode : Int) (signed : Bool) (bytes : List Byte) (values : List Int) : Prop :=
  (mode = 0 → ∀ a, bytes = [a] → values = [(a.toNat : Int) - if signed then 128 else 0]) ∧
  (mode = 1 → ∀ a b, bytes = [a, b] →
    values = [(a.toNat : Int) - if signed then 128 else 0, (b.toNat : Int) - if signed then 128 else 0]) ∧
  (mode = 2 → ∀ a b, bytes = [a, b] → values = [(a.toNat + 256 * b.toNat : Int) - if signed then 32768 else 0])

/-- The unsigned number that n bytes at place i carry, the lowest first (R202). -/
def numberAt (bytes : List Byte) (i n : Nat) : Nat :=
  ((List.range n).map (fun j => (bytes.getD (i + j) 0#8).toNat * 256 ^ j)).sum

/-- The 31 CAPTURE fields in ascending field ID (R203). -/
def captureFields : List Field := allFields.filter (fun f => decide (fieldClass f = .capture))

/-- A record header with these segment entries, byte for byte (R203). -/
def headerCarried (h : Header) (es : List SegEntry) (b : List Byte) : Prop :=
  b.length = 152 + 12 * es.length ∧ numberAt b 0 4 = h.number.toNat ∧ numberAt b 4 4 = h.gen.toNat ∧
  numberAt b 8 1 = h.k % 256 ∧ (h.outcome = some .full → numberAt b 9 1 = 0) ∧
  (h.outcome = some .partialRecord → numberAt b 9 1 = 1) ∧ numberAt b 10 2 = h.planned % 65536 ∧
  numberAt b 12 2 = h.completed % 65536 ∧
  (∀ c, (numberAt b 14 1).testBit ((chanNumber c).toNat - 1) = h.clip.get c) ∧ numberAt b 14 1 < 16 ∧
  numberAt b 15 1 = (match h.drawn with
    | .undrawn => 0
    | .drawing => 1
    | .drawn => 2
    | .skippedView => 3) ∧
  numberAt b 16 4 = h.points % 4294967296 ∧ numberAt b 20 4 = h.trigIndex % 4294967296 ∧
  numberAt b 24 1 = (if h.pins.console then 1 else 0) + (if h.pins.remote then 2 else 0) ∧
  numberAt b 25 1 = (if h.released.console then 1 else 0) + (if h.released.remote then 2 else 0) ∧
  numberAt b 26 2 = es.length % 65536 ∧
  (∀ j f, captureFields[j]? = some f → (numberAt b (28 + 4 * j) 4 : Int) = h.setup.get f % 4294967296) ∧
  ∀ j e, es[j]? = some e → numberAt b (152 + 12 * j) 6 = e.time.toNat ∧ numberAt b (158 + 12 * j) 4 = e.point.toNat ∧
    numberAt b (162 + 12 * j) 1 = (if e.forced then 1 else 0) ∧ numberAt b (163 + 12 * j) 1 = 0

/-! ### Rows, columns and spans (sections 7.2 and 7.3) -/

/-- Row y is that of a c256 value on a channel (R132): 200 + floor(N / (128 s_v)). -/
def rowAt (st : Setup) (v : View) (c : Chan) (value : Nat) (y : Int) : Prop :=
  let n := (if v.invert.get c = 1 then -1 else 1) * ((value : Int) - 32768) * scaleUv (st.get (.chScale c)) +
    6400 * (v.offset.get c - st.get (.chOffset c))
  let d := 128 * scaleUv (v.scale.get c)
  d * (y - 200) ≤ n ∧ n < d * (y - 200) + d

/-- Column x is that of stored index i of P points (R133): 350 + floor((i − c_p) × 700 × t_c / (P × t_v)), t_c and t_v the two
timebases in ns per division, whose ratio is N_h / D_h. -/
def columnAt (points : Nat) (kc kv pan : Int) (i : Nat) (x : Int) : Prop :=
  let n : Int := ((i : Int) - (min (points - 1) (points * pan.toNat / 1000) : Nat)) * 700 * tbNs kc
  let d : Int := points * tbNs kv
  d * (x - 350) ≤ n ∧ n < d * (x - 350) + d

/-- A stored point, given by its bytes, onto the area (R132, R133, R136). -/
def mappedAt (st : Setup) (v : View) (c : Chan) (points i : Nat) (bytes : List Byte) (p : Mapped) : Prop :=
  columnAt points (st.get .tbScale) v.tbScale v.pan i p.x ∧
  (st.get .acqMode = 0 → ∀ a, bytes = [a] → rowAt st v c (a.toNat * 256) p.lo ∧ p.hi = p.lo ∧ p.anchor = p.lo) ∧
  (st.get .acqMode = 1 → ∀ a b, bytes = [a, b] → ∃ y1 y2, rowAt st v c (a.toNat * 256) y1 ∧ rowAt st v c (b.toNat * 256) y2 ∧
    p.lo = min y1 y2 ∧ p.hi = max y1 y2 ∧ 2 * p.anchor ≤ y1 + y2 ∧ y1 + y2 < 2 * p.anchor + 2) ∧
  (st.get .acqMode = 2 → ∀ a b, bytes = [a, b] → rowAt st v c (a.toNat + 256 * b.toNat) p.lo ∧ p.hi = p.lo ∧ p.anchor = p.lo)

/-- The span of column x after step 1 (R135). -/
def spanOne (pts : List Mapped) (x : Int) (sp : Option Span) : Prop :=
  ((∀ p ∈ pts, p.x ≠ x) → sp = none) ∧
  ((∃ p ∈ pts, p.x = x) → ∃ lo hi, sp = some (lo, hi) ∧
    (∃ p ∈ pts, p.x = x ∧ p.lo = lo) ∧ (∀ p ∈ pts, p.x = x → lo ≤ p.lo) ∧
    (∃ p ∈ pts, p.x = x ∧ p.hi = hi) ∧ ∀ p ∈ pts, p.x = x → p.hi ≤ hi)

/-- Anchor a of column x: the last point whose column is left of it (R136). -/
def lastLeft (pts : List Mapped) (x : Int) (a : Mapped) : Prop :=
  ∃ pre post, pts = pre ++ a :: post ∧ a.x < x ∧ ∀ q ∈ post, x ≤ q.x

/-- Anchor b of column x: the first point whose column is right of it (R136). -/
def firstRight (pts : List Mapped) (x : Int) (b : Mapped) : Prop :=
  ∃ pre post, pts = pre ++ b :: post ∧ x < b.x ∧ ∀ q ∈ pre, q.x ≤ x

/-- The step-2 span of column x (R136). -/
def spanTwo (pts : List Mapped) (x : Int) (sp : Option Span) : Prop :=
  ((∃ p ∈ pts, p.x = x) → spanOne pts x sp) ∧
  ((∀ p ∈ pts, p.x ≠ x) →
    ((∀ p ∈ pts, x ≤ p.x) ∨ (∀ p ∈ pts, p.x ≤ x) → sp = none) ∧
    ∀ a b, lastLeft pts x a → firstRight pts x b → ∃ y, sp = some (y, y) ∧
      (b.x - a.x) * (y - a.anchor) ≤ (b.anchor - a.anchor) * (x - a.x) ∧
      (b.anchor - a.anchor) * (x - a.x) < (b.x - a.x) * (y - a.anchor) + (b.x - a.x))

/-- The span of column x after step 3, joined to its left neighbour's step-2 span (R137). -/
def spanJoined (pts : List Mapped) (x : Nat) (sp : Option Span) : Prop :=
  ∃ left cur, spanTwo pts (x - 1) left ∧ spanTwo pts x cur ∧
    (cur = none ∨ left = none ∨ x = 0 → sp = cur) ∧
    (∀ lo hi lo' hi', cur = some (lo, hi) → left = some (lo', hi') → 0 < x →
      sp = some (if hi' < lo then (hi' + 1, hi) else if hi < lo' then (lo, lo' - 1) else (lo, hi)))

/-- A span clipped to rows 0..399 (R138). -/
def clipped (sp : Option Span) (rows : Option (Nat × Nat)) : Prop :=
  (sp = none → rows = none) ∧
  (∀ lo hi, sp = some (lo, hi) → lo ≤ hi → (399 < lo ∨ hi < 0 → rows = none) ∧
    (lo ≤ 399 → 0 ≤ hi → rows = some ((max 0 lo).toNat, (min 399 hi).toNat)))

/-! ### Draws (section 7.4) -/

/-- The pass after that of a draw, in the order of R139: the next higher channel of the segment, else the lowest of the next. -/
def followsPass (d : Draw) (segment : Nat) (c : Chan) : Prop :=
  (segment = d.segment ∧ c ∈ enabledChans d.header.setup ∧ chanNumber d.chan < chanNumber c ∧
    ∀ e ∈ enabledChans d.header.setup, chanNumber d.chan < chanNumber e → chanNumber c ≤ chanNumber e) ∨
  (segment = d.segment + 1 ∧ segment < d.header.completed ∧
    (∀ e ∈ enabledChans d.header.setup, chanNumber e ≤ chanNumber d.chan) ∧
    c ∈ enabledChans d.header.setup ∧ ∀ e ∈ enabledChans d.header.setup, chanNumber c ≤ chanNumber e)

/-- The pass of a draw is its last. -/
def lastPass (d : Draw) : Prop :=
  d.header.completed ≤ d.segment + 1 ∧ ∀ e ∈ enabledChans d.header.setup, chanNumber e ≤ chanNumber d.chan

/-- A record lies within the live view (R134). -/
def inView (h : Header) (s : State) : Prop :=
  h.setup.get .tbScale - s.setup.live.get .tbScale ≤ 9 ∧ s.setup.live.get .tbScale - h.setup.get .tbScale ≤ 9

/-- The view of a live setup (R143). -/
def viewOf (st : Setup) (v : View) : Prop :=
  (∀ c, v.scale.get c = st.get (.chScale c) ∧ v.offset.get c = st.get (.chOffset c) ∧
    v.invert.get c = st.get (.chInvert c)) ∧
  v.tbScale = st.get .tbScale ∧ v.pan = st.get .viewPan ∧ v.vectors = st.get .dispVectors ∧ v.persist = st.get .dispPersist

/-- A draw of the record of slot k has begun (R115, R142 to R144). -/
def drawBegun (kind : DrawKind) (k : Nat) (h : Header) (planes : PerChan Memory) (s t : State) : Prop :=
  ∃ c v, c ∈ enabledChans h.setup ∧ (∀ e ∈ enabledChans h.setup, chanNumber c ≤ chanNumber e) ∧ viewOf s.setup.live v ∧
  t = (s.withStore { s.store with slots := drawingSlot k h s.store.slots }).withRaster {
    engine := .rendering
    draw := some ⟨h.number, { h with drawn := .drawing, prior := h.drawn }, kind, v, 0, c⟩
    chosen := none
    redraw := false
    mark := some h.number
    planes := planes }

/-- A selection may draw the record for the first time: UNDRAWN, and newer than the draw mark, if there is one (R142). -/
def toDraw (s : State) (h : Header) : Prop :=
  h.drawn = .undrawn ∧ ∀ m, s.raster.mark = some m → newer h.number m = true

/-! ### Store operations (chapter 9) -/

/-- The state once the operation in flight has ended, with nothing queued behind it (R172), its slot's entry as given. -/
def storeDone (op : Op) (entry : DirEntry) (sv : SavedStore) : SavedStore :=
  { sv with ctrl := .idle, op := none, limit := none, polling := false, directory := sv.directory.set op.req.slot entry }

/-- The final status of an operation has been handed to its link (R174, R182, R183, R192, R193): to none for an autosave and once
the link has been reset; changed when a cancel has marked it; as the answer to a held request, else to the deferred record with
RESULT. -/
def finalHanded (op : Op) (status : Status) (payload : Payload) (s t : State) : Prop :=
  (op.req.source = none ∨ op.dropped = true → t.links = s.links) ∧
  (∀ l st, op.req.source = some l → op.dropped = false →
    st = (if op.marked = true then
      (if status ∈ [Status.done, .applied, .unchanged] then Status.doneDespiteCancel else .cancelled) else status) →
    (∀ tag kind, op.req.held = true → (s.links.get l).inWork = some (tag, kind) →
      t.links = (replied l tag st payload s).links) ∧
    (∀ tag kind, op.req.held = false → (s.links.get l).deferred = .outstanding tag kind →
      t.links = s.links.set l { s.links.get l with
        deferred := .ready tag kind st payload
        notices := (s.links.get l).notices ||| noticeMask .result }))

/-- Standby is being entered and the operation in flight has ended (R186, R207): the store reports when slot 0 holds the live
generation, else it begins the final autosave. -/
def storeSettles (u t : State) : Prop :=
  (u.setup.gen = u.saved.slot0Gen →
    reportTaken { u.power with savedReport := true } (u.withSaved { u.saved with finalAsked := true }) t) ∧
  (u.setup.gen ≠ u.saved.slot0Gen → t = u.withSaved (finalSave u.setup u.saved))

/-- The operation in flight makes no access of the scan, nothing is queued behind it, and standby is not being entered. -/
def aloneInFlight (op : Op) (s : State) : Prop :=
  s.saved.op = some op ∧ s.saved.scanSlot = none ∧ s.saved.queue = [] ∧ s.saved.ctrl = .busy ∧ s.saved.cancelled = false

/-- The operation has ended at an access: its slot's entry, its final status, and nothing else (R168, R172). -/
def endedWith (op : Op) (entry : DirEntry) (status : Status) (payload : Payload) (s t : State) : Prop :=
  t = (s.withSaved (storeDone op entry s.saved)).withLinks t.links ∧ finalHanded op status payload s t

/-- The read in hand ends the operation with this class of the image and this status (R176, R178, R180); a VALID recall commits
first and is not meant here. -/
def readEnds (op : Op) (e : DirEntry) (status : Status) : Prop :=
  (op.phase = .reading ∧ (op.req.kind = .recall ∨ ∃ on, op.req.kind = .lock on) ∧
    ((e = .empty ∧ status = .slotEmpty) ∨ (e = .corrupt ∧ status = .slotCorrupt))) ∨
  (op.phase = .resolving ∧ (op.req.kind = .recall ∨ ∃ on, op.req.kind = .lock on) ∧ e = .empty ∧ status = .slotEmpty) ∨
  ((op.phase = .reading ∨ op.phase = .resolving) ∧ status = .done ∧
    ∃ on label sb g, op.req.kind = .lock on ∧ e = .valid label on sb g) ∨
  (op.phase = .resolving ∧ (op.req.kind = .erase ∨ ∃ label, op.req.kind = .save label) ∧ status = .slotLocked ∧
    ∃ label sb g, e = .valid label true sb g)

/-- The read in hand is that of a recall whose STORE commit installs nothing (R178). -/
def recallEnds (op : Op) (e : DirEntry) (status : Status) (payload : Payload) (img : Image) (s : State) : Prop :=
  op.phase = .reading ∧ op.req.kind = .recall ∧ (∃ label on sb g, e = .valid label on sb g) ∧
  ∃ req, req = allFields.map (fun f => (f, (imageSetup img).get f)) ∧
    (((∃ f, judge s.setup.live (timebaseWindow s) req = .invalid f) ∧ status = .invalid ∧ payload = .nothing) ∨
      (judge s.setup.live (timebaseWindow s) req = .constraint ∧ status = .constraint ∧ payload = .nothing) ∨
      (judge s.setup.live (timebaseWindow s) req = .candidate s.setup.live ∧ status = .unchanged ∧
        payload = .installed s.setup.gen (decide (∃ p ∈ req, s.setup.live.get p.1 ≠ p.2))))

/-- The end of the access in hand ends the operation, its slot's entry and its final status these (R176 to R180): a fault, a read,
the page of an erase or of a lock change, or the sixth page of a save. -/
def accessEnds (op : Op) (i : Instr) (e : DirEntry) (status : Status) (payload : Payload) (s : State) : Prop :=
  (i = .eepromAccessFault ∧ (op.phase = .resolving ∨ op.phase = .reading ∨ op.phase = .erasing ∨ ∃ img, op.phase = .locking img) ∧
    e = s.saved.directory[op.req.slot] ∧ status = .storeFault ∧ payload = .nothing) ∨
  (∃ img g page label, i = .eepromAccessFault ∧ op.phase = .writing img g page ∧ op.req.kind = .save label ∧
    e = s.saved.directory[op.req.slot] ∧ status = .storeFault ∧ payload = .pages page) ∨
  (∃ img, i = .eepromReadComplete img ∧ e = classify img ∧
    ((readEnds op e status ∧ payload = .nothing) ∨ recallEnds op e status payload img s)) ∨
  (i = .pageWriteComplete ∧ op.phase = .erasing ∧ e = .empty ∧ status = .done ∧ payload = .nothing) ∨
  (∃ img, i = .pageWriteComplete ∧ op.phase = .locking img ∧ e = classify img ∧ status = .done ∧ payload = .nothing) ∨
  (∃ img g label, i = .pageWriteComplete ∧ op.phase = .writing img g 5 ∧ op.req.kind = .save label ∧
    e = classify img ∧ status = .done ∧ payload = .saved op.req.slot g)

/-! ### Numbers -/

/-- The number that a slot holds, if any. -/
def slotNumber (sl : Slot) : Option Word := (slotHeader sl).map Header.number

/-- The sequence numbers of the slots that are not FREE are pairwise distinct (R110). -/
def numbersDistinct (s : State) : Prop := (s.store.slots.filterMap slotNumber).Nodup

/-! ### Buffers and queues -/

/-- Every LED shows what its source gives, once start-up has ended (R57, R58). -/
def ledsFollow (s : State) : Prop :=
  s.power.phase = .up → ∀ i : Fin 32, s.router.lit[i] = ledLevel s.router.leds[i] s

/-- Acquisition memory, the planes and the overlay layers are in their canonical form. -/
def buffersCanonical (s : State) : Bool :=
  memWf s.store.mem && Config.chans.all (fun c => memWf (s.raster.planes.get c)) &&
  memWf s.disp.overlay.console && memWf s.disp.overlay.remote

/-- A TURN record holds -127..127 detents, not 0 (R34, R48). -/
def detentsLegal (e : PanelEvent) : Bool :=
  e.kind != .turn || (e.detents != 0 && decide (-127 ≤ e.detents) && decide (e.detents ≤ 127))

/-- No record of a queue is newer than the one after it (R48). -/
def inTimeOrder : List PanelEvent → Bool
  | x :: y :: rest => !newer x.time y.time && inTimeOrder (y :: rest)
  | _ => true

/-- A queue holds at most 32 records, each of them legal, ordered by time (R48). -/
def queueLegal (q : EventQueue) : Bool :=
  decide (q.entries.length ≤ 32) && q.entries.all detentsLegal && inTimeOrder q.entries

def queuesLegal (s : State) : Bool := queueLegal s.queues.console && queueLegal s.queues.remote

/-- Row y lies within a span's rows (R139). -/
def inSpan (rows : Option (Nat × Nat)) (y : Nat) : Bool :=
  match rows with
  | some (lo, hi) => decide (lo ≤ y) && decide (y ≤ hi)
  | none => false

/-- A plane's cell after a span pass: one more when it is hit, held at 255 (R139). -/
def brightened (hit : Bool) (cell : Byte) : Nat := if hit then min 255 (cell.toNat + 1) else cell.toNat

/-- Each link holds at most two pins (R117). -/
def pinsLegal (s : State) : Bool :=
  decide (s.store.pinsList.console.length ≤ 2) && decide (s.store.pinsList.remote.length ≤ 2)

end Sys2Proof.Machine
end

