-- ==== Sys2Proof/Certificates/Slice0/Obligations.lean ====
section
/-! DEFINITION. The statements for the provers. -/

open Sys2Proof Sys2Proof.Machine

/-! ### The step -/

/-- A step with command c at the front of the queue is exec of c with the queue's rest (00_scope, "Events and operations"). -/
def Obligations.StepTakesFrontCommand : Prop :=
  ∀ (c : Instr) (rest : List Instr) (s : State), step (s.withPending (c :: rest)) = exec c (s.withPending rest)

/-- The model's choice (log 3): before the supply is established a step on an empty queue changes nothing. Afterwards it takes the
expiry of a timer that has run out, any one of several (free, log 5), the end of the 20 ms of an EEPROM access among them (R168).
With none run out one nanosecond passes: R104's time counter and R29's millisecond counter advance, every running timer counts
down, and no other field of the state changes. -/
def Obligations.IdleStepTakesExpiryOrNanosecond : Prop :=
  (∀ s : State, s.pending = [] → s.power.phase = .noSupply → step s = .next s) ∧
  (∀ s : State, s.pending = [] → s.power.phase ≠ .noSupply →
    ((∃ act, due act s) → ∃ act, due act s ∧ ∃ x, (x = s.races ∨ x = s.races.tail) ∧ step s = act (s.withRaces x)) ∧
    (∀ act, due act s → ∃ x y, step (s.withRaces x) = act (s.withRaces y))) ∧
  ∀ s : State, s.pending = [] → s.power.phase ≠ .noSupply → (∀ act, ¬ due act s) →
    step s = .next { s with
      subMs := if s.subMs + 1 < 1000000 then s.subMs + 1 else 0
      panel := { s.panel with
        ms := if s.subMs + 1 < 1000000 then s.panel.ms else s.panel.ms + 1#32
        keys := s.panel.keys.map (fun k => { k with timer := k.timer.map (fun n => n - 1) }) }
      queues := ⟨{ s.queues.console with timer := s.queues.console.timer.map (fun n => n - 1) },
        { s.queues.remote with timer := s.queues.remote.timer.map (fun n => n - 1) }⟩
      store := { s.store with notice :=
        ⟨{ s.store.notice.console with timer := s.store.notice.console.timer.map (fun n => n - 1) },
          { s.store.notice.remote with timer := s.store.notice.remote.timer.map (fun n => n - 1) }⟩ }
      setup := { s.setup with quiet := s.setup.quiet.map (fun n => n - 1) }
      seq := { s.seq with
        time := s.seq.time + 1#48
        holdoff := s.seq.holdoff.map (fun n => n - 1)
        auto := s.seq.auto.map (fun n => n - 1) }
      disp := { s.disp with frameTimer := s.disp.frameTimer.map (fun n => n - 1) }
      saved := { s.saved with limit := s.saved.limit.map (fun n => n - 1) } }

/-- No command changes which commands wait. -/
def Obligations.ExecLeavesWaitingCommands : Prop :=
  ∀ (i : Instr) (s t : State), exec i s = .next t → t.pending = s.pending

/-! ### Frames and transfers -/

/-- The frame of a well-formed request reads back as that request, for every kind and every operand (R202). -/
def Obligations.FrameReadsBackAsRequest : Prop :=
  ∀ (i : Instr) (l : Link) (frame : List Byte), i.wf = true → encodeFrame i = some (l, frame) → decodeFrame l frame = some i

/-- The link's own checks before an owner sees a request. A link that has not opened, or in reset, takes none (R187; a command
then has no effect, log 7). With READY low a request and a raw frame alike are refused BUSY in the refusal position (R189). A
frame that fails form, kind or length is MALFORMED in every power state (R190). Outside ACTIVE every well-formed request but
LINK.STATUS is IN_STANDBY (R208). A long request is BUSY while the deferred result is not EMPTY (R190). Nothing else changes. -/
def Obligations.LinkRefusesBeforeOwner : Prop :=
  ∀ (l : Link) (s : State),
    (takesTransfers (s.links.get l) = false →
      (∀ (i : Instr) (tag : Byte) (p : List Byte), payloadOf i = some (l, tag, p) → exec i s = .next s) ∧
      ∀ frame : List Byte, exec (.frameMalformed l frame) s = .next s ∧ exec (.writeRefusedBusy l frame) s = .next s) ∧
    (takesTransfers (s.links.get l) = true → (s.links.get l).ready = false →
      (∀ (i : Instr) (tag : Byte) (p : List Byte), payloadOf i = some (l, tag, p) →
        exec i s = .next (s.withLinks (s.links.set l { s.links.get l with refusal := some ⟨tag, .busy, .nothing⟩ }))) ∧
      (∀ frame : List Byte, exec (.writeRefusedBusy l frame) s =
        .next (s.withLinks (s.links.set l { s.links.get l with refusal := some ⟨frame.headD 0#8, .busy, .nothing⟩ })))) ∧
    (ready l s →
      (∀ frame : List Byte, decodeFrame l frame = none →
        exec (.frameMalformed l frame) s = .next (replied l (frame.headD 0#8) .malformed .nothing s)) ∧
      (∀ (i : Instr) (tag : Byte) (p : List Byte), payloadOf i = some (l, tag, p) →
        (i.wf = false → exec i s = .next (replied l tag .malformed .nothing s)) ∧
        (i.wf = true → kindOf i ≠ some 0x70#8 → s.power.state ≠ .active →
          exec i s = .next (replied l tag .inStandby .nothing s)) ∧
        (∀ k, kindOf i = some k → k ∈ [0x60#8, 0x61#8, 0x62#8, 0x63#8, 0x78#8] → s.power.state = .active →
          (s.links.get l).deferred ≠ .empty → exec i s = .next (replied l tag .busy .nothing s))))

/-- A transfer (R187, R191, R202): after the code A5h a frame is judged when select is released, as the request that it spells,
else as a raw frame; after 5Ah the response frame is shifted out, chosen by READY, then 00h; any other code, and an empty
transfer, has no effect; 00h is shifted out for every other byte (that the code's own byte meets 00h too is log 34). A link
that takes no transfer has no effect and shifts out 00h. -/
def Obligations.TransferByItsCode : Prop :=
  ∀ (l : Link) (s : State),
    (∀ frame : List Byte,
      endTransfer l (0xA5#8 :: frame) s = (match decodeFrame l frame with
        | some i => exec i s
        | none => exec (.frameMalformed l frame) s) ∧
      shiftedOut l (0xA5#8 :: frame) s = 0#8 :: List.replicate frame.length 0#8) ∧
    (∀ rest : List Byte, endTransfer l (0x5A#8 :: rest) s = .next s ∧
      (takesTransfers (s.links.get l) = true →
        shiftedOut l (0x5A#8 :: rest) s =
          0#8 :: (readFrame l s ++ List.replicate rest.length 0#8).take rest.length)) ∧
    (∀ (code : Byte) (rest : List Byte), code ≠ 0xA5#8 → code ≠ 0x5A#8 → endTransfer l (code :: rest) s = .next s ∧
      shiftedOut l (code :: rest) s = 0#8 :: List.replicate rest.length 0#8) ∧
    endTransfer l [] s = .next s ∧
    (takesTransfers (s.links.get l) = false → ∀ bytes : List Byte, endTransfer l bytes s = .next s ∧
      shiftedOut l bytes s = List.replicate bytes.length 0#8) ∧
    (takesTransfers (s.links.get l) = true →
      (∀ r, (s.links.get l).ready = true → (s.links.get l).response = some r → readFrame l s = responseBytes r) ∧
      ((s.links.get l).ready = true → (s.links.get l).response = none → readFrame l s = [0#8, 0x1A#8, 0#8, 0#8]) ∧
      (∀ r, (s.links.get l).ready = false → (s.links.get l).refusal = some r → readFrame l s = responseBytes r) ∧
      ((s.links.get l).ready = false → (s.links.get l).refusal = none → readFrame l s = [0#8, 0x1A#8, 0#8, 0#8]))

/-- R202, R203: the bytes of an answer. A response frame carries the tag, the status by its place in the table of status codes and the
payload's length, then the payload. A PANEL.TAKE answer carries its count, the entries left and the lost count, then eight bytes for
each record; a REC.HEADER answer the record header and its segment entries; a REC.READ answer its values, each in one byte or in two,
signed ones in two's complement. -/
def Obligations.AnswersAreCarriedAsBytes : Prop :=
  (∀ r : Response, (payloadBytes r.payload).length < 65536 → ∃ lo hi : Byte,
    responseBytes r = r.tag :: statusCode r.status :: lo :: hi :: payloadBytes r.payload ∧
    lo.toNat + 256 * hi.toNat = (payloadBytes r.payload).length) ∧
  [Status.ok, .applied, .unchanged, .stale, .invalid, .constraint, .locked, .notPermitted, .full, .busy, .gone, .notReady,
    .truncated, .ignored, .noBatch, .malformed, .inStandby, .accepted, .done, .doneDespiteCancel, .cancelled, .noStore,
    .slotLocked, .slotEmpty, .slotCorrupt, .storeFault, .noResponse].map (fun st => (statusCode st).toNat) = List.range 27 ∧
  (∀ (es : List PanelEvent) (left : Nat) (lost : BitVec 16) (b : List Byte), b = payloadBytes (.taken es left lost) →
    b.length = 4 + 8 * es.length ∧ numberAt b 0 1 = es.length % 256 ∧ numberAt b 1 1 = left % 256 ∧
    numberAt b 2 2 = lost.toNat ∧
    ∀ j e, es[j]? = some e → numberAt b (4 + 8 * j) 1 = e.control % 256 ∧
      numberAt b (5 + 8 * j) 1 = (match e.kind with
        | .press => 0
        | .release => 1
        | .turn => 2) ∧
      (numberAt b (6 + 8 * j) 1 : Int) = e.detents % 256 ∧
      (e.entry = none → numberAt b (7 + 8 * j) 1 = 255) ∧ (∀ n, e.entry = some n → numberAt b (7 + 8 * j) 1 = n % 256) ∧
      numberAt b (8 + 8 * j) 4 = e.time.toNat) ∧
  (∀ (h : Header) (es : List SegEntry), headerCarried h es (payloadBytes (.header h es))) ∧
  ∀ (size : Nat) (values : List Int) (b : List Byte), size = 1 ∨ size = 2 → b = payloadBytes (.points size values) →
    b.length = size * values.length ∧
    ∀ j v, values[j]? = some v → (numberAt b (size * j) size : Int) = v % (256 ^ size : Nat)

/-! ### The link reset line -/

/-- The assertion of a link's reset line tears down what the link owns (R199, R17, R56, R64, R165): batch, queue, overlay and for
the remote link the lockout. Its pins list is emptied; with no slot request held, its pin flags are cleared and its release flags
set on every COMPLETE record, and nothing else of the record store changes but its subscription, missed count and record notice
(R129). Its queued store request leaves, and the final status of its operation in flight is dropped (R183). The other link, the
live setup and acquisition memory stay. The release raises READY on a link that has opened, and changes nothing else (R200). -/
def Obligations.LinkResetLineTearsDownAndReopens : Prop :=
  ∀ (l : Link) (s : State),
    ((s.links.get l).resetLine = false →
      ∃ t, exec (.linkResetAssert l) s = .next t ∧
        t.links.get l = ⟨(s.links.get l).opened, true, false, none, none, none, .hold, .empty, 0#7, 0#7⟩ ∧
        t.links.get (otherLink l) = { s.links.get (otherLink l) with
          notices := if l = .remote ∧ s.router.lockout ≠ .localControl
            then (s.links.get (otherLink l)).notices ||| noticeMask .lockout else (s.links.get (otherLink l)).notices } ∧
        t.setup = { s.setup with batches := s.setup.batches.set l none } ∧
        t.queues = s.queues.set l ⟨[], .hold, 1, 20, none, 0#16⟩ ∧
        t.store.pinsList = s.store.pinsList.set l [] ∧ t.store.sub = s.store.sub.set l false ∧
        t.store.missed.get l = 0#16 ∧ t.store.notice = s.store.notice.set l ⟨1, 0, none, 0#16⟩ ∧
        t.store.mem = s.store.mem ∧
        (s.store.held = false → t.seq = s.seq ∧ t.store = { s.store with
          slots := s.store.slots.map (fun sl => match sl with
            | .complete h => .complete { h with pins := h.pins.set l false, released := h.released.set l true }
            | x => x)
          pinsList := s.store.pinsList.set l []
          sub := s.store.sub.set l false
          missed := s.store.missed.set l 0#16
          notice := s.store.notice.set l ⟨1, 0, none, 0#16⟩ }) ∧
        t.saved = { s.saved with
          queue := s.saved.queue.filter (fun r => r.source != some l)
          op := s.saved.op.map (fun op => if op.req.source = some l then { op with dropped := true } else op) } ∧
        t.disp = { s.disp with overlay := s.disp.overlay.set l [] } ∧
        t.router = { s.router with
          lockout := if l = .remote then .localControl else s.router.lockout, lit := t.router.lit } ∧
        t.raster = s.raster ∧ t.power.state = s.power.state ∧ t.power.requester.map Prod.fst ≠ some l ∧
        t.panel = s.panel) ∧
    ((s.links.get l).resetLine = true →
      exec (.linkResetRelease l) s =
        .next (s.withLinks (s.links.set l { s.links.get l with resetLine := false, ready := (s.links.get l).opened })))

/-! ### Setup requests -/

/-- R5: SETUP.GET of 1 to 44 IDs answers value and last-changed generation of each, in order; an ID that names no field is
INVALID. R6: SETUP.CHANGES lists, in ascending ID, exactly the fields whose last-changed generation is newer than g, and none
when g is at or above the live generation, even where a last-changed generation is newer than g (the model's reading, log 24).
Neither changes anything else. -/
def Obligations.SetupGetAndChangesRead : Prop :=
  ∀ (l : Link) (tag : Byte) (g : Word) (s : State), taking l s →
    (∀ fs : List Field, 1 ≤ fs.length → fs.length ≤ 44 →
      exec (.setupGet l tag (fs.map fieldByte)) s = .next (replied l tag .ok
        (.setupValues s.setup.gen (fs.map (fun f => (f, s.setup.live.get f, s.setup.changed[fieldIndex f])))) s)) ∧
    (∀ ids : List Byte, 1 ≤ ids.length → ids.length ≤ 44 → (∃ b ∈ ids, fieldOfId b.toNat = none) →
      exec (.setupGet l tag ids) s = .next (replied l tag .invalid .nothing s)) ∧
    ∃ fs : List Field, exec (.setupChanges l tag g) s = .next (replied l tag .ok (.changes s.setup.gen fs) s) ∧
      fs.Pairwise (fun a b => fieldId a < fieldId b) ∧
      (∀ f, f ∈ fs ↔ (atOrAbove g s.setup.gen = false ∧ newer s.setup.changed[fieldIndex f] g = true))

/-! ### Commits -/

/-- Steps 1 and 5 of the commit procedure, for values each requested once. Step 1 (R10, R3): the verdict is INVALID naming f
exactly when f is the offending field of lowest ID. Step 5 (R15): it is CONSTRAINT exactly when no field offends and no channel
would be on. -/
def Obligations.CommitRefusesOffenceOrNoChannel : Prop :=
  ∀ (live : Setup) (window : Option Int) (req : List (Field × Int)), (req.map Prod.fst).Nodup →
    (∀ f, judge live window req = .invalid f ↔
      (offending live req f ∧ ∀ g, offending live req g → fieldId f ≤ fieldId g)) ∧
    (judge live window req = .constraint ↔
      ((∀ f, ¬ offending live req f) ∧ ∀ c : Chan, asked live req (.chOn c) ≠ 1))

/-- Steps 2 to 4 of the commit procedure, over a legal live setup and values each requested once: every field of the candidate. A
numeric value is clamped to its bounds (R11), TB.SCALE also to the stopped window (R12), and an enumerated one kept. Then the
adjustments (R13, R14): offsets to their scale's range, the source off a disabled channel, the levels to the source's range and
in WINDOW in order, the depth to the largest that fits, the segments to at most twice the depth index. -/
def Obligations.CommitBuildsAdjustedCandidate : Prop :=
  ∀ (live : Setup) (window : Option Int) (req : List (Field × Int)) (st : Setup), setupLegal live = true →
    (req.map Prod.fst).Nodup → judge live window req = .candidate st →
    (∀ f set, handling f = .enum set → f ≠ .trigSource → st.get f = asked live req f) ∧
    (∀ f lo hi, handling f = .clamp lo hi → (∀ c, f ≠ .chOffset c) →
      f ∉ [Field.trigLevel, .trigUpper, .acqDepth, .acqSegments] → st.get f = builtValue live window req f lo hi) ∧
    (∀ c, st.get (.chOffset c) =
      clampInt (-offsetBound (st.get (.chScale c))) (offsetBound (st.get (.chScale c)))
        (builtValue live window req (.chOffset c) (-100000000) 100000000)) ∧
    (∀ c, chanOfNumber (asked live req .trigSource) = some c →
      (st.get (.chOn c) = 1 → st.get .trigSource = chanNumber c) ∧
      (st.get (.chOn c) ≠ 1 → ∃ d, st.get .trigSource = chanNumber d ∧ st.get (.chOn d) = 1 ∧
        ∀ e, st.get (.chOn e) = 1 → chanNumber d ≤ chanNumber e)) ∧
    (∀ c, chanOfNumber (st.get .trigSource) = some c →
      let bottom := -(st.get (.chOffset c)) - 5 * scaleUv (st.get (.chScale c))
      let top := -(st.get (.chOffset c)) + 5 * scaleUv (st.get (.chScale c))
      st.get .trigLevel = clampInt bottom top (builtValue live window req .trigLevel (-150000000) 150000000) ∧
      st.get .trigUpper =
        (if st.get .trigType = 1 then
          max (st.get .trigLevel) (clampInt bottom top (builtValue live window req .trigUpper (-150000000) 150000000))
        else clampInt bottom top (builtValue live window req .trigUpper (-150000000) 150000000))) ∧
    (let d := builtValue live window req .acqDepth 0 7
     let fits (e : Int) : Prop := 1024 * 4 ^ e.toNat * (enabledChans st).length ≤ 33554432
     0 ≤ st.get .acqDepth ∧ st.get .acqDepth ≤ d ∧ fits (st.get .acqDepth) ∧
       ∀ e, st.get .acqDepth < e → e ≤ d → ¬ fits e) ∧
    st.get .acqSegments = min (builtValue live window req .acqSegments 0 10) (2 * st.get .acqDepth)

/-- R8, R10, R15, R16, R20: SETUP.SET of a field that exists and SETUP.DEFAULT take the commit procedure, of one value and of the 44
factory values; a console commit under lockout is LOCKED, the verdict is answered, and a candidate unlike the live setup is
installed. An ID that names no field is INVALID. The stopped timebase window (R12, R116) is about the TB.SCALE of the newest COMPLETE
record, and there is none while the run is on or with no COMPLETE record. While the run is on, SETUP.DEFAULT's candidate is the
factory setup. -/
def Obligations.SetupSetAndDefaultCommit : Prop :=
  ∀ (l : Link) (tag : Byte) (s : State), taking l s → atPeace s →
    (∀ (id : Byte) (value : Word), fieldOfId id.toNat = none →
      exec (.setupSet l tag id value) s = .next (replied l tag .invalid .nothing s)) ∧
    (s.seq.run ≠ .stopped ∨ (∀ sl ∈ s.store.slots, ∀ h, sl ≠ .complete h) → timebaseWindow s = none) ∧
    (∀ k h, s.seq.run = .stopped → newestOf k h s.store.slots → timebaseWindow s = some (h.setup.get .tbScale)) ∧
    (s.seq.run ≠ .stopped → judge s.setup.live (timebaseWindow s) (allFields.map (fun f => (f, factorySetup.get f))) =
      .candidate factorySetup) ∧
    ∀ (i : Instr) (req : List (Field × Int)), commits l tag i req →
      (¬ permitted l s → exec i s = .next (replied l tag .locked .nothing s)) ∧
      (permitted l s →
        (∀ g, judge s.setup.live (timebaseWindow s) req = .invalid g →
          exec i s = .next (replied l tag .invalid (.offending g) s)) ∧
        (judge s.setup.live (timebaseWindow s) req = .constraint →
          exec i s = .next (replied l tag .constraint .nothing s)) ∧
        (∀ st, judge s.setup.live (timebaseWindow s) req = .candidate st →
          (st = s.setup.live → exec i s = .next (replied l tag .unchanged
            (.installed s.setup.gen (decide (∃ p ∈ req, st.get p.1 ≠ p.2))) s)) ∧
          (st ≠ s.setup.live → ∃ t, exec i s = .next t ∧ installedBy l tag req st s t ∧
            t.setup.batches = s.setup.batches)))

/-- What an installed SETUP.SET or SETUP.DEFAULT hands on (R24), each clause for a commit that hands nothing else there. No CAPTURE
field, retention or stopped redraw: acquisition, records and drawing stay. A capture change (R105): a record under an older
generation ends, is counted for both links when a segment had completed (R125), and the run goes to STOPPED when a stop was pending, else to a
new record; a record at or above it goes on; in IDLE and WAIT_SLOT it has no effect. The converter streams are followed afresh when
the enabled set has changed (log 13). A layout change (R127): every slot FREE but for a record started since, K and the record bytes anew, the pins lists empty. A
retention change (R113): a held request is granted when the new ACQ.RETAIN lets a slot be chosen. A redraw request (R146):
redraw-pending while the engine draws or is halted, else the planes cleared and a REDRAW of the newest record begun. -/
def Obligations.CommitHandsOn : Prop :=
  ∀ (l : Link) (tag : Byte) (i : Instr) (req : List (Field × Int)) (st : Setup) (s t : State), taking l s → atPeace s →
    permitted l s → commits l tag i req → judge s.setup.live (timebaseWindow s) req = .candidate st → st ≠ s.setup.live →
    s.raster.chosen = none → exec i s = .next t →
    ((∀ f, fieldClass f = .capture → st.get f = s.setup.live.get f) → st.get .acqRetain = s.setup.live.get .acqRetain →
      s.seq.run ≠ .stopped ∨ (∀ f, fieldClass f = .view → st.get f = s.setup.live.get f) →
      t.seq = s.seq ∧ t.store = s.store ∧ t.raster = s.raster) ∧
    (s.seq.run = .stopped → s.seq.current = none → st.get .acqRetain = s.setup.live.get .acqRetain →
      st.get .acqDepth = s.setup.live.get .acqDepth → (enabledChans st).length = (enabledChans s.setup.live).length →
      (∃ f, st.get f ≠ s.setup.live.get f ∧
        (fieldClass f = .view ∨ f = .tbScale ∨ ∃ c, f = .chScale c ∨ f = .chOffset c)) →
      (s.raster.engine ≠ .idle → t.raster = { s.raster with redraw := true } ∧ seqKept s t ∧ t.store = s.store) ∧
      (s.raster.engine = .idle →
        ((∀ sl ∈ s.store.slots, ∀ h, sl ≠ .complete h) →
          t.raster = { s.raster with redraw := false, planes := ⟨[], [], [], []⟩ } ∧ seqKept s t ∧ t.store = s.store) ∧
        (∀ k h, newestOf k h s.store.slots → h.setup.get .tbScale - st.get .tbScale ≤ 9 →
          st.get .tbScale - h.setup.get .tbScale ≤ 9 →
          t.raster.engine = .rendering ∧ t.raster.redraw = false ∧ t.raster.planes = ⟨[], [], [], []⟩ ∧
          ∃ d, t.raster.draw = some d ∧ d.number = h.number ∧ d.kind = .redraw))) ∧
    ((∃ f, fieldClass f = .capture ∧ st.get f ≠ s.setup.live.get f) → st.get .acqRetain = s.setup.live.get .acqRetain →
      st.get .acqDepth = s.setup.live.get .acqDepth → (enabledChans st).length = (enabledChans s.setup.live).length →
      s.seq.run ≠ .stopped → s.store.held = false →
      (∀ r, s.seq.current = some r → s.seq.cap = .prefill ∨ s.seq.cap = .armed ∨ s.seq.cap = .postfill →
        (atOrAbove r.gen (s.setup.gen + 1#32) = true → seqKept s t ∧ t.store = s.store ∧ t.raster = s.raster) ∧
        (atOrAbove r.gen (s.setup.gen + 1#32) = false →
          (isFilling r.number s.store = true → closeCounted r.completed s t) ∧
          (s.seq.stopPending = true → t.seq.run = .stopped ∧ t.seq.cap = .idle ∧ t.seq.current = none) ∧
          (s.seq.stopPending = false → t.seq.run = s.seq.run ∧
            ((t.store.held = true ∧ t.seq.cap = .waitSlot) ∨
              (∃ r1, t.seq.current = some r1 ∧ r1.gen = s.setup.gen + 1#32 ∧ r1.segment = 0 ∧ r1.completed = 0 ∧
                (∀ f, fieldClass f = .capture → r1.setup.get f = st.get f))))))) ∧
    ((∃ f, fieldClass f = .capture ∧ st.get f ≠ s.setup.live.get f) → st.get .acqRetain = s.setup.live.get .acqRetain →
      st.get .acqDepth = s.setup.live.get .acqDepth → (enabledChans st).length = (enabledChans s.setup.live).length →
      (s.seq.cap = .idle → s.store.held = false →
        seqKept s t ∧ t.store = { s.store with slots := t.store.slots } ∧
        t.store.slots.map drawnAside = s.store.slots.map drawnAside) ∧
      (s.seq.cap = .waitSlot → s.seq.run ≠ .stopped → seqKept s t ∧ t.store = s.store ∧ t.raster = s.raster)) ∧
    (st.get .acqDepth ≠ s.setup.live.get .acqDepth ∨ (enabledChans st).length ≠ (enabledChans s.setup.live).length →
      t.store.recordBytes = 1024 * 4 ^ (st.get .acqDepth).toNat * (enabledChans st).length ∧
      t.store.slots.length = min 16 (67108864 / t.store.recordBytes) ∧ (∀ m, t.store.pinsList.get m = []) ∧
      t.store.sub = s.store.sub ∧
      ∀ n sl, t.store.slots[n]? = some sl → sl = .free ∨
        (n = 0 ∧ ∃ h, sl = .filling h ∧ h.gen = s.setup.gen + 1#32)) ∧
    ((∀ f, f ≠ .acqRetain → st.get f = s.setup.live.get f) →
      (s.store.held = false → t.seq = s.seq ∧ t.store = s.store ∧ t.raster = s.raster) ∧
      (s.store.held = true → ∀ n, chosenSlot n (s.withSetup { s.setup with live := st }) →
        t.store.held = false ∧ ∃ r, t.seq.current = some r ∧ r.slot = n ∧ r.number = s.store.next ∧
          r.gen = s.setup.gen + 1#32))

/-! ### Batches -/

/-- R18, whole: BATCH.STAGE by the batch, the field and the room in the staged list, whatever the value and the lockout. -/
def Obligations.BatchStageByField : Prop :=
  ∀ (l : Link) (tag id : Byte) (value : Word) (s : State), taking l s →
    (s.setup.batches.get l = none → exec (.batchStage l tag id value) s = .next (replied l tag .noBatch .nothing s)) ∧
    (∀ b, s.setup.batches.get l = some b →
      (fieldOfId id.toNat = none → exec (.batchStage l tag id value) s = .next (replied l tag .invalid .nothing s)) ∧
      (∀ f, fieldOfId id.toNat = some f →
        ((∃ p ∈ b.staged, p.1 = f) → exec (.batchStage l tag id value) s = .next (replied l tag .ok .nothing
          (s.withSetup { s.setup with
            batches := s.setup.batches.set l
              (some { b with staged := b.staged.map (fun p => if p.1 = f then (f, value.toInt) else p) }) }))) ∧
        ((∀ p ∈ b.staged, p.1 ≠ f) → b.staged.length < 16 →
          exec (.batchStage l tag id value) s = .next (replied l tag .ok .nothing
            (s.withSetup { s.setup with
              batches := s.setup.batches.set l (some { b with staged := b.staged ++ [(f, value.toInt)] }) }))) ∧
        ((∀ p ∈ b.staged, p.1 ≠ f) → 16 ≤ b.staged.length →
          exec (.batchStage l tag id value) s = .next (replied l tag .full .nothing s))))

/-- R17: BATCH.OPEN opens the link's batch at the live generation with nothing staged; BATCH.DROP closes it. R8, R9, R19:
BATCH.COMMIT by its form, the batch, the gate and the guard, in which the stale fields are the staged ones whose last-changed
generation is newer than the base; past them it takes the commit procedure with the staged values, and the batch is closed.
That form 0 or none is guarded and 1 forced, as off 0 and on 1, is the model's reading (log 9). -/
def Obligations.BatchOpensCommitsAndDrops : Prop :=
  ∀ (l : Link) (tag : Byte) (form : Option Byte) (s : State), taking l s → atPeace s →
    exec (.batchOpen l tag) s = .next (replied l tag .ok (.base s.setup.gen)
      (s.withSetup { s.setup with batches := s.setup.batches.set l (some ⟨s.setup.gen, []⟩) })) ∧
    exec (.batchDrop l tag) s = .next (replied l tag .ok .nothing
      (s.withSetup { s.setup with batches := s.setup.batches.set l none })) ∧
    ((∃ b, form = some b ∧ 1 < b.toNat) → exec (.batchCommit l tag form) s = .next (replied l tag .invalid .nothing s)) ∧
    (∀ guarded : Bool, (guarded = true ∧ (form = none ∨ form = some 0#8)) ∨ (guarded = false ∧ form = some 1#8) →
      (s.setup.batches.get l = none → exec (.batchCommit l tag form) s = .next (replied l tag .noBatch .nothing s)) ∧
      (∀ b stale, s.setup.batches.get l = some b →
        stale = allFields.filter (fun f =>
          decide (∃ p ∈ b.staged, p.1 = f) && newer s.setup.changed[fieldIndex f] b.base) →
        (¬ permitted l s → exec (.batchCommit l tag form) s = .next (replied l tag .locked .nothing s)) ∧
        (permitted l s →
          (guarded = true → stale ≠ [] →
            exec (.batchCommit l tag form) s = .next (replied l tag .stale (.stale s.setup.gen stale)
              (s.withSetup { s.setup with batches := s.setup.batches.set l none }))) ∧
          (guarded = false ∨ stale = [] →
            (∀ g, judge s.setup.live (timebaseWindow s) b.staged = .invalid g →
              exec (.batchCommit l tag form) s = .next (replied l tag .invalid (.offending g)
                (s.withSetup { s.setup with batches := s.setup.batches.set l none }))) ∧
            (judge s.setup.live (timebaseWindow s) b.staged = .constraint →
              exec (.batchCommit l tag form) s = .next (replied l tag .constraint .nothing
                (s.withSetup { s.setup with batches := s.setup.batches.set l none }))) ∧
            (∀ st, judge s.setup.live (timebaseWindow s) b.staged = .candidate st →
              (st = s.setup.live → exec (.batchCommit l tag form) s = .next (replied l tag .unchanged
                (.installed s.setup.gen (decide (∃ p ∈ b.staged, st.get p.1 ≠ p.2)))
                (s.withSetup { s.setup with batches := s.setup.batches.set l none }))) ∧
              (st ≠ s.setup.live → ∃ t, exec (.batchCommit l tag form) s = .next t ∧
                installedBy l tag b.staged st s t ∧ t.setup.batches = s.setup.batches.set l none))))))

/-- R8, R65: while lockout is REMOTE or REMOTE_HARD no request of the console link changes the live setup or its generation. -/
def Obligations.LockedOutConsoleKeepsLiveSetup : Prop :=
  ∀ (i : Instr) (tag : Byte) (p : List Byte) (s t : State), payloadOf i = some (.console, tag, p) →
    s.router.lockout ≠ .localControl → exec i s = .next t →
    t.setup.live = s.setup.live ∧ t.setup.gen = s.setup.gen ∧ t.setup.changed = s.setup.changed

/-! ### Invariants -/

/-- R16: what holds of the live setup after every installation is kept by every step. -/
def Obligations.LiveSetupStaysLegal : Prop :=
  ∀ s t : State, setupLegal s.setup.live = true → step s = .next t → setupLegal t.setup.live = true

/-- Acquisition memory, the planes and the overlay layers keep their canonical form in every step. -/
def Obligations.BuffersStayCanonical : Prop :=
  ∀ s t : State, buffersCanonical s = true → step s = .next t → buffersCanonical t = true

/-- R48, R117, R142: every step keeps each event queue within 32 records, in the order of their times, every TURN -127..127 detents
other than 0; each link's pins at two at most; and, a record that a selection has named being drawn or refused before the command
ends, no record named. -/
def Obligations.QueuesPinsAndSelectionsStayLegal : Prop :=
  ∀ s t : State, step s = .next t →
    (queuesLegal s = true → queuesLegal t = true) ∧ (pinsLegal s = true → pinsLegal t = true) ∧
    (s.raster.chosen = none → t.raster.chosen = none)

/-- R57, R58: once start-up has ended every step keeps every LED at the level that its source gives, whatever it changes of the live
setup, the run state, the capture state, the lockout state, the power state and the LED table; the end of start-up sets every LED so. -/
def Obligations.LedsFollowEveryChange : Prop :=
  ∀ s t : State, step s = .next t → ledsFollow s → ledsFollow t

/-- The invariants hold at reset. -/
def Obligations.ResetMeetsInvariants : Prop :=
  setupLegal State.reset.setup.live = true ∧ buffersCanonical State.reset = true ∧ queuesLegal State.reset = true ∧
    pinsLegal State.reset = true ∧ State.reset.raster.chosen = none ∧ ledsFollow State.reset

/-! ### The panel -/

/-- R30: a new level on the line of a key that is scanned opens an attempt of 8 ms at the millisecond counter, or restarts the 8 ms of
an open one. R31: the expiry of a running debounce timer stops it; a line that differs from the settled level settles it and hands
the router a PRESS or a RELEASE with the attempt time, an equal one hands nothing. Nothing else changes.
R32: from rest in the detent phase, the four phases in the positive direction give one TURN of +1 at the counter of the
last change, and back in the negative direction one of -1; both lines changed together clear the synchronised flag.
R33, R209: a debounced PRESS of the POWER key in STANDBY starts start-up with the routing table, the default action, the LED
sources and the device address kept; a debounced RELEASE is dropped. -/
def Obligations.PanelLinesGiveEvents : Prop :=
  (∀ (key : Fin 64) (pressed : Bool) (s : State),
     (s.power.phase = .up → (s.power.state ≠ .standby ∨ key = 63) → s.panel.keys[key].line ≠ pressed →
       (s.panel.keys[key].timer = none → exec (.keyLineChange key pressed) s = .next (s.withPanel { s.panel with
         keys := s.panel.keys.set key { s.panel.keys[key] with
           line := pressed, timer := some 8000000, attempt := s.panel.ms } })) ∧
       (s.panel.keys[key].timer ≠ none → exec (.keyLineChange key pressed) s = .next (s.withPanel { s.panel with
         keys := s.panel.keys.set key { s.panel.keys[key] with line := pressed, timer := some 8000000 } }))) ∧
     (s.panel.keys[key].timer ≠ none → s.power.state ≠ .standby →
       (s.panel.keys[key].line = s.panel.keys[key].settled → exec (.debounceExpiry key) s = .next (s.withPanel { s.panel with
         keys := s.panel.keys.set key { s.panel.keys[key] with timer := none } })) ∧
       (s.panel.keys[key].line ≠ s.panel.keys[key].settled → exec (.debounceExpiry key) s = .next (takeEvent
         ⟨key.val, if s.panel.keys[key].line = true then .press else .release, 0, s.panel.keys[key].attempt, none⟩
         (s.withPanel { s.panel with keys := s.panel.keys.set key { s.panel.keys[key] with
           timer := none, settled := s.panel.keys[key].line } }))))) ∧
  (∀ (enc : Fin 12) (s : State), s.power.phase = .up → s.power.state ≠ .standby →
     s.panel.encs[enc] = ⟨true, true, true, true, 0, true⟩ →
     (∃ s1 s2 s3, exec (.encoderLineChange enc false true) s = .next s1 ∧
       exec (.encoderLineChange enc false false) s1 = .next s2 ∧ exec (.encoderLineChange enc true false) s2 = .next s3 ∧
       exec (.encoderLineChange enc true true) s3 = .next (takeEvent ⟨64 + enc.val, .turn, 1, s.panel.ms, none⟩ s)) ∧
     (∃ s1 s2 s3, exec (.encoderLineChange enc true false) s = .next s1 ∧
       exec (.encoderLineChange enc false false) s1 = .next s2 ∧ exec (.encoderLineChange enc false true) s2 = .next s3 ∧
       exec (.encoderLineChange enc true true) s3 = .next (takeEvent ⟨64 + enc.val, .turn, -1, s.panel.ms, none⟩ s)) ∧
     exec (.encoderLineChange enc false false) s = .next (s.withPanel { s.panel with
       encs := s.panel.encs.set enc ⟨false, false, false, false, 0, false⟩ })) ∧
  (∀ s : State, s.power.state = .standby → s.panel.keys[(63 : Fin 64)].timer ≠ none →
     (s.panel.keys[(63 : Fin 64)].line = true → s.panel.keys[(63 : Fin 64)].settled = false →
       ∃ t, exec (.debounceExpiry 63) s = .next t ∧ t.power.state = .active ∧ t.power.phase = .starting ∧
         t.power.mainPower = true ∧ t.panel.ms = 0#32 ∧ t.seq.time = 0#48 ∧ t.seq.run = .stopped ∧ t.seq.cap = .idle ∧
         t.router.lockout = .localControl ∧ t.router.lockedOut = 0#16 ∧ t.router.routes = s.router.routes ∧
         t.router.defaultAction = s.router.defaultAction ∧
         (∀ i : Fin 32, t.router.leds[i] = ⟨s.router.leds[i].source, false⟩ ∧ t.router.lit[i] = false) ∧
         t.saved.device = s.saved.device ∧ t.saved.ctrl = .scanning ∧ t.saved.scanSlot = some 0 ∧
         (∀ l, (t.links.get l).opened = false ∧ (t.links.get l).ready = false ∧ (t.links.get l).notices = 0#7) ∧
         t.pending = s.pending) ∧
     (s.panel.keys[(63 : Fin 64)].line = false → s.panel.keys[(63 : Fin 64)].settled = true →
       exec (.debounceExpiry 63) s = .next (s.withPanel { s.panel with
         keys := s.panel.keys.set 63 { s.panel.keys[(63 : Fin 64)] with timer := none, settled := false } })))

/-- R36: an entry matches an event exactly when it is enabled, its match kind is satisfied by the control (RANGE a to b, PAIR a or b,
MASK c AND b equal to a AND b), its kinds hold the event's, and its run condition is met. R35, R37: of the entries that are
considered the first that matches wins, with the matched entry filled in; with none, the default action in LOCAL, and under lockout
the event is counted as locked out and nothing else happens; outside ACTIVE it is discarded. -/
def Obligations.FirstMatchingEntryWins : Prop :=
  ∀ (ev : PanelEvent) (s : State),
    (∀ (e : RouteEntry) (run : RunState), ev.control < 128 → e.a.toNat < 128 → e.b.toNat < 128 →
      (entryMatches e ev run = true ↔
        (e.enabled = true ∧ (e.matchKind = .range → e.a.toNat ≤ ev.control ∧ ev.control ≤ e.b.toNat) ∧
          (e.matchKind = .pair → ev.control = e.a.toNat ∨ ev.control = e.b.toNat) ∧
          (e.matchKind = .mask → ev.control &&& e.b.toNat = e.a.toNat &&& e.b.toNat) ∧
          ((ev.kind = .press ∧ e.kinds.getLsbD 0 = true) ∨ (ev.kind = .release ∧ e.kinds.getLsbD 1 = true) ∨
            (ev.kind = .turn ∧ e.kinds.getLsbD 2 = true)) ∧
          (e.cond = .running → run = .running ∨ run = .single) ∧ (e.cond = .stopped → run = .stopped)))) ∧
    (s.power.state ≠ .active → takeEvent ev s = s) ∧
    (s.power.state = .active →
      (∀ i : Fin 24, wins i ev s → takeEvent ev s =
        (if s.router.routes[i].action = .edit then directEdit s.router.routes[i] { ev with entry := some i.val } s
          else runAction s.router.routes[i].action { ev with entry := some i.val } s)) ∧
      ((∀ i : Fin 24, ¬ wins i ev s) →
        (s.router.lockout = .localControl →
          takeEvent ev s = runAction s.router.defaultAction { ev with entry := none } s) ∧
        (s.router.lockout ≠ .localControl →
          takeEvent ev s = s.withRouter { s.router with lockedOut :=
            if s.router.lockedOut = 65535#16 then s.router.lockedOut else s.router.lockedOut + 1#16 })))

/-- R39 to R42: an event taken by an EDIT entry whose step acts on its kind commits one value of the field that the entry names, formed
from the live setup (INDEX, FINE, PERMILLE, TOGGLE, CYCLE). A verdict of INVALID or CONSTRAINT, or a candidate equal to the live
setup, leaves the state as it is; another is installed with SETUP_CHANGED on both links, and reaches no queue. An event of another
kind makes no edit. -/
def Obligations.DirectEditCommitsOneField : Prop :=
  ∀ (i : Fin 24) (ev : PanelEvent) (f : Field) (s : State), s.power.state = .active → s.seq.standbyStop = false →
    wins i ev s → s.router.routes[i].action = .edit → fieldOfId (editedId s.router.routes[i] ev.control) = some f →
    (stepIdle s.router.routes[i] ev → takeEvent ev s = s) ∧
    (∀ v, handsValue s.router.routes[i] ev s.setup.live f v →
      ((∃ g, judge s.setup.live (timebaseWindow s) [(f, v)] = .invalid g) → takeEvent ev s = s) ∧
      (judge s.setup.live (timebaseWindow s) [(f, v)] = .constraint → takeEvent ev s = s) ∧
      (∀ st, judge s.setup.live (timebaseWindow s) [(f, v)] = .candidate st →
        (st = s.setup.live → takeEvent ev s = s) ∧
        (st ≠ s.setup.live → installed [.console, .remote] st s (takeEvent ev s))))

/-- R38, R43, R44: what the action of the entry that wins an event does. TO_CONSOLE, TO_REMOTE and TO_BOTH hand the record, with its
matched entry, to those queues and to no other. RUN_STOP is ACQ.RUN in STOPPED and else ACQ.STOP, SINGLE is ACQ.SINGLE and FORCE is
ACQ.FORCE. LOCAL releases REMOTE, with LOCKOUT on both links, is counted in REMOTE_HARD and does nothing in LOCAL. STANDBY makes the
entry into STANDBY_PENDING. DISCARD does nothing. -/
def Obligations.RoutedActionsTakeEffect : Prop :=
  ∀ (i : Fin 24) (ev : PanelEvent) (s : State), s.power.state = .active → wins i ev s →
    (s.router.routes[i].action = .toConsole → takeEvent ev s = handOver .console { ev with entry := some i.val } s) ∧
    (s.router.routes[i].action = .toRemote → takeEvent ev s = handOver .remote { ev with entry := some i.val } s) ∧
    (s.router.routes[i].action = .toBoth → ∀ l,
      (takeEvent ev s).queues.get l = (handOver l { ev with entry := some i.val } s).queues.get l ∧
      (takeEvent ev s).links.get l = (handOver l { ev with entry := some i.val } s).links.get l ∧
      takeEvent ev s = (s.withQueues (takeEvent ev s).queues).withLinks (takeEvent ev s).links) ∧
    (s.seq.standbyStop = false →
      (s.router.routes[i].action = .runStop → s.seq.run = .stopped → runStarted .running s (takeEvent ev s)) ∧
      (s.router.routes[i].action = .runStop → s.seq.run ≠ .stopped → runStopped s (takeEvent ev s)) ∧
      (s.router.routes[i].action = .single → runStarted .single s (takeEvent ev s)) ∧
      (s.router.routes[i].action = .force → forceTaken s (takeEvent ev s))) ∧
    (s.router.routes[i].action = .localRelease →
      (s.router.lockout = .localControl → takeEvent ev s = s) ∧
      (s.router.lockout = .remote → (takeEvent ev s).router.lockout = .localControl ∧
        (takeEvent ev s).router.lockedOut = s.router.lockedOut ∧
        ∀ l, (takeEvent ev s).links.get l =
          { s.links.get l with notices := (s.links.get l).notices ||| noticeMask .lockout }) ∧
      (s.router.lockout = .remoteHard → takeEvent ev s = s.withRouter { s.router with lockedOut :=
        if s.router.lockedOut = 65535#16 then s.router.lockedOut else s.router.lockedOut + 1#16 })) ∧
    (s.router.routes[i].action = .standby → standbyEntered s (takeEvent ev s)) ∧
    (s.router.routes[i].action = .discard → takeEvent ev s = s)

/-! ### Event queues, routes, LEDs and lockout -/

/-- R49 to R53: what a queue does with a record handed to it. A TURN for the control of the newest TURN is added to it: the sum
replaces its detents, a sum of 0 removes it, and a sum beyond 127 leaves 127 and enters the rest as a new record. Any other record
enters as a new one: in the order of times, dropped and counted by a full queue in HOLD, pushing out the oldest in OVERWRITE, with
the timer started by an empty queue and the threshold setting EVENTS. That the threshold is checked also when the record that enters
is itself the oldest, and so the one pushed out, is the model's choice, log 12. -/
def Obligations.EventQueueTakesRecord : Prop :=
  ∀ (l : Link) (e : PanelEvent) (s : State),
    ((e.kind ≠ .turn ∨ ∀ n, (s.queues.get l).entries.getLast? = some n → n.kind ≠ .turn ∨ n.control ≠ e.control) →
      entered l e s (handOver l e s)) ∧
    (∀ (n : PanelEvent) (es : List PanelEvent), (s.queues.get l).entries = es ++ [n] → e.kind = .turn → n.kind = .turn →
      n.control = e.control →
      (n.detents + e.detents = 0 → handOver l e s = s.withQueues (s.queues.set l { s.queues.get l with
        entries := es, timer := if es = [] then none else (s.queues.get l).timer })) ∧
      (n.detents + e.detents ≠ 0 → -127 ≤ n.detents + e.detents → n.detents + e.detents ≤ 127 →
        handOver l e s = s.withQueues (s.queues.set l
          { s.queues.get l with entries := es ++ [{ n with detents := n.detents + e.detents }] })) ∧
      (127 < n.detents + e.detents → entered l { e with detents := n.detents + e.detents - 127 }
        (s.withQueues (s.queues.set l { s.queues.get l with entries := es ++ [{ n with detents := 127 }] })) (handOver l e s)) ∧
      (n.detents + e.detents < -127 → entered l { e with detents := n.detents + e.detents + 127 }
        (s.withQueues (s.queues.set l { s.queues.get l with entries := es ++ [{ n with detents := -127 }] })) (handOver l e s)))

/-- R54, whole: PANEL.TAKE of m, 1 to 32, removes and answers the m oldest records, with the number left and the lost count; the
timer stops when the queue empties; any other m is INVALID. -/
def Obligations.PanelTakeRemovesOldest : Prop :=
  ∀ (l : Link) (tag m : Byte) (s : State), taking l s →
    (1 ≤ m.toNat → m.toNat ≤ 32 → exec (.panelTake l tag m) s = .next (replied l tag .ok
      (.taken ((s.queues.get l).entries.take m.toNat) ((s.queues.get l).entries.length - m.toNat) (s.queues.get l).lost)
      (s.withQueues (s.queues.set l { s.queues.get l with
        entries := (s.queues.get l).entries.drop m.toNat
        timer := if (s.queues.get l).entries.length ≤ m.toNat then none else (s.queues.get l).timer })))) ∧
    (m.toNat = 0 ∨ 32 < m.toNat → exec (.panelTake l tag m) s = .next (replied l tag .invalid .nothing s))

/-- R55: PANEL.QUEUE_CONFIG installs three settings in their ranges and empties the queue, else is INVALID;
PANEL.QUEUE_GET answers the settings and counts; both in every lockout state. The mode is carried by its position (R202).
R45: a PANEL.ROUTE_SET whose parts pass every check replaces the entry whole with those parts, and a PANEL.ROUTE_GET answers every
part of an entry; an index outside 0..23, or a part that fails a check, is INVALID and leaves the table. R46: the default action is
read, and set to TO_CONSOLE, TO_REMOTE, TO_BOTH or DISCARD; any other is INVALID. That PANEL.DEFAULT_SET carries the action's
position in R36's list (DISCARD 9) is the model's reading, log 10; that an entry that is not EDIT may hold any step kind, log 11. -/
def Obligations.PanelSettingsSetAndGet : Prop :=
  (∀ (l : Link) (tag mode threshold setting : Byte) (s : State), taking l s →
     (mode.toNat ≤ 1 → 1 ≤ threshold.toNat → threshold.toNat ≤ 32 → 1 ≤ setting.toNat →
       exec (.panelQueueConfig l tag mode threshold setting) s = .next (replied l tag .ok
         (.discarded (s.queues.get l).entries.length (s.queues.get l).lost)
         (s.withQueues (s.queues.set l
           ⟨[], if mode = 0#8 then .hold else .overwrite, threshold.toNat, setting.toNat, none, 0#16⟩)))) ∧
     (1 < mode.toNat ∨ threshold.toNat = 0 ∨ 32 < threshold.toNat ∨ setting.toNat = 0 →
       exec (.panelQueueConfig l tag mode threshold setting) s = .next (replied l tag .invalid .nothing s)) ∧
     exec (.panelQueueGet l tag) s = .next (replied l tag .ok (.queue (s.queues.get l).mode (s.queues.get l).threshold
       (s.queues.get l).setting (s.queues.get l).entries.length (s.queues.get l).lost) s)) ∧
  (∀ (l : Link) (tag index en mk a b ks co ex ac fb st sk action : Byte) (s : State), taking l s →
     (routePasses en mk a b ks co ex ac fb st sk → ∀ h : index.toNat < 24, ∃ e : RouteEntry,
       exec (.panelRouteSet l tag index en mk a b ks co ex ac fb st sk) s = .next (replied l tag .ok .nothing
         (s.withRouter { s.router with routes := s.router.routes.set index.toNat e h })) ∧
       routeBytes e = [en, mk, a, b, ks, co, ex, ac, fb, st, sk]) ∧
     (¬ routePasses en mk a b ks co ex ac fb st sk ∨ 24 ≤ index.toNat →
       exec (.panelRouteSet l tag index en mk a b ks co ex ac fb st sk) s = .next (replied l tag .invalid .nothing s)) ∧
     (24 ≤ index.toNat → exec (.panelRouteGet l tag index) s = .next (replied l tag .invalid .nothing s)) ∧
     (∀ h : index.toNat < 24, exec (.panelRouteGet l tag index) s =
       .next (replied l tag .ok (.route s.router.routes[index.toNat]) s)) ∧
     exec (.panelDefaultGet l tag) s = .next (replied l tag .ok (.action s.router.defaultAction) s) ∧
     (∀ d : Action, (action = 0#8 ∧ d = .toConsole) ∨ (action = 1#8 ∧ d = .toRemote) ∨ (action = 2#8 ∧ d = .toBoth) ∨
       (action = 9#8 ∧ d = .discard) →
       exec (.panelDefaultSet l tag action) s = .next (replied l tag .ok .nothing
         (s.withRouter { s.router with defaultAction := d }))) ∧
     (action.toNat ∉ [0, 1, 2, 9] →
       exec (.panelDefaultSet l tag action) s = .next (replied l tag .invalid .nothing s)))

/-- R57: when an LED is lit, by its source; in STANDBY only by STANDBY_IND. R58 to R60: PANEL.LED_SET stores the link value and
PANEL.LED_CONFIG the source, each with every LED set from its source; PANEL.LED_GET answers entry and level. A number outside 0..31, a
value that is neither off nor on, a source outside the seven, a FIELD_EQ of no field and a set with an unknown state are INVALID. That
off is carried as 0 and on as 1 is the model's reading, log 9.
R62, R63: LOCKOUT.SET from the remote link applies the state and answers it before and after; a change notifies both
links and sets the LEDs; a state outside the three is INVALID; from the console it is NOT_PERMITTED. -/
def Obligations.LedsAndLockoutAreSet : Prop :=
  (∀ (s : State),
    (∀ e : LedEntry,
      (s.power.state = .standby → (ledLevel e s = true ↔ e.source = .standbyInd)) ∧
      (s.power.state ≠ .standby →
        (∀ f v, e.source = .fieldEq f v → (ledLevel e s = true ↔ s.setup.live.get f = v)) ∧
        (∀ set, e.source = .runState set → (ledLevel e s = true ↔
          ((s.seq.run = .stopped ∧ set.getLsbD 0 = true) ∨ (s.seq.run = .running ∧ set.getLsbD 1 = true) ∨
            (s.seq.run = .single ∧ set.getLsbD 2 = true)))) ∧
        (∀ set, e.source = .capState set → (ledLevel e s = true ↔
          ((s.seq.cap = .idle ∧ set.getLsbD 0 = true) ∨ (s.seq.cap = .waitSlot ∧ set.getLsbD 1 = true) ∨
            (s.seq.cap = .prefill ∧ set.getLsbD 2 = true) ∨ (s.seq.cap = .armed ∧ set.getLsbD 3 = true) ∨
            (s.seq.cap = .postfill ∧ set.getLsbD 4 = true)))) ∧
        (e.source = .lockout → (ledLevel e s = true ↔ s.router.lockout ≠ .localControl)) ∧
        (e.source = .link → (ledLevel e s = true ↔ e.linkValue = true)) ∧
        (e.source = .standbyInd ∨ e.source = .off → ledLevel e s = false))) ∧
    (∀ (l : Link) (tag led value source op : Byte) (opValue : Word), taking l s →
      (s.power.phase = .up → ∀ h : led.toNat < 32,
        (∀ v : Bool, value = (if v then 1#8 else 0#8) →
          ∃ t, exec (.panelLedSet l tag led value) s = .next t ∧
            t = replied l tag .ok .nothing (s.withRouter { s.router with
              leds := s.router.leds.set led.toNat { s.router.leds[led.toNat] with linkValue := v } h, lit := t.router.lit }) ∧
            (∀ i : Fin 32, t.router.lit[i] = ledLevel t.router.leds[i] t)) ∧
        (∀ src : LedSource,
          ((source = 0#8 ∧ ∃ f, fieldOfId op.toNat = some f ∧ src = .fieldEq f opValue.toInt) ∨
            (source = 1#8 ∧ op.toNat < 8 ∧ src = .runState (op.setWidth 3)) ∨
            (source = 2#8 ∧ op.toNat < 32 ∧ src = .capState (op.setWidth 5)) ∨ (source = 3#8 ∧ src = .lockout) ∨
            (source = 4#8 ∧ src = .link) ∨ (source = 5#8 ∧ src = .standbyInd) ∨ (source = 6#8 ∧ src = .off)) →
          ∃ t, exec (.panelLedConfig l tag led source op opValue) s = .next t ∧
            t = replied l tag .ok .nothing (s.withRouter { s.router with
              leds := s.router.leds.set led.toNat { s.router.leds[led.toNat] with source := src } h, lit := t.router.lit }) ∧
            (∀ i : Fin 32, t.router.lit[i] = ledLevel t.router.leds[i] t))) ∧
      (∀ h : led.toNat < 32, exec (.panelLedGet l tag led) s =
        .next (replied l tag .ok (.led s.router.leds[led.toNat] s.router.lit[led.toNat]) s)) ∧
      (32 ≤ led.toNat ∨ 1 < value.toNat →
        exec (.panelLedSet l tag led value) s = .next (replied l tag .invalid .nothing s)) ∧
      (32 ≤ led.toNat ∨ 6 < source.toNat ∨ (source = 0#8 ∧ fieldOfId op.toNat = none) ∨
          (source = 1#8 ∧ 8 ≤ op.toNat) ∨ (source = 2#8 ∧ 32 ≤ op.toNat) →
        exec (.panelLedConfig l tag led source op opValue) s = .next (replied l tag .invalid .nothing s)) ∧
      (32 ≤ led.toNat → exec (.panelLedGet l tag led) s = .next (replied l tag .invalid .nothing s)))) ∧
  ∀ (tag x : Byte) (s : State),
    (taking .console s → exec (.lockoutSet .console tag x) s = .next (replied .console tag .notPermitted .nothing s)) ∧
    (taking .remote s →
      (2 < x.toNat → exec (.lockoutSet .remote tag x) s = .next (replied .remote tag .invalid .nothing s)) ∧
      (∀ y : Lockout, x.toNat = lockoutCode y →
        (s.router.lockout = y → exec (.lockoutSet .remote tag x) s =
          .next (replied .remote tag .ok (.lockouts y y) s)) ∧
        (s.router.lockout ≠ y → ∃ t, exec (.lockoutSet .remote tag x) s = .next t ∧
          t.router = { s.router with lockout := y, lit := t.router.lit } ∧
          (s.power.phase = .up → ∀ i : Fin 32, t.router.lit[i] = ledLevel t.router.leds[i] t) ∧
          answered .remote tag .ok (.lockouts s.router.lockout y) t ∧
          (∀ l, (t.links.get l).notices = (s.links.get l).notices ||| noticeMask .lockout) ∧
          t.setup = s.setup ∧ t.seq = s.seq ∧ t.queues = s.queues ∧ t.store = s.store ∧ t.saved = s.saved ∧
          t.power = s.power)))

/-! ### Acquisition requests -/

/-- R95, R106, R114, R125: ACQ.STOP by the capture state: IGNORED in IDLE, the slot request dropped in WAIT_SLOT, held in POSTFILL. In
PREFILL and ARMED the record closes: COMPLETE, FULL or PARTIAL, and counted for both links, with RECORDS on a link whose count has
reached its pace (R125), or FREE with no completed segment; the
sequencer is IDLE and STOPPED. The Raster Engine, and the drawn statuses, are then those of the selection that the offer of the record
makes (R141, R142). R96, R91: ACQ.FORCE takes a forced trigger in ARMED, is held in PREFILL and ignored elsewhere.
R94, R23: ACQ.RUN and ACQ.SINGLE from STOPPED move the run state, set VIEW.PAN to 500 and start a record; in RUNNING and SINGLE they
move the run state and withdraw a pending stop. ACQ.STATUS answers the sequencer's state; the others answer the states and flags they
leave, and on the console link under lockout LOCKED (R97). -/
def Obligations.RunControlRequests : Prop :=
  ∀ (l : Link) (tag : Byte) (s : State), taking l s → atPeace s →
    (∀ (i : Instr) (target : RunState), (i = .acqRun l tag ∧ target = .running) ∨ (i = .acqSingle l tag ∧ target = .single) →
      (¬ permitted l s → exec i s = .next (replied l tag .locked .nothing s)) ∧
      (permitted l s → ∃ t, exec i s = .next t ∧ runStarted target s t ∧
        answered l tag .ok (.acq t.seq.run t.seq.cap t.seq.stopPending t.seq.forcePending) t)) ∧
    (¬ permitted l s → exec (.acqStop l tag) s = .next (replied l tag .locked .nothing s)) ∧
    (permitted l s → ∃ t, exec (.acqStop l tag) s = .next t ∧ runStopped s t ∧
      answered l tag (if s.seq.cap = .idle then .ignored else .ok)
        (.acq t.seq.run t.seq.cap t.seq.stopPending t.seq.forcePending) t) ∧
    (¬ permitted l s → exec (.acqForce l tag) s = .next (replied l tag .locked .nothing s)) ∧
    (permitted l s → ∃ t, exec (.acqForce l tag) s = .next t ∧ forceTaken s t ∧
      answered l tag (if s.seq.cap = .armed ∨ s.seq.cap = .prefill then .ok else .ignored)
        (.acq t.seq.run t.seq.cap t.seq.stopPending t.seq.forcePending) t) ∧
    exec (.acqStatus l tag) s = .next (replied l tag .ok (.acqStatus s.seq.run s.seq.cap s.seq.stopPending
      s.seq.forcePending s.seq.holdoff.isSome s.seq.auto.isSome s.seq.time
      (s.seq.current.map (fun r => (r.number, r.segment, r.completed)))) s)

/-- R84, R109 to R112: a record start, a slot request. The slot that R111 chooses becomes FILLING with the next sequence number, the
live generation and the live CAPTURE fields; a COMPLETE record that it held is counted as overwritten when UNDRAWN, and as missed by
every subscribed link that has not released it. D, P and T are those of R66 and R69 to R72 (R80), and segment 0
starts clean (R87): bins and marks empty, detectors clean, the level codes L and U of R98, arming at once when T is 0. With no slot to choose the request is held in WAIT_SLOT. -/
def Obligations.RecordStartTakesSlot : Prop :=
  ∀ (s : State),
    (∀ n, chosenSlot n s → ∃ (h : Header) (r : Record),
      (requestSlot s).store.slots = s.store.slots.set n (.filling h) ∧ (requestSlot s).store.next = s.store.next + 1#32 ∧
      (requestSlot s).store.held = false ∧
      h.number = s.store.next ∧ h.gen = s.setup.gen ∧
      (∀ f, h.setup.get f = if fieldClass f = .capture then s.setup.live.get f else 0) ∧
      h.planned = 2 ^ (s.setup.live.get .acqSegments).toNat ∧ h.completed = 0 ∧ h.outcome = none ∧ h.segments = [] ∧
      (∀ c, h.clip.get c = false) ∧ h.drawn = .undrawn ∧ (∀ l, h.pins.get l = false ∧ h.released.get l = false) ∧
      (let budget := 1024 * 4 ^ (s.setup.live.get .acqDepth).toNat / 2 ^ (s.setup.live.get .acqSegments).toNat /
          (if s.setup.live.get .acqMode = 0 then 1 else 2)
        let rate := if (enabledChans s.setup.live).length = 1 then 5000
          else if (enabledChans s.setup.live).length = 2 ∧
            enabledChans s.setup.live ≠ [.ch1, .ch2] ∧ enabledChans s.setup.live ≠ [.ch3, .ch4] then 2500 else 1250
        let raw := rate * 10 * tbNs (s.setup.live.get .tbScale) / 1000
        h.k ≤ 32 ∧ (raw / 2 ^ h.k ≤ budget ∨ h.k = 32) ∧ (∀ j < h.k, budget < raw / 2 ^ j) ∧
        h.points = min budget (raw / 2 ^ h.k) ∧
        h.trigIndex = min (h.points - 1) (h.points * (s.setup.live.get .tbPosition).toNat / 1000)) ∧
      (s.store.slots[n]? = some .free → (requestSlot s).store.overwritten = s.store.overwritten ∧
        (requestSlot s).store.missed = s.store.missed) ∧
      (∀ x, s.store.slots[n]? = some (.complete x) →
        (requestSlot s).store.overwritten =
          (if x.drawn = .undrawn then satInc s.store.overwritten else s.store.overwritten) ∧
        ∀ l, (requestSlot s).store.missed.get l =
          if s.store.sub.get l = true ∧ x.released.get l = false then satInc (s.store.missed.get l)
          else s.store.missed.get l) ∧
      (requestSlot s).seq.current = some r ∧ r.slot = n ∧ r.number = h.number ∧ r.gen = h.gen ∧ r.setup = h.setup ∧
      r.segment = 0 ∧ r.completed = 0 ∧ segmentBegun r ∧
      r.plan.points = h.points ∧ r.plan.trigIndex = h.trigIndex ∧ r.plan.k = h.k ∧
      (requestSlot s).seq.run = s.seq.run ∧
      (h.trigIndex ≠ 0 → (requestSlot s).seq.cap = .prefill ∧ r.trigger = none) ∧
      (h.trigIndex = 0 → s.seq.forcePending = false → (requestSlot s).seq.cap = .armed ∧ r.trigger = none ∧
        (s.setup.live.get .trigMode = 0 →
          (requestSlot s).seq.auto = some ((s.setup.live.get .trigAutotime).toNat * 1000000))) ∧
      (h.trigIndex = 0 → s.seq.forcePending = true → (requestSlot s).seq.cap = .postfill ∧
        r.trigger = some ⟨0, s.seq.time, true⟩ ∧ (requestSlot s).seq.forcePending = false)) ∧
    ((∀ sl ∈ s.store.slots, sl ≠ .free ∧
        ∀ h, sl = .complete h → ¬ reusable (s.setup.live.get .acqRetain == 1) s.store.sub h) →
      (requestSlot s).store = { s.store with held := true } ∧ (requestSlot s).seq = { s.seq with cap := .waitSlot })

/-! ### Record requests -/

/-- R121: REC.LIST answers one entry for each COMPLETE record, the oldest first, with K and the counts, then zeroes the unreported
count and stops the record timer. Oldest first is said where of any two records one is newer, as R110's distinct numbers give within
half their range. R126: REC.NOTICE_CONFIG installs a pace and a setting in their ranges, zeroes the count and stops the timer, else
is INVALID; REC.NOTICE_GET answers the settings, the count, the subscription and the pins list. -/
def Obligations.RecListAndNotices : Prop :=
  ∀ (l : Link) (tag pace : Byte) (setting : BitVec 16) (s : State), taking l s →
    (∃ es : List ListEntry,
      exec (.recList l tag) s = .next (replied l tag .ok
        (.records es s.store.slots.length (s.store.missed.get l) (s.store.notice.get l).unreported)
        (s.withStore { s.store with
          notice := s.store.notice.set l { s.store.notice.get l with unreported := 0#16, timer := none } })) ∧
      es.Perm (s.store.slots.filterMap (fun sl => match sl with
        | .complete h => some ⟨h.number, h.gen, h.outcome, h.planned, h.completed, h.drawn, h.pins, h.released.get l⟩
        | _ => none)) ∧
      (numbersDistinct s → (∃ base : Word, ∀ h, Slot.complete h ∈ s.store.slots → (h.number - base).toNat < 2147483648) →
        es.Pairwise (fun a b => newer b.number a.number = true))) ∧
    (1 ≤ pace.toNat → pace.toNat ≤ 16 → setting.toNat ≤ 1000 →
      exec (.recNoticeConfig l tag pace setting) s = .next (replied l tag .ok
        (.unreported (s.store.notice.get l).unreported)
        (s.withStore { s.store with notice := s.store.notice.set l ⟨pace.toNat, setting.toNat, none, 0#16⟩ }))) ∧
    (pace.toNat = 0 ∨ 16 < pace.toNat ∨ 1000 < setting.toNat →
      exec (.recNoticeConfig l tag pace setting) s = .next (replied l tag .invalid .nothing s)) ∧
    exec (.recNoticeGet l tag) s = .next (replied l tag .ok (.recordNotice (s.store.notice.get l).pace
      (s.store.notice.get l).setting (s.store.notice.get l).timer.isSome (s.store.notice.get l).unreported
      (s.store.sub.get l) (s.store.pinsList.get l)) s)

/-- R122 to R124: REC.HEADER and REC.READ of a number that no slot holds are GONE, of a FILLING slot NOT_READY; of a COMPLETE
record they answer the header with its entries, and the points read from acquisition memory in the values of R124: the code, the two
codes of a PEAK point or the c256 value (a HIRES point's bytes low first, log 14), and in SIGNED less 128 or 32,768. A read of a channel not in the record,
a segment not completed, a first point not below P, a count outside 1..2,048 or a format other than NATIVE and SIGNED is
INVALID (that these are carried as 0 and 1 is the model's reading of R202, log 9); one past P is TRUNCATED. Nothing changes. The premise on
the record's place excludes states of no run. -/
def Obligations.RecHeaderAndReadAnswer : Prop :=
  ∀ (l : Link) (tag : Byte) (n : Word) (first : BitVec 16) (m chan : Byte) (seg : BitVec 16) (p : Word)
    (count : BitVec 16) (format : Byte) (s : State), taking l s →
    ((∀ sl ∈ s.store.slots, ∀ h, slotHeader sl = some h → h.number ≠ n) →
      exec (.recHeader l tag n first m) s = .next (replied l tag .gone .nothing s) ∧
      exec (.recRead l tag n chan seg p count format) s = .next (replied l tag .gone .nothing s)) ∧
    (∀ h, nameRecord s.store.slots n = .filling h →
      exec (.recHeader l tag n first m) s = .next (replied l tag .notReady .nothing s) ∧
      exec (.recRead l tag n chan seg p count format) s = .next (replied l tag .notReady .nothing s)) ∧
    (∀ k h, nameRecord s.store.slots n = .complete k h →
      (64 < m.toNat → exec (.recHeader l tag n first m) s = .next (replied l tag .invalid .nothing s)) ∧
      (m.toNat ≤ 64 → exec (.recHeader l tag n first m) s = .next (replied l tag
        (if m.toNat ≠ 0 ∧ h.completed < first.toNat + m.toNat then .truncated else .ok)
        (.header h ((h.segments.drop first.toNat).take m.toNat)) s)) ∧
      ((∀ c, chanNumber c = chan.toNat → h.setup.get (.chOn c) ≠ 1) ∨ h.completed ≤ seg.toNat ∨ h.points ≤ p.toNat ∨
          count.toNat = 0 ∨ 2048 < count.toNat ∨ 1 < format.toNat →
        exec (.recRead l tag n chan seg p count format) s = .next (replied l tag .invalid .nothing s)) ∧
      (∀ (c : Chan) (signed : Bool), chanNumber c = chan.toNat → h.setup.get (.chOn c) = 1 → seg.toNat < h.completed →
        p.toNat < h.points → 1 ≤ count.toNat → count.toNat ≤ 2048 → format = (if signed then 1#8 else 0#8) →
        regionFits k s.store.recordBytes h.setup seg.toNat h.points = true →
        ∃ values : List (List Int), values.length = min count.toNat (h.points - p.toNat) ∧
        (∀ j < values.length, ∃ v, values[j]? = some v ∧ carriedPoint (h.setup.get .acqMode) signed
          (memRead s.store.mem (pointAddress k s.store.recordBytes h.setup c seg.toNat (p.toNat + j))
            (if h.setup.get .acqMode = 0 then 1 else 2)) v) ∧
        exec (.recRead l tag n chan seg p count format) s =
          .next (replied l tag (if p.toNat + count.toNat ≤ h.points then .ok else .truncated)
            (.points (if h.setup.get .acqMode = 2 then 2 else 1) values.flatten) s)))

/-- R117, R118: REC.PIN and REC.UNPIN by the slot that holds the number; a link holds two pins at most, and with no slot request held
they change the pin flag and the pins list alone. R119, R120: with none held, REC.RELEASE sets the link's release flag on the
COMPLETE records whose number is r or older and answers how many it changed; REC.SUBSCRIBE answers the subscription before and, when
it changes, releases every COMPLETE record. That off is carried as 0 and on as 1 is the model's reading, log 9. -/
def Obligations.RecPinsAndReleases : Prop :=
  ∀ (l : Link) (tag : Byte) (n : Word) (value : Byte) (s : State), taking l s →
    (nameRecord s.store.slots n = .gone →
      exec (.recPin l tag n) s = .next (replied l tag .gone .nothing s) ∧
      exec (.recUnpin l tag n) s = .next (replied l tag .gone .nothing s)) ∧
    (∀ h, nameRecord s.store.slots n = .filling h →
      exec (.recPin l tag n) s = .next (replied l tag .notReady .nothing s) ∧
      exec (.recUnpin l tag n) s = .next (replied l tag .ok .nothing s)) ∧
    (∀ k h, nameRecord s.store.slots n = .complete k h →
      (h.pins.get l = true → exec (.recPin l tag n) s = .next (replied l tag .ok .nothing s)) ∧
      (h.pins.get l = false → 2 ≤ (s.store.pinsList.get l).length →
        exec (.recPin l tag n) s = .next (replied l tag .full .nothing s)) ∧
      (h.pins.get l = false → (s.store.pinsList.get l).length < 2 →
        exec (.recPin l tag n) s = .next (replied l tag .ok .nothing (s.withStore { s.store with
          slots := updateNumber n (fun x => { x with pins := x.pins.set l true }) s.store.slots
          pinsList := s.store.pinsList.set l (s.store.pinsList.get l ++ [n]) }))) ∧
      (h.pins.get l = false → exec (.recUnpin l tag n) s = .next (replied l tag .ok .nothing s)) ∧
      (h.pins.get l = true → s.store.held = false →
        exec (.recUnpin l tag n) s = .next (replied l tag .ok .nothing (s.withStore { s.store with
          slots := updateNumber n (fun x => { x with pins := x.pins.set l false }) s.store.slots
          pinsList := s.store.pinsList.set l ((s.store.pinsList.get l).filter (fun x => x != n)) })))) ∧
    (1 < value.toNat → exec (.recSubscribe l tag value) s = .next (replied l tag .invalid .nothing s)) ∧
    (s.store.held = false →
      exec (.recRelease l tag n) s = .next (replied l tag .ok
        (.released (s.store.slots.filter (fun sl => match sl with
          | .complete h => atOrAbove n h.number && !h.released.get l
          | _ => false)).length)
        (s.withStore { s.store with slots := s.store.slots.map (fun sl => match sl with
          | .complete h => .complete (if atOrAbove n h.number then { h with released := h.released.set l true } else h)
          | x => x) })) ∧
      (∀ on : Bool, value = (if on then 1#8 else 0#8) →
        (s.store.sub.get l = on →
          exec (.recSubscribe l tag value) s = .next (replied l tag .ok (.subscription on) s)) ∧
        (s.store.sub.get l ≠ on →
          exec (.recSubscribe l tag value) s = .next (replied l tag .ok (.subscription (!on)) (s.withStore { s.store with
            slots := s.store.slots.map (fun sl => match sl with
              | .complete h => .complete { h with released := h.released.set l true }
              | x => x)
            sub := s.store.sub.set l on })))))

/-- R113: a held slot request is judged again, and granted where R111 now chooses a slot, when REC.UNPIN drops a pin, REC.RELEASE or
REC.SUBSCRIBE off sets release flags, a link is reset, or a draw ends with its last span pass, each against the change that it has
itself made (R118, R119, R120, R129, R115); REC.SUBSCRIBE on leaves it held. The answers are those of the request without one. That
off is carried as 0 and on as 1 is the model's reading, log 9, and that at the end of a draw the held request is judged before the next
selection is the model's choice, log 15. -/
def Obligations.ReleasesJudgeHeldRequestAgain : Prop :=
  ∀ (l : Link) (tag : Byte) (n : Word) (s : State), s.store.held = true →
    (taking l s →
      (∀ k h, nameRecord s.store.slots n = .complete k h → h.pins.get l = true → ∃ t,
        exec (.recUnpin l tag n) s = .next (replied l tag .ok .nothing t) ∧
        judgedAgain (s.withStore { s.store with
          slots := updateNumber n (fun x => { x with pins := x.pins.set l false }) s.store.slots
          pinsList := s.store.pinsList.set l ((s.store.pinsList.get l).filter (fun x => x != n)) }) t) ∧
      (∃ t, exec (.recRelease l tag n) s = .next (replied l tag .ok
          (.released (s.store.slots.filter (fun sl => match sl with
            | .complete h => atOrAbove n h.number && !h.released.get l
            | _ => false)).length) t) ∧
        judgedAgain (withSlots (s.store.slots.map (fun sl => match sl with
          | .complete h => .complete (if atOrAbove n h.number then { h with released := h.released.set l true } else h)
          | x => x)) s) t) ∧
      (∀ u : State, u = s.withStore { s.store with
          slots := s.store.slots.map (fun sl => match sl with
            | .complete h => .complete { h with released := h.released.set l true }
            | x => x)
          sub := s.store.sub.set l (!s.store.sub.get l) } →
        (s.store.sub.get l = true → ∃ t,
          exec (.recSubscribe l tag 0#8) s = .next (replied l tag .ok (.subscription true) t) ∧ judgedAgain u t) ∧
        (s.store.sub.get l = false →
          exec (.recSubscribe l tag 1#8) s = .next (replied l tag .ok (.subscription false) u)))) ∧
    ((s.links.get l).resetLine = false → ∃ t v, exec (.linkResetAssert l) s = .next t ∧ t.store = v.store ∧ t.seq = v.seq ∧
      judgedAgain (s.withStore { s.store with
        slots := s.store.slots.map (fun sl => match sl with
          | .complete h => .complete { h with pins := h.pins.set l false, released := h.released.set l true }
          | x => x)
        pinsList := s.store.pinsList.set l []
        sub := s.store.sub.set l false
        missed := s.store.missed.set l 0#16
        notice := s.store.notice.set l ⟨1, 0, none, 0#16⟩ }) v) ∧
    (∀ (d : Draw) (k : Nat) (h : Header), s.raster.engine = .rendering → s.raster.draw = some d →
      findComplete s.store.slots d.number = some (k, h) →
      regionFits k s.store.recordBytes d.header.setup d.segment d.header.points = true → lastPass d →
      ∃ planes v, exec .spanPass s = .next (selectDraw v) ∧
        judgedAgain ((withSlots (s.store.slots.map (fun sl => match sl with
          | .complete x => if x.number = d.number then .complete { x with drawn := .drawn, prior := .drawn } else sl
          | x => x)) s).withRaster { s.raster with engine := .idle, draw := none, planes := planes }) v)

/-! ### Display requests -/

/-- R147, R164: DISP.CLEAR makes every cell of the planes 0 and, in RENDERING, returns the draw to segment 0 and the lowest
channel of its record; DISP.STATUS answers the composer's and the engine's state. -/
def Obligations.DispClearAndStatus : Prop :=
  ∀ (l : Link) (tag : Byte) (s : State), taking l s →
    (∃ t, exec (.dispClear l tag) s = .next (replied l tag .ok (.cleared s.raster.engine
        (if s.raster.engine = .rendering then s.raster.draw.map Draw.number else none)) t) ∧
      t = s.withRaster t.raster ∧ (∀ c a, memGet (t.raster.planes.get c) a = 0#8) ∧
      t.raster.engine = s.raster.engine ∧ t.raster.redraw = s.raster.redraw ∧ t.raster.mark = s.raster.mark ∧
      t.raster.chosen = s.raster.chosen ∧
      (s.raster.engine ≠ .rendering → t.raster.draw = s.raster.draw) ∧
      (∀ d, s.raster.engine = .rendering → s.raster.draw = some d →
        t.raster.draw = some { d with segment := 0, chan := (enabledChans d.header.setup).headD .ch1 })) ∧
    exec (.dispStatus l tag) s = .next (replied l tag .ok (.display s.disp.link s.disp.present s.disp.lock s.disp.frames
      s.disp.sent s.disp.sending.isSome s.raster.engine
      (if s.raster.engine = .rendering then s.raster.draw.map Draw.number else none) s.raster.redraw) s)

/-- R159: DISP.OVERLAY writes index k of a legal rectangle to the pixel k mod w right and k / w below its corner, for the pixels inside
the frame, and every other pixel of the link's layer keeps its index; an empty or too large one is INVALID. R160: DISP.OVERLAY_FILL
sets every pixel of the rectangle inside the frame to the index, and no other; one without width or height is INVALID.
R161: DISP.PALETTE gives entries f to min(255, f + m - 1) the colours in order and DISP.PALETTE_GET answers them;
TRUNCATED when the range runs past 255; f = 0 or m = 0 is INVALID. -/
def Obligations.OverlayAndPaletteWrites : Prop :=
  (∀ (l : Link) (tag : Byte) (x y w h : BitVec 16) (indexes : List Byte) (index : Byte) (s : State), taking l s →
     memWf (s.disp.overlay.get l) = true →
     (suitsOverlay w h indexes = true →
       (w.toNat = 0 ∨ h.toNat = 0 ∨ 4096 < w.toNat * h.toNat →
         exec (.dispOverlay l tag x y w h indexes) s = .next (replied l tag .invalid .nothing s)) ∧
       (0 < w.toNat → 0 < h.toNat → w.toNat * h.toNat ≤ 4096 →
         ∃ m n, exec (.dispOverlay l tag x y w h indexes) s =
             .next (replied l tag (if n = w.toNat * h.toNat then .ok else .truncated) (.pixels n)
               (s.withDisp { s.disp with overlay := s.disp.overlay.set l m })) ∧
           memWf m = true ∧
           n = ((List.range (w.toNat * h.toNat)).filter (fun k =>
             inFrame (x.toInt + (k % w.toNat : Nat)) (y.toInt + (k / w.toNat : Nat)))).length ∧
           (∀ px py : Nat, px < 800 → py < 480 → memGet m (py * 800 + px) =
             if x.toInt ≤ px ∧ (px : Int) < x.toInt + w.toNat ∧ y.toInt ≤ py ∧ (py : Int) < y.toInt + h.toNat then
               indexes.getD (((py : Int) - y.toInt).toNat * w.toNat + ((px : Int) - x.toInt).toNat) 0#8
             else memGet (s.disp.overlay.get l) (py * 800 + px)))) ∧
     (w.toNat = 0 ∨ h.toNat = 0 →
       exec (.dispOverlayFill l tag x y w h index) s = .next (replied l tag .invalid .nothing s)) ∧
     (0 < w.toNat → 0 < h.toNat →
       ∃ m n, exec (.dispOverlayFill l tag x y w h index) s =
           .next (replied l tag (if n = w.toNat * h.toNat then .ok else .truncated) (.pixels n)
             (s.withDisp { s.disp with overlay := s.disp.overlay.set l m })) ∧
         memWf m = true ∧
         n = ((List.range 800).filter (fun px => decide (x.toInt ≤ px ∧ (px : Int) < x.toInt + w.toNat))).length *
           ((List.range 480).filter (fun py => decide (y.toInt ≤ py ∧ (py : Int) < y.toInt + h.toNat))).length ∧
         (∀ px py : Nat, px < 800 → py < 480 → memGet m (py * 800 + px) =
           if x.toInt ≤ px ∧ (px : Int) < x.toInt + w.toNat ∧ y.toInt ≤ py ∧ (py : Int) < y.toInt + h.toNat then index
           else memGet (s.disp.overlay.get l) (py * 800 + px)))) ∧
  (∀ (l : Link) (tag f m : Byte) (cs : List (Byte × Byte × Byte)) (s : State), taking l s → cs.length = m.toNat →
     (f.toNat = 0 ∨ m.toNat = 0 →
       exec (.dispPalette l tag f m cs) s = .next (replied l tag .invalid .nothing s) ∧
       exec (.dispPaletteGet l tag f m) s = .next (replied l tag .invalid .nothing s)) ∧
     (0 < f.toNat → 0 < m.toNat →
       (∃ p, exec (.dispPalette l tag f m cs) s =
           .next (replied l tag (if f.toNat + m.toNat ≤ 256 then .ok else .truncated)
             (.entries (min 255 (f.toNat + m.toNat - 1) + 1 - f.toNat)) (s.withDisp { s.disp with palette := p })) ∧
         (∀ i : Fin 255, p[i] = if f.toNat ≤ i.val + 1 ∧ i.val + 1 < f.toNat + m.toNat
           then colourOf (cs.getD (i.val + 1 - f.toNat) (0#8, 0#8, 0#8)) else s.disp.palette[i])) ∧
       exec (.dispPaletteGet l tag f m) s =
         .next (replied l tag (if f.toNat + m.toNat ≤ 256 then .ok else .truncated)
           (.colours ((s.disp.palette.toList.drop (f.toNat - 1)).take (min 255 (f.toNat + m.toNat - 1) + 1 - f.toNat))) s)))

/-! ### Store requests -/

/-- R174 to R176, R178, R180, R186, R192, R193: STORE.SAVE, RECALL, ERASE and LOCK of a link whose deferred result is EMPTY. The checks
at arrival in order, the last being BUSY for a link with a request queued or in flight; a refused request changes nothing. (The
check on the standby cancellation holds in states of no run: the model takes a request whole.) An accepted one queues behind an
operation in flight; in IDLE it is served at once: a SLOT_EMPTY recall or lock and a lock that is as asked end there, another begins
its first access, of 20 ms, an UNREAD slot being read first, and the slot written next reads CORRUPT. READY stays low in HOLD
style; in DEFER style ACCEPTED is placed. That STORE.LOCK carries off as 0 and on as 1 is the model's reading, log 9. -/
def Obligations.StoreRequestsArriveAndAreServed : Prop :=
  ∀ (l : Link) (tag slot value : Byte) (label : Vector Byte 8) (s : State), takingLong l s →
    ∀ (i : Instr) (code : Byte) (kind : StoreKind),
      ((i = .storeSave l tag slot label ∧ code = 0x60#8 ∧ kind = .save label) ∨
        (i = .storeRecall l tag slot ∧ code = 0x61#8 ∧ kind = .recall) ∨
        (i = .storeErase l tag slot ∧ code = 0x62#8 ∧ kind = .erase) ∨
        (i = .storeLock l tag slot value ∧ code = 0x63#8 ∧ kind = .lock (decide (value = 1#8)))) →
      (s.saved.cancelled = true → exec i s = .next (replied l tag .inStandby .nothing s)) ∧
      (s.saved.cancelled = false →
        (kind = .recall → ¬ permitted l s → exec i s = .next (replied l tag .locked .nothing s)) ∧
        (kind ≠ .recall ∨ permitted l s →
          (s.saved.ctrl = .absent → exec i s = .next (replied l tag .noStore .nothing s)) ∧
          (s.saved.ctrl ≠ .absent →
            (12 ≤ slot.toNat → exec i s = .next (replied l tag .invalid .nothing s)) ∧
            (slot.toNat = 0 → kind ≠ .recall → exec i s = .next (replied l tag .notPermitted .nothing s)) ∧
            (∀ h : slot.toNat < 12, slot.toNat ≠ 0 ∨ kind = .recall →
              let bad : Prop := (kind = .save label ∧ ∃ b ∈ label.toList, b.toNat < 0x20 ∨ 0x7E < b.toNat) ∨
                (code = 0x63#8 ∧ 1 < value.toNat)
              let lockedSlot : Prop := (code = 0x60#8 ∨ code = 0x62#8) ∧
                ∃ lb sb g, s.saved.directory[slot.toNat] = .valid lb true sb g
              let hasOne : Prop := (∃ r ∈ s.saved.queue, r.source = some l) ∨
                ∃ op, s.saved.op = some op ∧ op.req.source = some l
              let req : StoreReq := ⟨some l, kind, ⟨slot.toNat, h⟩, decide ((s.links.get l).style = .hold)⟩
              (bad → exec i s = .next (replied l tag .invalid .nothing s)) ∧
              (¬ bad → lockedSlot → exec i s = .next (replied l tag .slotLocked .nothing s)) ∧
              (¬ bad → ¬ lockedSlot → hasOne → exec i s = .next (replied l tag .busy .nothing s)) ∧
              (¬ bad → ¬ lockedSlot → ¬ hasOne → ∃ t, exec i s = .next t ∧ t = (s.withSaved t.saved).withLinks t.links ∧
                (∀ op, s.saved.op = some op → t.saved = { s.saved with queue := s.saved.queue ++ [req] }) ∧
                (s.saved.op = none → s.saved.queue = [] → s.saved.ctrl = .idle →
                  (∀ phase after,
                    ((s.saved.directory[slot.toNat] = .unread ∧ phase = .resolving ∧ after = .unread) ∨
                      (s.saved.directory[slot.toNat] ≠ .unread ∧ kind = .save label ∧
                        phase = .writing (snapshotImage (some l) label s.setup) s.setup.gen 0 ∧ after = .corrupt) ∨
                      (s.saved.directory[slot.toNat] ≠ .unread ∧ kind = .erase ∧ phase = .erasing ∧ after = .corrupt) ∨
                      (s.saved.directory[slot.toNat] ≠ .unread ∧ s.saved.directory[slot.toNat] ≠ .empty ∧
                        (kind = .recall ∨ (code = 0x63#8 ∧ ∀ lb sb g,
                          s.saved.directory[slot.toNat] ≠ .valid lb (decide (value = 1#8)) sb g)) ∧
                        phase = .reading ∧ after = s.saved.directory[slot.toNat])) →
                    t.saved = { s.saved with
                      ctrl := .busy
                      op := some ⟨req, false, false, phase⟩
                      directory := s.saved.directory.set slot.toNat after h
                      limit := some 20000000
                      polling := false }) ∧
                  (∀ status : Status,
                    (s.saved.directory[slot.toNat] = .empty ∧ (kind = .recall ∨ code = 0x63#8) ∧ status = .slotEmpty) ∨
                      (code = 0x63#8 ∧ status = .done ∧ ∃ lb sb g,
                        s.saved.directory[slot.toNat] = .valid lb (decide (value = 1#8)) sb g) →
                    t.saved = { s.saved with limit := none, polling := false } ∧
                    ((s.links.get l).style = .hold → t.links = (replied l tag status .nothing s).links) ∧
                    ((s.links.get l).style = .defer → answered l tag .accepted .nothing t ∧
                      (t.links.get l).deferred = .ready tag code status .nothing ∧
                      (t.links.get l).notices = (s.links.get l).notices ||| noticeMask .result))) ∧
                (s.saved.op ≠ none ∨ (s.saved.queue = [] ∧ s.saved.ctrl = .idle ∧ t.saved.op ≠ none) →
                  ((s.links.get l).style = .hold → t.links = (working l tag code s).links) ∧
                  ((s.links.get l).style = .defer → answered l tag .accepted .nothing t ∧
                    (t.links.get l).deferred = .outstanding tag code ∧
                    (t.links.get l).notices = (s.links.get l).notices)))))))

/-- R181, R182, R194: STORE.LIST answers the controller's state. STORE.CANCEL removes the link's queued request, whose final status
CANCELLED goes to the deferred record, marks the link's operation in flight, and is IGNORED with neither. STORE.RESULT answers a
READY record and empties it, an OUTSTANDING one NOT_READY, an EMPTY one IGNORED. -/
def Obligations.StoreListCancelResult : Prop :=
  ∀ (l : Link) (tag : Byte) (s : State), taking l s →
    (s.saved.ctrl = .absent →
      exec (.storeList l tag) s = .next (replied l tag .noStore .nothing s) ∧
      exec (.storeCancel l tag) s = .next (replied l tag .noStore .nothing s)) ∧
    (s.saved.ctrl ≠ .absent →
      exec (.storeList l tag) s = .next (replied l tag .ok (.storeList s.saved.ctrl s.saved.slot0Gen s.saved.directory
        (s.saved.op.map (fun op => (op.req, op.marked))) s.saved.queue) s) ∧
      (∀ pre r post t0 k0, s.saved.queue = pre ++ r :: post → (∀ x ∈ pre ++ post, x.source ≠ some l) → r.source = some l →
        r.held = false → (s.links.get l).deferred = .outstanding t0 k0 →
        ∃ t, exec (.storeCancel l tag) s = .next t ∧
          t = (s.withSaved { s.saved with queue := pre ++ post }).withLinks t.links ∧
          answered l tag .ok .removed t ∧ (t.links.get l).deferred = .ready t0 k0 .cancelled .nothing ∧
          (t.links.get l).notices = (s.links.get l).notices ||| noticeMask .result ∧
          t.links.get (otherLink l) = s.links.get (otherLink l)) ∧
      ((∀ r ∈ s.saved.queue, r.source ≠ some l) →
        (∀ op, s.saved.op = some op → op.req.source = some l →
          exec (.storeCancel l tag) s = .next (replied l tag .ok .marked
            (s.withSaved { s.saved with op := some { op with marked := true } }))) ∧
        ((∀ op, s.saved.op = some op → op.req.source ≠ some l) →
          exec (.storeCancel l tag) s = .next (replied l tag .ignored .nothing s)))) ∧
    ((s.links.get l).deferred = .empty → exec (.storeResult l tag) s = .next (replied l tag .ignored .nothing s)) ∧
    (∀ t0 k0, (s.links.get l).deferred = .outstanding t0 k0 →
      exec (.storeResult l tag) s = .next (replied l tag .notReady (.outstanding t0 k0) s)) ∧
    (∀ t0 k0 st0 p0, (s.links.get l).deferred = .ready t0 k0 st0 p0 →
      ∃ t, exec (.storeResult l tag) s = .next t ∧ t = s.withLinks t.links ∧
        answered l tag .ok (.result t0 k0 st0 p0) t ∧ (t.links.get l).deferred = .empty ∧
        (t.links.get l).notices = (s.links.get l).notices &&& ~~~(noticeMask .result) ∧
        (t.links.get l).enables = (s.links.get l).enables ∧ (t.links.get l).style = (s.links.get l).style ∧
        t.links.get (otherLink l) = s.links.get (otherLink l))

/-- R169, R170, R204: the image that a save or an autosave composes of a live setup whose values fit 32 bits: its header bytes (the
saved-by code 1 CONSOLE, 2 REMOTE, 3 AUTOSAVE), its body bytes, and a sum of 0. It is classified VALID with its label, unlocked, and
its body gives the setup back. An image is EMPTY exactly when its magic is FFFFh, and VALID exactly with magic 5AC3h, version 1 and
sum 0. A lock change keeps everything but lock part and checksum (R180). -/
def Obligations.SavedImageGivesSetupBack : Prop :=
  (∀ (source : Option Link) (label : Vector Byte 8) (b : SetupBlock),
    (∀ f, -2147483648 ≤ b.live.get f ∧ b.live.get f ≤ 2147483647) →
    let img := snapshotImage source label b
    let code : Nat := match source with
      | some .console => 1
      | some .remote => 2
      | none => 3
    imageByte img 0 = 0xC3#8 ∧ imageByte img 1 = 0x5A#8 ∧ imageByte img 2 = 1#8 ∧ (imageByte img 3).toNat = code ∧
    imageByte img 4 = b.gen.setWidth 8 ∧ imageByte img 5 = (b.gen >>> 8).setWidth 8 ∧
    (∀ j : Fin 8, imageByte img (6 + j.val) = label[j]) ∧
    (∀ f : Field, (imageByte img (16 + 4 * (fieldIndex f).val)).toNat = (b.live.get f % 256).toNat ∧
      (imageByte img (17 + 4 * (fieldIndex f).val)).toNat = (b.live.get f / 256 % 256).toNat ∧
      (imageByte img (18 + 4 * (fieldIndex f).val)).toNat = (b.live.get f / 65536 % 256).toNat ∧
      (imageByte img (19 + 4 * (fieldIndex f).val)).toNat = (b.live.get f / 16777216 % 256).toNat) ∧
    classify img = .valid label false (BitVec.ofNat 7 code) (b.gen.setWidth 16) ∧ imageSetup img = b.live) ∧
  (∀ img : Image,
    let sum := ((List.range 96).map (fun j => (imageByte img (2 * j)).toNat + 256 * (imageByte img (2 * j + 1)).toNat)).sum
    (classify img = .empty ↔ (imageByte img 0 = 0xFF#8 ∧ imageByte img 1 = 0xFF#8)) ∧
    ((∃ lb k sb g, classify img = .valid lb k sb g) ↔ (imageByte img 0 = 0xC3#8 ∧ imageByte img 1 = 0x5A#8 ∧
      imageByte img 2 = 1#8 ∧ sum % 65536 = 0)) ∧
    (∀ lb k sb g on, classify img = .valid lb k sb g → classify (lockImage img on) = .valid lb on sb g ∧
      ∀ n, 16 ≤ n → imageByte (lockImage img on) n = imageByte img n))

/-! ### Link and power requests -/

/-- R196 to R198, R208: LINK.STATUS changes nothing, in every power state; LINK.CONFIG installs style and enables and answers those
before; LINK.CLEAR_NOTICES clears the named flags, answers those before, and restarts the queue timer when it clears a pending EVENTS
over a queue that is not empty. Bit 7 of a set names no kind. R195: ATTENTION is high exactly when the link has opened, its reset
line is not asserted, and some notice is both pending and enabled. -/
def Obligations.LinkStatusConfigClear : Prop :=
  ∀ (l : Link) (tag style enables notices : Byte) (s : State),
    (∀ k : LinkState, attention k = true ↔ (k.opened = true ∧ k.resetLine = false ∧
      ∃ i < 7, k.notices.getLsbD i = true ∧ k.enables.getLsbD i = true)) ∧
    (ready l s →
      exec (.linkStatus l tag) s = .next (replied l tag .ok (.linkStatus s.seq.run s.seq.cap s.seq.time s.setup.gen
        s.router.lockout s.disp.link s.saved.ctrl s.power.state (s.links.get l).style
        (deferredCode (s.links.get l).deferred) (s.links.get l).notices (s.links.get l).enables (s.queues.get l).lost
        (s.store.missed.get l) s.store.overwritten s.router.lockedOut) s) ∧
      (s.power.state = .active →
        (style.toNat ≤ 1 → enables.toNat < 128 → exec (.linkConfig l tag style enables) s = .next (replied l tag .ok
          (.config (s.links.get l).style (s.links.get l).enables) (s.withLinks (s.links.set l { s.links.get l with
            style := if style = 0#8 then .hold else .defer, enables := enables.setWidth 7 })))) ∧
        (1 < style.toNat ∨ 128 ≤ enables.toNat →
          exec (.linkConfig l tag style enables) s = .next (replied l tag .invalid .nothing s)) ∧
        (notices.toNat < 128 → exec (.linkClearNotices l tag notices) s = .next (replied l tag .ok
          (.notices (s.links.get l).notices) ((s.withLinks (s.links.set l { s.links.get l with
            notices := (s.links.get l).notices &&& ~~~(notices.setWidth 7) })).withQueues (s.queues.set l
              { s.queues.get l with
                timer := if (s.links.get l).notices.getLsbD 0 = true ∧ notices.getLsbD 0 = true ∧ (s.queues.get l).entries ≠ []
                  then some ((s.queues.get l).setting * 1000000) else (s.queues.get l).timer })))) ∧
        (128 ≤ notices.toNat →
          exec (.linkClearNotices l tag notices) s = .next (replied l tag .invalid .nothing s))))

/-- R206: POWER.STANDBY of a link whose deferred result is EMPTY closes both batches, stops the quiet timer, sets STANDBY on both links,
empties the store queue and halts the Raster Engine with no draw in flight; nothing of the live setup, the event queues or acquisition
memory changes. While the entry is pending, a HOLD link waits with READY low and a DEFER link has ACCEPTED; in STANDBY a HOLD link has
OK and a DEFER link has it as its deferred result (said for a link with no store request of its own queued, as one that is ready for a
long request has in every run). R107, R149, R186, R207: STANDBY is entered at once when all three reports are in, the Raster Engine's
always, the sequencer's when it is IDLE after its stop, in every capture state but POSTFILL, and the store's when no operation is in
flight and slot 0 holds the live generation, or in ABSENT; else, with none in flight, the final autosave begins. -/
def Obligations.PowerStandbyMakesEntry : Prop :=
  ∀ (l : Link) (tag : Byte) (s : State), takingLong l s →
    ∃ t, exec (.powerStandby l tag) s = .next t ∧ standbyEntered s t ∧
      (t.power.state = .standbyPending → t.power.mainPower = s.power.mainPower ∧
        t.power.requester = some (l, decide ((s.links.get l).style = .hold))) ∧
      (t.power.state = .standby → t.power.mainPower = false ∧ t.setup.outputs = none ∧ t.disp.link = .absent ∧
        t.disp.sending = none) ∧
      t.power.haltReport = true ∧
      (t.power.state = .standby ↔ (t.power.idleReport = true ∧ t.power.savedReport = true)) ∧
      (s.store.held = false ∨ s.seq.cap = .waitSlot →
        (t.power.idleReport = true ↔ (s.power.idleReport = true ∨ t.seq.cap = .idle)) ∧
        (s.seq.cap = .idle ∨ s.seq.cap = .prefill ∨ s.seq.cap = .armed ∨ (s.seq.cap = .waitSlot ∧ s.seq.forcePending = false) →
          t.seq.cap = .idle) ∧
        (s.seq.cap = .postfill → t.seq.cap = .postfill ∧ t.seq.stopPending = true)) ∧
      (s.saved.finalAsked = false →
        (t.power.savedReport = true ↔ (s.power.savedReport = true ∨
          (s.saved.op = none ∧ (s.saved.ctrl = .absent ∨ s.setup.gen = s.saved.slot0Gen)))) ∧
        (s.saved.op = none → s.saved.ctrl ≠ .absent → s.setup.gen ≠ s.saved.slot0Gen →
          t.saved = finalSave s.setup { s.saved with queue := [], cancelled := true })) ∧
      ((∀ r ∈ s.saved.queue, r.source ≠ some l) →
        (t.power.state = .standbyPending →
          ((s.links.get l).style = .hold → (t.links.get l).ready = false ∧ (t.links.get l).inWork = some (tag, 0x78#8)) ∧
          ((s.links.get l).style = .defer → answered l tag .accepted .nothing t ∧
            (t.links.get l).deferred = .outstanding tag 0x78#8)) ∧
        (t.power.state = .standby →
          ((s.links.get l).style = .hold → answered l tag .ok .nothing t) ∧
          ((s.links.get l).style = .defer → (t.links.get l).deferred = .ready tag 0x78#8 .ok .nothing)))

/-- R107, R186, R207: the reports that come while STANDBY_PENDING lasts, the engine halted. The end of an operation in flight, by a
fault, a read or its last page, hands its status and has the final autosave asked: slot 0 is saved when the live generation differs
from the slot-0 saved generation, else the store reports at once; so does the end of an autosave in flight, with the slot-0 saved
generation that it leaves, and of a recall that installs its setup while the sequencer is IDLE. That a status which a cancel mark has
changed keeps its payload, and that a recall that ends INVALID or CONSTRAINT carries none, is log 23. The end of the final autosave sets slot 0's saved generation, or 0 at a fault
of a page, and reports. The last bin of the segment in POSTFILL makes the sequencer IDLE and STOPPED, and it reports. The last report
enters STANDBY as one step; another is noted. -/
def Obligations.ReportsEnterStandby : Prop :=
  ∀ s : State, s.power.state = .standbyPending → s.power.phase = .up →
    (∀ (op : Op), s.saved.op = some op → s.saved.scanSlot = none → s.saved.queue = [] → s.saved.ctrl = .busy →
      s.saved.cancelled = true →
      (s.saved.finalAsked = false →
        (∀ (i : Instr) (e : DirEntry) (st : Status) (p : Payload), accessEnds op i e st p s →
          ∃ t u, exec i s = .next t ∧ endedWith op e st p s u ∧ storeSettles u t) ∧
        (op.req.kind = .autosave → op.req.source = none → ∀ img g page, op.phase = .writing img g page →
          (page = 5 → ∃ t, exec .pageWriteComplete s = .next t ∧
            storeSettles (s.withSaved { storeDone op (classify img) s.saved with slot0Gen := g }) t) ∧
          ∃ t, exec .eepromAccessFault s = .next t ∧
            storeSettles (s.withSaved { storeDone op s.saved.directory[op.req.slot] s.saved with slot0Gen := 0#32 }) t) ∧
        (∀ img e lb k sb g st, op.phase = .reading → op.req.kind = .recall → e = .valid lb k sb g → classify img = e →
          s.seq.cap = .idle → s.store.held = false →
          judge s.setup.live (timebaseWindow s) (allFields.map (fun f => (f, (imageSetup img).get f))) = .candidate st →
          st ≠ s.setup.live → ∃ t u v told, exec (.eepromReadComplete img) s = .next t ∧ linksKept s v ∧ u = v.withLinks u.links ∧
            (∀ l, op.req.source = some l → op.dropped = false → told = [otherLink l]) ∧
            (op.dropped = true → told = [.console, .remote]) ∧ installed told st (s.withSaved (storeDone op e s.saved)) u ∧
            finalHanded op .applied (.installed (s.setup.gen + 1#32)
              (decide (∃ q ∈ allFields.map (fun f => (f, (imageSetup img).get f)), st.get q.1 ≠ q.2))) v u ∧
            storeSettles u t)) ∧
      (s.saved.finalAsked = true → op.req.kind = .autosave → op.req.source = none →
        (∀ img g, op.phase = .writing img g 5 → ∃ t, exec .pageWriteComplete s = .next t ∧
          reportTaken { s.power with savedReport := true }
            (s.withSaved { storeDone op (classify img) s.saved with slot0Gen := g }) t) ∧
        (∀ img g page, op.phase = .writing img g page → ∃ t, exec .eepromAccessFault s = .next t ∧
          reportTaken { s.power with savedReport := true }
            (s.withSaved { storeDone op s.saved.directory[op.req.slot] s.saved with slot0Gen := 0#32 }) t) ∧
        (op.phase = .resolving → ∃ t, exec .eepromAccessFault s = .next t ∧
          reportTaken { s.power with savedReport := true }
            (s.withSaved (storeDone op s.saved.directory[op.req.slot] s.saved)) t))) ∧
    (∀ (r : Record) (t0 : Trigger), s.seq.standbyStop = true → s.raster.engine = .halted → s.seq.cap = .postfill →
      s.seq.stopPending = true → s.seq.current = some r → r.trigger = some t0 →
      t0.bin + (r.plan.points - r.plan.trigIndex) ≤ r.bin + 1 →
      ∃ u : State, linksKept s u ∧ u.seq = { s.seq with
          run := .stopped
          cap := .idle
          stopPending := false
          forcePending := false
          holdoff := none
          auto := none
          current := none } ∧
        u.power = s.power ∧ u.setup = s.setup ∧ u.saved = s.saved ∧ u.queues = s.queues ∧ u.disp = s.disp ∧ u.panel = s.panel ∧
        u.raster = s.raster ∧ reportTaken { s.power with idleReport := true } u (closeBin s))

/-! ### Timers -/

/-- The expiry of a running timer: queue (R53), record (R125), holdoff (R102), auto (R103) and quiet (R27, R184, R185). Each stops
its timer. The quiet timer's offer is dropped in ABSENT, at the generation that slot 0 holds, and while an autosave is queued or in
flight; behind an operation in flight it queues an autosave at the tail, and with none it is served, an UNREAD slot 0 being read
first. An expiry of a stopped timer changes nothing (the model's choice, log 21). -/
def Obligations.TimerExpiries : Prop :=
  ∀ (l : Link) (s : State),
    ((s.queues.get l).timer ≠ none → exec (.queueTimerExpiry l) s =
      .next ((s.withQueues (s.queues.set l { s.queues.get l with timer := none })).withLinks (s.links.set l
        { s.links.get l with notices := (s.links.get l).notices ||| noticeMask .events }))) ∧
    ((s.store.notice.get l).timer ≠ none → exec (.recordTimerExpiry l) s =
      .next ((s.withStore { s.store with
        notice := s.store.notice.set l { s.store.notice.get l with timer := none } }).withLinks (s.links.set l
        { s.links.get l with notices := (s.links.get l).notices ||| noticeMask .records }))) ∧
    (s.seq.holdoff ≠ none → exec .holdoffExpiry s = .next (s.withSeq { s.seq with holdoff := none })) ∧
    (∀ r, s.seq.auto ≠ none → s.seq.cap = .armed → s.seq.current = some r →
      ∃ t, exec .autoTimerExpiry s = .next t ∧ t.seq = { s.seq with
          cap := .postfill
          auto := none
          holdoff := if 0 < r.armed.holdoff then some (r.armed.holdoff.toNat * 10) else s.seq.holdoff
          current := some { r with trigger := some ⟨r.bin, s.seq.time, true⟩ } } ∧
        t.setup = s.setup ∧ t.store = s.store ∧ t.queues = s.queues ∧ t.links = s.links) ∧
    (s.setup.quiet ≠ none → s.saved.ctrl = .absent ∨ s.setup.gen = s.saved.slot0Gen →
      exec .quietTimerExpiry s = .next (s.withSetup { s.setup with quiet := none })) ∧
    (s.setup.quiet ≠ none → s.saved.ctrl = .idle → s.saved.cancelled = false → s.setup.gen ≠ s.saved.slot0Gen →
      s.saved.queue = [] → s.saved.op = none → s.saved.directory[(0 : Fin 12)] ≠ .unread →
      exec .quietTimerExpiry s = .next ((s.withSetup { s.setup with quiet := none }).withSaved { s.saved with
        ctrl := .busy
        directory := s.saved.directory.set (0 : Fin 12) .corrupt
        op := some ⟨⟨none, .autosave, 0, false⟩, false, false,
          .writing (snapshotImage none lastLabel s.setup) s.setup.gen 0⟩
        limit := some 20000000
        polling := false })) ∧
    (s.setup.quiet ≠ none → s.saved.ctrl = .idle → s.saved.cancelled = false → s.setup.gen ≠ s.saved.slot0Gen →
      s.saved.queue = [] → s.saved.op = none → s.saved.directory[(0 : Fin 12)] = .unread →
      exec .quietTimerExpiry s = .next ((s.withSetup { s.setup with quiet := none }).withSaved { s.saved with
        ctrl := .busy
        op := some ⟨⟨none, .autosave, 0, false⟩, false, false, .resolving⟩
        limit := some 20000000
        polling := false })) ∧
    (∀ op, s.setup.quiet ≠ none → s.saved.op = some op → (op.req.source = none ∨ ∃ r ∈ s.saved.queue, r.source = none) →
      exec .quietTimerExpiry s = .next (s.withSetup { s.setup with quiet := none })) ∧
    (∀ op, s.setup.quiet ≠ none → s.saved.op = some op → op.req.source ≠ none → (∀ r ∈ s.saved.queue, r.source ≠ none) →
      s.saved.ctrl = .busy → s.saved.cancelled = false → s.setup.gen ≠ s.saved.slot0Gen →
      exec .quietTimerExpiry s = .next ((s.withSetup { s.setup with quiet := none }).withSaved { s.saved with
        queue := s.saved.queue ++ [⟨none, .autosave, 0, false⟩] })) ∧
    ((s.queues.get l).timer = none → exec (.queueTimerExpiry l) s = .next s) ∧
    ((s.store.notice.get l).timer = none → exec (.recordTimerExpiry l) s = .next s) ∧
    (s.seq.holdoff = none → exec .holdoffExpiry s = .next s) ∧
    (s.seq.auto = none → exec .autoTimerExpiry s = .next s) ∧
    (s.setup.quiet = none → exec .quietTimerExpiry s = .next s)

/-! ### Samples -/

/-- R67, R68: a code is dropped while no record is being filled and when its core serves no enabled channel, by the routing of R67. Else
it waits until every core of its sampling instant has delivered; then the instant is taken whole, each channel with the code of the
core that served it, and the next instant is that core period's next. The bookkeeping of the streams is the model's (log 13): the
first code under a routing takes its own instant as the first, the other cores of it in doubt; a code of a later instant shows that
they had delivered theirs before, and what has come of the first is passed over; where every core samples at once no code can
show it, and it is free. -/
def Obligations.SamplesJoinTheirInstant : Prop :=
  ∀ (core : Fin 4) (code : Byte) (s : State), currentFits s = true →
    (s.seq.current = none ∨ s.seq.cap = .idle ∨ s.seq.cap = .waitSlot →
      ∃ f x, (x = s.races ∨ x = s.races.tail) ∧
        exec (.sample core code) s = .next ((s.withRaces x).withSeq { s.seq with front := f })) ∧
    (∀ r en, s.seq.current = some r → s.seq.cap = .prefill ∨ s.seq.cap = .armed ∨ s.seq.cap = .postfill →
      enabledChans r.setup = en →
      ((∀ c, en = [c] → ∀ k, coreChan en k = some c) ∧
        (∀ a b, en = [a, b] → a ∈ [Chan.ch1, .ch2] → b ∈ [Chan.ch3, .ch4] →
          coreChan en 0 = some a ∧ coreChan en 1 = some a ∧ coreChan en 2 = some b ∧ coreChan en 3 = some b) ∧
        (en.length ≠ 1 → en ∉ [[Chan.ch1, .ch3], [.ch1, .ch4], [.ch2, .ch3], [.ch2, .ch4]] →
          ∀ k, coreChan en k = if coreOwn k ∈ en then some (coreOwn k) else none)) ∧
      (coreChan en core = none → exec (.sample core code) s = .next s) ∧
      (∀ (j : Nat) (instant : List (Fin 4)), s.seq.front.routing ≠ some en → instantOf en j instant → core ∈ instant →
        ∃ f : Front, f.routing = some en ∧ f.next = j ∧ f.got[core] = false ∧
          (∀ k : Fin 4, f.waiting[k] = [] ∧ (f.doubt[k] = true → k ∈ instant ∧ k ≠ core)) ∧
          (en.length = 1 ∨ en ∈ [[Chan.ch1, .ch3], [.ch1, .ch4], [.ch2, .ch3], [.ch2, .ch4]] →
            ∀ k : Fin 4, f.skip[k] = false ∧ (k ∈ instant → k ≠ core → f.doubt[k] = true)) ∧
          exec (.sample core code) s =
            exec (.sample core code) ((s.withRaces s.races.tail).withSeq { s.seq with front := f })) ∧
      (s.seq.front.routing = some en →
        (∀ (k : Fin 4) (j : Nat) (instant : List (Fin 4)), s.seq.front.doubt[k] = true → instantOf en j instant → k ∈ instant →
          (core ∉ instant ∨ s.seq.front.got[core] = true) → (coreChan en core).isSome = true →
          ∃ f : Front, f.routing = some en ∧
            (∀ m : Fin 4, f.doubt[m] = false ∧ f.got[m] = (s.seq.front.got[m] || s.seq.front.doubt[m]) ∧ f.waiting[m] = [] ∧
              f.skip[m] = (s.seq.front.skip[m] && !s.seq.front.doubt[m])) ∧
            ((∀ m : Fin 4, s.seq.front.waiting[m] = []) → f.next = s.seq.front.next) ∧
            ((∃ m : Fin 4, s.seq.front.waiting[m] ≠ []) → f.next =
              if en ∈ [[Chan.ch1, .ch3], [.ch1, .ch4], [.ch2, .ch3], [.ch2, .ch4]] then (s.seq.front.next + 1) % 2
              else if en.length = 1 then (s.seq.front.next + 1) % 4 else 0) ∧
            exec (.sample core code) s = exec (.sample core code) (s.withSeq { s.seq with front := f })) ∧
        (∀ (instant : List (Fin 4)) (x : Fin 4 → Byte), instantOf en s.seq.front.next instant →
          core ∈ instant → x core = code → s.seq.front.skip[core] = false → s.seq.front.waiting[core] = [] →
          (∀ k : Fin 4, s.seq.front.doubt[k] = true → k ∈ instant ∧ s.seq.front.got[core] = false) →
          ((∃ k ∈ instant, k ≠ core ∧ s.seq.front.waiting[k] = []) →
            ∃ f, exec (.sample core code) s = .next (s.withSeq { s.seq with front := f }) ∧ f.routing = some en ∧
              f.next = s.seq.front.next ∧ f.waiting = s.seq.front.waiting.set core [code]) ∧
          ((∀ k : Fin 4, k ≠ core → s.seq.front.waiting[k] = if k ∈ instant then [x k] else []) →
            ∃ f codes, exec (.sample core code) s = .next (takeInstant codes r (s.withSeq { s.seq with front := f })) ∧
              (∀ k ∈ instant, ∀ c, coreChan en k = some c → codes.get c = x k) ∧ (∀ k : Fin 4, f.waiting[k] = []) ∧
              f.routing = some en ∧ (en.length = 1 → f.next = (s.seq.front.next + 1) % 4) ∧
              (en.length ≠ 1 → f.next = if en ∈ [[Chan.ch1, .ch3], [.ch1, .ch4], [.ch2, .ch3], [.ch2, .ch4]] then
                1 - s.seq.front.next else 0))) ∧
        (∀ instant : List (Fin 4), instantOf en s.seq.front.next instant → core ∉ instant → s.seq.front.skip[core] = false →
          (coreChan en core).isSome = true → (∃ k ∈ instant, s.seq.front.waiting[k] = []) →
          (∀ k : Fin 4, s.seq.front.doubt[k] = false) →
          ∃ f, exec (.sample core code) s = .next (s.withSeq { s.seq with front := f }) ∧ f.routing = some en ∧
            f.next = s.seq.front.next ∧ f.waiting = s.seq.front.waiting.set core (s.seq.front.waiting[core] ++ [code]))))

/-- R73, R77, R81, R90, R102: a sampling instant taken whole. Every enabled channel's code joins its bin, and a code 0 or 255 sets its
clip mark; the source channel's code moves the detectors. A firing in ARMED with no holdoff running is the trigger, in the bin in
progress, stamped with the time counter as the instant's last code arrives (log 13), and starts the holdoff when that is above 0; any
other firing is spent. When the bins hold D samples they then close, with a trigger already taken. -/
def Obligations.InstantIsTakenWhole : Prop :=
  ∀ (codes : PerChan Byte) (r : Record) (s : State) (c0 : Chan), s.seq.current = some r →
    s.seq.cap = .prefill ∨ s.seq.cap = .armed ∨ s.seq.cap = .postfill → (enabledChans r.setup).head? = some c0 →
    ∃ (u : State) (r1 : Record), u.seq.current = some r1 ∧
      (∀ c, (r.setup.get (.chOn c) = 1 → r1.bins.get c = binAdd (r.bins.get c) (codes.get c) ∧
          (r1.marks.get c = true ↔ (r.marks.get c = true ∨ codes.get c = 0#8 ∨ codes.get c = 255#8))) ∧
        (r.setup.get (.chOn c) ≠ 1 → r1.bins.get c = r.bins.get c ∧ r1.marks.get c = r.marks.get c)) ∧
      r1.detectors = (detect r.setup r.lower r.upper r.detectors (codes.get (sourceChan r.setup))).1 ∧
      { r1 with bins := r.bins, marks := r.marks, detectors := r.detectors, trigger := r.trigger } = r ∧
      ((detect r.setup r.lower r.upper r.detectors (codes.get (sourceChan r.setup))).2 = true → s.seq.cap = .armed →
        s.seq.holdoff = none →
        r1.trigger = some ⟨r.bin, s.seq.time, false⟩ ∧
        u.seq = { s.seq with
          cap := .postfill
          auto := none
          holdoff := if 0 < r.armed.holdoff then some (r.armed.holdoff.toNat * 10) else none
          current := some r1 } ∧
        u = (s.withSeq u.seq).withRouter u.router ∧ u.router = { s.router with lit := u.router.lit }) ∧
      ((detect r.setup r.lower r.upper r.detectors (codes.get (sourceChan r.setup))).2 = false ∨ s.seq.cap ≠ .armed ∨
          s.seq.holdoff ≠ none →
        r1.trigger = r.trigger ∧ u = s.withSeq { s.seq with current := some r1 }) ∧
      takeInstant codes r s = (if (r.bins.get c0).count + 1 = 2 ^ r.plan.k then closeBin u else u)

/-- R99 to R101: what fires. A rising detector at level code L fires when it is primed and the code is at or above L, and is primed by a
code at or below L - H; a falling one the other way round; EITHER offers both. A window detector follows the zone of L to U, left
only beyond H, and fires on entry or on exit, never from UNKNOWN. -/
def Obligations.DetectorsFireOnEdgesAndZones : Prop :=
  ∀ (st : Setup) (lower upper : Nat) (d : Detectors) (code : Byte),
    let c : Int := code.toNat
    let h := st.get .trigHyst
    let fire := (detect st lower upper d code).2
    let after := (detect st lower upper d code).1
    1 ≤ h →
    (st.get .trigType = 0 → st.get .trigSlope = 0 → (fire = true ↔ (d.rise = true ∧ (lower : Int) ≤ c)) ∧
      (after.rise = true ↔ (c ≤ lower - h ∨ (d.rise = true ∧ c < lower))) ∧ after.fall = d.fall ∧ after.zone = d.zone) ∧
    (st.get .trigType = 0 → st.get .trigSlope = 1 → (fire = true ↔ (d.fall = true ∧ c ≤ lower)) ∧
      (after.fall = true ↔ ((lower : Int) + h ≤ c ∨ (d.fall = true ∧ (lower : Int) < c))) ∧ after.rise = d.rise ∧
      after.zone = d.zone) ∧
    (st.get .trigType = 0 → st.get .trigSlope = 2 →
      (fire = true ↔ ((d.rise = true ∧ (lower : Int) ≤ c) ∨ (d.fall = true ∧ c ≤ lower))) ∧
      (after.rise = true ↔ (c ≤ lower - h ∨ (d.rise = true ∧ c < lower))) ∧
      (after.fall = true ↔ ((lower : Int) + h ≤ c ∨ (d.fall = true ∧ (lower : Int) < c)))) ∧
    (st.get .trigType = 1 → lower ≤ upper →
      ((lower : Int) ≤ c → c ≤ upper → after.zone = .inside) ∧
      (c < lower - h ∨ (upper : Int) + h < c → after.zone = .outside) ∧
      ((lower - h ≤ c ∧ c < lower) ∨ ((upper : Int) < c ∧ c ≤ upper + h) → after.zone = d.zone) ∧
      (st.get .trigSlope = 3 → (fire = true ↔ (d.zone = .outside ∧ after.zone = .inside))) ∧
      (st.get .trigSlope = 4 → (fire = true ↔ (d.zone = .inside ∧ after.zone = .outside))))

/-- R73 to R76, R87 to R89, R92: a bin holds count, first, lowest, highest and sum of its codes, and its point is the first code in SAMPLE,
lowest and highest in PEAK, and in HIRES the mean in 1/256 of a code, low byte first (log 14). Closing bins give one point for every
enabled channel: in PREFILL and ARMED a candidate, the T latest kept, the T-th bin arming the segment with the live ARMING
settings; in POSTFILL the next stored point. -/
def Obligations.ClosingBinGivesPoints : Prop :=
  (∀ (codes : List Byte) (code : Byte) (b : Bin), (codes = [] ∧ b = emptyBin) ∨ gathered codes b →
    gathered (codes ++ [code]) (binAdd b code)) ∧
  (∀ (k : Nat) (b : Bin), binPoint 0 k b = [b.first] ∧ binPoint 1 k b = [b.low, b.high] ∧
    ∃ lo hi : Byte, binPoint 2 k b = [lo, hi] ∧ (b.sum ≤ 255 * 2 ^ k → k ≤ 32 →
      lo.toNat + 256 * hi.toNat = if k ≤ 8 then b.sum * 2 ^ (8 - k) else (b.sum + 2 ^ (k - 9)) / 2 ^ (k - 8))) ∧
  (∀ (r : Record) (s : State) (p : PointSet), s.seq.current = some r →
    (∀ c, p.get c = if r.setup.get (.chOn c) = 1 then binPoint (r.setup.get .acqMode) r.plan.k (r.bins.get c) else []) →
    ((s.seq.cap = .prefill ∧ r.bin + 1 ≠ r.plan.trigIndex) ∨ s.seq.cap = .armed → closeBin s = s.withSeq { s.seq with
      current := some (binClosed ((p :: r.before).take r.plan.trigIndex) r.after r) }) ∧
    (s.seq.cap = .prefill → r.bin + 1 = r.plan.trigIndex → ∃ r1,
      r1 = { binClosed ((p :: r.before).take r.plan.trigIndex) r.after r with
        armed := ⟨s.setup.live.get .trigMode, s.setup.live.get .trigAutotime, s.setup.live.get .trigHoldoff⟩ } ∧
      (s.seq.forcePending = false → (closeBin s).seq = { s.seq with
        cap := .armed
        auto := if s.setup.live.get .trigMode = 0 then some ((s.setup.live.get .trigAutotime).toNat * 1000000) else s.seq.auto
        current := some r1 }) ∧
      (s.seq.forcePending = true → (closeBin s).seq = { s.seq with
        cap := .postfill
        forcePending := false
        auto := none
        holdoff := if 0 < s.setup.live.get .trigHoldoff then some ((s.setup.live.get .trigHoldoff).toNat * 10) else s.seq.holdoff
        current := some { r1 with trigger := some ⟨r.plan.trigIndex, s.seq.time, true⟩ } }) ∧
      (closeBin s).store = s.store ∧ (closeBin s).setup = s.setup ∧ (closeBin s).links = s.links) ∧
    (∀ t, s.seq.cap = .postfill → r.trigger = some t → r.bin + 1 < t.bin + (r.plan.points - r.plan.trigIndex) →
      closeBin s = s.withSeq { s.seq with current := some (binClosed r.before (p :: r.after) r) }))

/-- R78, R89, R92, R93, R106, R114, R125: the bin that gives the last stored point completes the segment. Its points lie in acquisition
memory in stored order at the places of R78 (a HIRES point's bytes low first, log 14), and no other byte of it changes; the record's
header has one more entry (timestamp, trigger point held at 4,294,967,295, forced flag) and the clip marks. Then a pending stop closes the record and
stops the run; the next segment starts clean, with the level codes of R98, or the record completes, and RUNNING starts another record
where SINGLE stops; the record is counted for both links, with RECORDS on a link whose count has reached its pace. The offer of a
completed record is a selection (R141, R142), which the next record start may come before, between or after (their order is free,
log 5). -/
def Obligations.LastBinCompletesSegment : Prop :=
  ∀ (r : Record) (t0 : Trigger) (p : PointSet) (k : Nat) (h : Header) (s : State), s.seq.current = some r → s.seq.cap = .postfill →
    r.trigger = some t0 → t0.bin + (r.plan.points - r.plan.trigIndex) ≤ r.bin + 1 → atPeace s → s.store.held = false →
    (∀ c, p.get c = if r.setup.get (.chOn c) = 1 then binPoint (r.setup.get .acqMode) r.plan.k (r.bins.get c) else []) →
    s.store.slots[k]? = some (.filling h) → h.number = r.number → r.slot = k → numbersDistinct s →
    h.completed = r.completed →
    let h1 : Header := { h with
      segments := h.segments ++ [⟨t0.time, BitVec.ofNat 32 (min t0.bin 4294967295), t0.forced⟩]
      completed := h.completed + 1
      clip := perChan (fun c => h.clip.get c || r.marks.get c) }
    let t := closeBin s
    (memWf s.store.mem = true → regionFits k s.store.recordBytes r.setup r.segment r.plan.points = true →
      (∀ q ∈ r.before ++ p :: r.after, ∀ c, r.setup.get (.chOn c) = 1 →
        (q.get c).length = if r.setup.get .acqMode = 0 then 1 else 2) →
      r.before.length + r.after.length + 1 = r.plan.points →
      (∀ c, r.setup.get (.chOn c) = 1 → ∀ j q, (r.before.reverse ++ (p :: r.after).reverse)[j]? = some q → j < r.plan.points →
        memRead t.store.mem (pointAddress k s.store.recordBytes r.setup c r.segment j)
          (if r.setup.get .acqMode = 0 then 1 else 2) = q.get c) ∧
      ∀ a : Nat, (∀ c j b, r.setup.get (.chOn c) = 1 → j < r.plan.points → b < (if r.setup.get .acqMode = 0 then 1 else 2) →
          a ≠ pointAddress k s.store.recordBytes r.setup c r.segment j + b) →
        memGet t.store.mem a = memGet s.store.mem a) ∧
    (s.seq.stopPending = false → r.segment + 1 < r.plan.segments →
      t.store.slots = s.store.slots.set k (.filling h1) ∧
      ∃ r1, t.seq.current = some r1 ∧ r1.segment = r.segment + 1 ∧ r1.completed = r.completed + 1 ∧ segmentBegun r1 ∧
        r1.slot = r.slot ∧ r1.number = r.number ∧ r1.gen = r.gen ∧ r1.setup = r.setup ∧ r1.plan = r.plan ∧
        (r.plan.trigIndex ≠ 0 → t.seq.cap = .prefill ∧ r1.trigger = none) ∧
        (r.plan.trigIndex = 0 → s.seq.forcePending = false → t.seq.cap = .armed ∧ r1.trigger = none)) ∧
    (s.seq.stopPending = true ∨ r.plan.segments ≤ r.segment + 1 →
      (s.seq.stopPending = true ∨ s.seq.run ≠ .running →
        (s.raster.chosen = none → drawnAs
          (selectDraw (withSlots (s.store.slots.set k (slotAfterClose (r.completed + 1) s.store.sub h1)) s)) t) ∧
        t.store.slots.map drawnAside =
          (s.store.slots.set k (slotAfterClose (r.completed + 1) s.store.sub h1)).map drawnAside ∧
        t.seq.run = .stopped ∧ t.seq.cap = .idle ∧ t.seq.current = none) ∧
      (s.seq.stopPending = false → s.seq.run = .running →
        (s.raster.chosen = none → ∀ u, u = withSlots (s.store.slots.set k (slotAfterClose (r.completed + 1) s.store.sub h1)) s →
          drawnAs (requestSlot (selectDraw u)) t ∨ drawnAs (settleDraw (requestSlot (askDraw u))) t ∨
            drawnAs (selectDraw (requestSlot u)) t) ∧
        t.seq.run = .running ∧ ((t.store.held = true ∧ t.seq.cap = .waitSlot) ∨
          ∃ r1, t.seq.current = some r1 ∧ r1.number = s.store.next ∧ r1.segment = 0 ∧ r1.completed = 0)) ∧
      closeCounted (r.completed + 1) s t)

/-! ### Drawing -/

/-- R135 to R139, R144, R145: a span pass adds one hit, held at 255, to the cells of its channel's plane that lie in its spans, after
clearing that plane in the first pass of a FIRST draw under persistence OFF; no other plane changes. The draw goes on to the next
channel of the segment or the lowest of the next segment; after its last pass, here with no slot request held for the end of the draw
to judge again, the record is DRAWN, the engine is IDLE, and a selection follows. -/
def Obligations.SpanPassAddsHits : Prop :=
  ∀ (d : Draw) (k : Nat) (h : Header) (s : State), s.raster.engine = .rendering →
    s.raster.draw = some d → findComplete s.store.slots d.number = some (k, h) →
    regionFits k s.store.recordBytes d.header.setup d.segment d.header.points = true →
    memWf (s.raster.planes.get d.chan) = true →
    ∃ plane, memWf plane = true ∧
      (∀ x y : Nat, x < 700 → y < 400 →
        (memGet plane (y * 700 + x)).toNat =
          brightened (inSpan (hitRows (d.view.vectors == 1) (mappedPoints s.store.mem k s.store.recordBytes
            d.header d.view d.chan d.segment) x) y)
            (if d.kind = .first ∧ d.view.persist = 0 ∧ d.segment = 0 then 0#8
              else memGet (s.raster.planes.get d.chan) (y * 700 + x))) ∧
      (∀ seg c, followsPass d seg c → exec .spanPass s = .next (s.withRaster { s.raster with
        planes := s.raster.planes.set d.chan plane, draw := some { d with segment := seg, chan := c } })) ∧
      (lastPass d → s.store.held = false → exec .spanPass s = .next (selectDraw ((s.withStore { s.store with
        slots := s.store.slots.map (fun sl => match sl with
          | .complete x => if x.number = d.number then .complete { x with drawn := .drawn, prior := .drawn } else sl
          | x => x) }).withRaster { s.raster with
        engine := .idle, draw := none, planes := s.raster.planes.set d.chan plane })))

/-- R132, R133: the points of a span pass, in stored order. A point's column and its row or rows are the floors of those rules, with the
scale and offset of the record and of the view, the view's inversion, the two timebases and the pan point; a PEAK point has two
rows and their mean as anchor row (R136), another point one (a HIRES point's bytes low first, log 14). -/
def Obligations.PointsMapToRowsAndColumns : Prop :=
  ∀ (mem : Memory) (k recordBytes : Nat) (h : Header) (v : View) (c : Chan) (segment : Nat),
    (mappedPoints mem k recordBytes h v c segment).length = h.points ∧
    ∀ i < h.points, ∃ p, (mappedPoints mem k recordBytes h v c segment)[i]? = some p ∧
      mappedAt h.setup v c h.points i (memRead mem (pointAddress k recordBytes h.setup c segment i)
        (if h.setup.get .acqMode = 0 then 1 else 2)) p

/-- R135 to R138: the rows hit in a column. With DISP.VECTORS 0 they are those of the span from the lowest to the highest row of the
points that map to the column, clipped to 0..399; with 1 a column between two points gets the interpolated row, and each span is
joined to its left neighbour's before it is clipped. -/
def Obligations.SpansFollowPoints : Prop :=
  ∀ (pts : List Mapped) (x : Nat), x < 700 → (∀ p ∈ pts, p.lo ≤ p.hi) →
    (∃ sp, spanOne pts x sp ∧ clipped sp (hitRows false pts x)) ∧
    (∃ sp, spanJoined pts x sp ∧ clipped sp (hitRows true pts x))

/-- R115, R134, R142 to R144, R146: a selection, with no record named before it. It does nothing unless the engine is IDLE. A pending
redraw is cleared with the planes and begins a REDRAW of the newest COMPLETE record; else a FIRST draw of the oldest UNDRAWN record
newer than the mark begins, under persistence OFF with the planes of the channels that it lacks cleared. A record more than nine
indexes out of view becomes SKIPPED_VIEW and the selection is made again, with no slot request held. A draw start that finds its
record gone is refused, and the selection is made again. -/
def Obligations.SelectionBeginsDraw : Prop :=
  ∀ s : State, numbersDistinct s →
    (s.raster.chosen = none → s.raster.engine ≠ .idle → selectDraw s = s) ∧
    (s.raster.chosen = none → s.raster.engine = .idle → s.raster.redraw = true →
      ((∀ sl ∈ s.store.slots, ∀ h, sl ≠ .complete h) →
        selectDraw s = s.withRaster { s.raster with redraw := false, planes := ⟨[], [], [], []⟩ }) ∧
      (∀ k h, newestOf k h s.store.slots → enabledChans h.setup ≠ [] →
        (inView h s → drawBegun .redraw k h ⟨[], [], [], []⟩ s (selectDraw s)) ∧
        (¬ inView h s → s.store.held = false → selectDraw s = selectDraw ((s.withStore { s.store with
          slots := s.store.slots.set k (.complete { h with drawn := .skippedView, prior := .skippedView }) }).withRaster
            { s.raster with redraw := false, planes := ⟨[], [], [], []⟩, mark := some h.number, draw := none })))) ∧
    (s.raster.chosen = none → s.raster.engine = .idle → s.raster.redraw = false →
      ((∀ h, Slot.complete h ∈ s.store.slots → ¬ toDraw s h) → selectDraw s = s) ∧
      (∀ k h, oldestOf (toDraw s) k h s.store.slots → enabledChans h.setup ≠ [] →
        (inView h s → drawBegun .first k h (if s.setup.live.get .dispPersist = 0 then
            perChan (fun c => if h.setup.get (.chOn c) = 1 then s.raster.planes.get c else []) else s.raster.planes)
          s (selectDraw s)) ∧
        (¬ inView h s → s.store.held = false → selectDraw s = selectDraw ((s.withStore { s.store with
          slots := s.store.slots.set k (.complete { h with drawn := .skippedView, prior := .skippedView }) }).withRaster
            { s.raster with mark := some h.number, draw := none })))) ∧
    (∀ kind number, s.raster.chosen = some (kind, number) → s.raster.engine = .idle →
      (∀ h, Slot.complete h ∈ s.store.slots → h.number ≠ number) →
      settleDraw s = selectDraw (s.withRaster { s.raster with chosen := none }))

/-! ### The display -/

/-- R151, R152, R157, R158: a frame event raises the frame count, restarts the timer for the next of the three intervals, lowers every
nonzero cell by max(1, v / 2^p) for DISP.PERSIST p of 1 to 7, and in LOCKED sends the composed frame. A transmission that has not
completed does so before it, raising the sent count (log 35). -/
def Obligations.FrameEventDecaysPlanes : Prop :=
  ∀ s : State, s.disp.frameTimer ≠ none →
    ∃ t, exec .frameEvent s = .next t ∧
      (s.disp.framePhase = 0 → t.disp.framePhase = 1 ∧ t.disp.frameTimer = some 16666667) ∧
      (s.disp.framePhase = 1 → t.disp.framePhase = 2 ∧ t.disp.frameTimer = some 16666666) ∧
      (s.disp.framePhase = 2 → t.disp.framePhase = 0 ∧ t.disp.frameTimer = some 16666667) ∧
      t.disp = { s.disp with
        frames := s.disp.frames + 1#32
        framePhase := t.disp.framePhase
        frameTimer := t.disp.frameTimer
        sent := if s.disp.sending = none then s.disp.sent else s.disp.sent + 1#32
        sending := if s.disp.link = .locked then some ⟨t.raster.planes, s.disp.overlay, s.disp.palette,
          s.setup.live.get .dispGrade, s.setup.live.get .dispGrid⟩ else none } ∧
      t.raster = { s.raster with planes := t.raster.planes } ∧
      (∀ c a, memWf (s.raster.planes.get c) = true →
        1 ≤ s.setup.live.get .dispPersist → s.setup.live.get .dispPersist ≤ 7 →
        (memGet (t.raster.planes.get c) a).toNat =
          if memGet (s.raster.planes.get c) a = 0#8 then 0
          else (memGet (s.raster.planes.get c) a).toNat -
            max 1 ((memGet (s.raster.planes.get c) a).toNat / 2 ^ (s.setup.live.get .dispPersist).toNat)) ∧
      (s.setup.live.get .dispPersist < 1 ∨ 7 < s.setup.live.get .dispPersist → t.raster = s.raster) ∧
      t = (s.withDisp t.disp).withRaster t.raster

/-- R153 to R156, R158: the pixels of a composed frame. The lowest-numbered channel with hits at a cell of the waveform area shows its
ramp at level min(255, v g / 16), else the graticule its grey, else black; an overlay index other than 0 shows its palette colour,
the remote layer over the console one. The display link carries rows Y 0 to 479, each from X 0 to 799, red, green and blue. -/
def Obligations.FramePixelsAreComposed : Prop :=
  ∀ f : Frame, 1 ≤ f.grade → f.grade ≤ 64 →
    (∀ x y : Nat, x < 800 → y < 480 → ∀ remote console : Nat, remote = (memGet f.overlay.remote (y * 800 + x)).toNat →
      console = (memGet f.overlay.console (y * 800 + x)).toNat →
      (∀ i : Fin 255, remote = i.val + 1 → framePixel f x y = f.palette[i]) ∧
      (remote = 0 → ∀ i : Fin 255, console = i.val + 1 → framePixel f x y = f.palette[i]) ∧
      (remote = 0 → console = 0 →
        (x < 50 ∨ 749 < x ∨ y < 40 ∨ 439 < y → framePixel f x y = ⟨0#8, 0#8, 0#8⟩) ∧
        (∀ cx cy : Nat, x = 50 + cx → cx < 700 → y + cy = 439 → cy < 400 →
          (∀ c v, v = (memGet (f.planes.get c) (cy * 700 + cx)).toNat → v ≠ 0 →
            (∀ e, chanNumber e < chanNumber c → memGet (f.planes.get e) (cy * 700 + cx) = 0#8) →
            ∀ b : Nat × Nat × Nat, ((c = .ch1 ∧ b = (255, 224, 0)) ∨ (c = .ch2 ∧ b = (0, 224, 255)) ∨
                (c = .ch3 ∧ b = (255, 64, 255)) ∨ (c = .ch4 ∧ b = (64, 255, 64))) →
              (framePixel f x y).red.toNat = b.1 * (min 255 (v * f.grade.toNat / 16) + 32) / 287 ∧
              (framePixel f x y).green.toNat = b.2.1 * (min 255 (v * f.grade.toNat / 16) + 32) / 287 ∧
              (framePixel f x y).blue.toNat = b.2.2 * (min 255 (v * f.grade.toNat / 16) + 32) / 287) ∧
          ((∀ e, memGet (f.planes.get e) (cy * 700 + cx) = 0#8) →
            ((f.grid = 0 ∧ (cx % 70 = 0 ∨ cx = 699 ∨ cy % 50 = 0 ∨ cy = 399)) ∨ (f.grid = 1 ∧ (cx = 350 ∨ cy = 200)) →
              framePixel f x y = ⟨80#8, 80#8, 80#8⟩) ∧
            ((f.grid = 0 ∧ cx % 70 ≠ 0 ∧ cx ≠ 699 ∧ cy % 50 ≠ 0 ∧ cy ≠ 399) ∨ (f.grid = 1 ∧ cx ≠ 350 ∧ cy ≠ 200) ∨
                f.grid = 2 → framePixel f x y = ⟨0#8, 0#8, 0#8⟩))))) ∧
    (carriedFrame f).length = 480 * 800 * 3 ∧
    (∀ x y : Nat, x < 800 → y < 480 → ((carriedFrame f).drop ((y * 800 + x) * 3)).take 3 =
      [(framePixel f x y).red, (framePixel f x y).green, (framePixel f x y).blue])

/-- R158, R162, R163: the completion of a transmission raises the sent count. Panel-present rising in ABSENT goes to TRAINING, or to
LOCKED when the lock line is high, and falling goes to ABSENT; the lock line takes TRAINING to LOCKED and back. A departure from
LOCKED ends the transmission. Each entry into and departure from LOCKED sets DISPLAY on both links, and no other move does. -/
def Obligations.DisplayLinesMoveLink : Prop :=
  ∀ s : State,
    (∀ f, s.disp.sending = some f → exec .transmissionComplete s =
      .next (s.withDisp { s.disp with sent := s.disp.sent + 1#32, sending := none })) ∧
    (s.power.phase = .up → s.power.state ≠ .standby →
      (s.disp.present = false → s.disp.link = .absent → s.disp.lock = false →
        exec (.panelPresentChange true) s =
          .next (s.withDisp { s.disp with present := true, link := .training, sending := none })) ∧
      (s.disp.present = true → s.disp.link = .training →
        exec (.panelPresentChange false) s =
          .next (s.withDisp { s.disp with present := false, link := .absent, sending := none })) ∧
      (∀ (i : Instr) (d : Composer),
        ((s.disp.present = false ∧ s.disp.link = .absent ∧ s.disp.lock = true ∧ i = .panelPresentChange true ∧
            d = { s.disp with present := true, link := .locked }) ∨
          (s.disp.lock = false ∧ s.disp.link = .training ∧ i = .lockChange true ∧
            d = { s.disp with lock := true, link := .locked }) ∨
          (s.disp.present = true ∧ s.disp.link = .locked ∧ i = .panelPresentChange false ∧
            d = { s.disp with present := false, link := .absent, sending := none }) ∨
          (s.disp.lock = true ∧ s.disp.link = .locked ∧ i = .lockChange false ∧
            d = { s.disp with lock := false, link := .training, sending := none })) →
        ∃ t, exec i s = .next t ∧ t = (s.withDisp d).withLinks t.links ∧
          ∀ l, t.links.get l = { s.links.get l with notices := (s.links.get l).notices ||| noticeMask .display }))

/-! ### EEPROM and start-up -/

/-- R167, R168, R177, R179, R180: the EEPROM access in hand, by slot n and phase: a read of bytes 256 n to 256 n + 191, or a write of page
j at 256 n + 32 j of the 32 bytes of an image's page, FFh throughout for an erase. Its limit is 20 ms. When that runs out, a page write
that polls ends in a fault; else, whether the device has acknowledged in time being free (log 20), the access ends in a fault or goes
on: a read without limit, a page write, its bytes sent, polling for another 20 ms. -/
def Obligations.EepromAccessAndItsLimit : Prop :=
  ∀ s : State,
    (∀ n, s.saved.scanSlot = some n → accessInHand s.saved = some (.read (n.val * 256) 192)) ∧
    (s.saved.scanSlot = none → (s.saved.op = none → accessInHand s.saved = none) ∧
      (∀ op, s.saved.op = some op →
        (op.phase = .resolving ∨ op.phase = .reading →
          accessInHand s.saved = some (.read (op.req.slot.val * 256) 192)) ∧
        (∀ img g j, op.phase = .writing img g j → j < 6 → ∃ bytes,
          accessInHand s.saved = some (.write (op.req.slot.val * 256 + 32 * j) bytes) ∧ bytes.length = 32 ∧
            ∀ i < 32, bytes[i]? = some (imageByte img (32 * j + i))) ∧
        (op.phase = .erasing →
          accessInHand s.saved = some (.write (op.req.slot.val * 256) (List.replicate 32 0xFF#8))) ∧
        (∀ img, op.phase = .locking img → ∃ bytes,
          accessInHand s.saved = some (.write (op.req.slot.val * 256) bytes) ∧ bytes.length = 32 ∧
            ∀ i < 32, bytes[i]? = some (imageByte img i)))) ∧
    (s.saved.limit ≠ none →
      (s.saved.polling = true → accessLimit s = exec .eepromAccessFault s) ∧
      (s.saved.polling = false →
        (s.races.head % 2 = 0 → accessLimit s = exec .eepromAccessFault (s.withRaces s.races.tail)) ∧
        (s.races.head % 2 = 1 →
          ((∃ a b, accessInHand s.saved = some (.write a b)) → accessLimit s = .next ((s.withRaces s.races.tail).withSaved
            { s.saved with limit := some 20000000, polling := true })) ∧
          ((∀ a b, accessInHand s.saved ≠ some (.write a b)) → accessLimit s = .next ((s.withRaces s.races.tail).withSaved
            { s.saved with limit := none })))))

/-- R176, R178, R180, R182, R183, R192, R193: the read of an operation in flight ends, nothing queued behind it. A recall or a lock of
an EMPTY or CORRUPT image ends with SLOT_EMPTY or SLOT_CORRUPT, the entry taking that class; a lock of a VALID image that is as asked
ends with DONE, another writes the new header page with 20 ms. After the read that resolves an UNREAD entry the request is judged
against the class read (R176): a save or an erase of a locked slot ends with SLOT_LOCKED, else it begins its write, a save and an
autosave (R177, R185) of the live setup as it then stands; a recall or a lock of an EMPTY slot ends with SLOT_EMPTY, a lock that is as
asked with DONE, another reads the slot. A VALID recall commits the image's values (R22): a refused or unchanged commit ends with its status, another is
installed. A held request is answered; a deferred one gets its result; a cancel mark changes the status; after a reset it is
dropped. That a recall that ends INVALID or CONSTRAINT carries no payload, and a status that a mark has changed its own, is log 23. -/
def Obligations.EepromReadsEnd : Prop :=
  ∀ (op : Op) (img : Image) (s : State), aloneInFlight op s →
    ∃ t, exec (.eepromReadComplete img) s = .next t ∧
      (op.phase = .reading → op.req.kind = .recall ∨ (∃ on, op.req.kind = .lock on) →
        (classify img = .empty → endedWith op .empty .slotEmpty .nothing s t) ∧
        (classify img = .corrupt → endedWith op .corrupt .slotCorrupt .nothing s t)) ∧
      (∀ on lb k sb g, op.phase = .reading → op.req.kind = .lock on → classify img = .valid lb k sb g →
        (k = on → endedWith op (.valid lb k sb g) .done .nothing s t) ∧
        (k ≠ on → t = s.withSaved { s.saved with
          op := some { op with phase := .locking (lockImage img on) }
          directory := s.saved.directory.set op.req.slot .corrupt
          limit := some 20000000
          polling := false })) ∧
      (op.phase = .resolving → op.req.kind = .erase →
        (∀ lb sb g, classify img = .valid lb true sb g → endedWith op (.valid lb true sb g) .slotLocked .nothing s t) ∧
        ((∀ lb sb g, classify img ≠ .valid lb true sb g) → t = s.withSaved { s.saved with
          op := some { op with phase := .erasing }
          directory := s.saved.directory.set op.req.slot .corrupt
          limit := some 20000000
          polling := false })) ∧
      (op.phase = .resolving → ∀ source label,
        (op.req.kind = .save label ∧ source = op.req.source ∧ (∀ lb sb g, classify img ≠ .valid lb true sb g)) ∨
          (op.req.kind = .autosave ∧ source = none ∧ label = lastLabel) →
        t = s.withSaved { s.saved with
          op := some { op with phase := .writing (snapshotImage source label s.setup) s.setup.gen 0 }
          directory := s.saved.directory.set op.req.slot .corrupt
          limit := some 20000000
          polling := false }) ∧
      (op.phase = .resolving → ∀ label lb sb g, op.req.kind = .save label → classify img = .valid lb true sb g →
        endedWith op (.valid lb true sb g) .slotLocked .nothing s t) ∧
      (op.phase = .resolving → op.req.kind = .recall ∨ (∃ on, op.req.kind = .lock on) →
        (classify img = .empty → endedWith op .empty .slotEmpty .nothing s t) ∧
        (∀ on lb sb g, op.req.kind = .lock on → classify img = .valid lb on sb g →
          endedWith op (.valid lb on sb g) .done .nothing s t) ∧
        (classify img ≠ .empty → (∀ on lb sb g, op.req.kind = .lock on → classify img ≠ .valid lb on sb g) →
          t = s.withSaved { s.saved with
            op := some { op with phase := .reading }
            directory := s.saved.directory.set op.req.slot (classify img)
            limit := some 20000000
            polling := false })) ∧
      (∀ e lb k sb g, op.phase = .reading → op.req.kind = .recall → e = .valid lb k sb g → classify img = e → atPeace s →
        let req := allFields.map (fun f => (f, (imageSetup img).get f))
        ((∃ f, judge s.setup.live (timebaseWindow s) req = .invalid f) → endedWith op e .invalid .nothing s t) ∧
        (judge s.setup.live (timebaseWindow s) req = .constraint → endedWith op e .constraint .nothing s t) ∧
        (∀ st, judge s.setup.live (timebaseWindow s) req = .candidate st →
          (st = s.setup.live → endedWith op e .unchanged
            (.installed s.setup.gen (decide (∃ p ∈ req, st.get p.1 ≠ p.2))) s t) ∧
          (st ≠ s.setup.live → ∃ told u, linksKept s u ∧ t = u.withLinks t.links ∧
            (∀ l, op.req.source = some l → op.dropped = false → told = [otherLink l]) ∧
            (op.dropped = true → told = [.console, .remote]) ∧
            installed told st (s.withSaved (storeDone op e s.saved)) t ∧
            finalHanded op .applied
              (.installed (s.setup.gen + 1#32) (decide (∃ p ∈ req, st.get p.1 ≠ p.2))) u t)))

/-- R168, R172, R177, R179, R180, R185: the end of a page write, and a fault of any access, of an operation in flight with nothing queued
behind it. A save goes on to its next page, with 20 ms; its sixth makes the entry VALID and ends with DONE; an autosave's sets the
slot-0 saved generation; an erase leaves EMPTY and a lock VALID. A fault ends the operation with STORE_FAULT, a save's with the pages
written, the entry as it stood, and an autosave's zeroes the slot-0 saved generation. The final status reaches its link as in R182,
R183 and R193; that one changed by a cancel mark keeps its payload is log 23. -/
def Obligations.EepromWritesAndFaultsEnd : Prop :=
  ∀ (op : Op) (s : State), aloneInFlight op s →
    (∃ t, exec .pageWriteComplete s = .next t ∧
      (∀ img g page, op.phase = .writing img g page → page < 5 → t = s.withSaved { s.saved with
        op := some { op with phase := .writing img g (page + 1) }, limit := some 20000000, polling := false }) ∧
      (∀ img g label, op.phase = .writing img g 5 → op.req.kind = .save label →
        endedWith op (classify img) .done (.saved op.req.slot g) s t) ∧
      (∀ img g, op.phase = .writing img g 5 → op.req.kind = .autosave → op.req.source = none →
        t = s.withSaved { storeDone op (classify img) s.saved with slot0Gen := g }) ∧
      (op.phase = .erasing → endedWith op .empty .done .nothing s t) ∧
      (∀ img, op.phase = .locking img → endedWith op (classify img) .done .nothing s t)) ∧
    (∃ t, exec .eepromAccessFault s = .next t ∧
      (op.phase = .resolving ∨ op.phase = .reading ∨ op.phase = .erasing ∨ (∃ img, op.phase = .locking img) →
        endedWith op s.saved.directory[op.req.slot] .storeFault .nothing s t) ∧
      (∀ img g page label, op.phase = .writing img g page → op.req.kind = .save label →
        endedWith op s.saved.directory[op.req.slot] .storeFault (.pages page) s t) ∧
      (∀ img g page, op.phase = .writing img g page → op.req.kind = .autosave → op.req.source = none →
        t = s.withSaved { storeDone op s.saved.directory[op.req.slot] s.saved with slot0Gen := 0#32 }))

/-- R173, R209, R210: POWER_ON, in every state and with the waiting commands kept (log 33), begins start-up with the straps' device
address and every block at its start-up value; each read of the scan classifies its slot; R28: the end of the scan installs slot 0's
values with VIEW.PAN 500 as a commit would, or the factory values, as generation 1, with the slot-0 saved generation 1 or 0, frees
every slot, opens the links and starts the run with a record, and the scanner takes the levels on its lines (R33); a fault of the first read makes the controller ABSENT, and of a later
one leaves its entry UNREAD. -/
def Obligations.StartUpScansAndStarts : Prop :=
  ∀ (straps : BitVec 2) (s : State),
    (∃ t, exec (.powerOn straps) s = .next t ∧ t.power = ⟨.active, true, .starting, false, false, false, none⟩ ∧
      t.saved.device.toNat = 0x50 + straps.toNat ∧ t.saved.ctrl = .scanning ∧ t.saved.scanSlot = some 0 ∧
      t.saved.limit = some 20000000 ∧ t.saved.queue = [] ∧ t.saved.op = none ∧ t.saved.scanSetup = none ∧
      t.saved.cancelled = false ∧ (∀ n : Fin 12, t.saved.directory[n] = .unread) ∧ t.panel.ms = 0#32 ∧
      (∀ l, t.queues.get l = ⟨[], .hold, 1, 20, none, 0#16⟩) ∧
      t.seq.run = .stopped ∧ t.seq.cap = .idle ∧ t.seq.time = 0#48 ∧ t.seq.holdoff = none ∧ t.seq.auto = none ∧
      t.seq.current = none ∧ t.seq.stopPending = false ∧ t.seq.forcePending = false ∧ t.seq.standbyStop = false ∧
      t.store.next = 1#32 ∧ t.store.held = false ∧ t.store.overwritten = 0#16 ∧
      (∀ l, t.store.pinsList.get l = [] ∧ t.store.sub.get l = false ∧ t.store.missed.get l = 0#16 ∧
        t.store.notice.get l = ⟨1, 0, none, 0#16⟩) ∧
      t.raster = ⟨.idle, none, none, false, none, ⟨[], [], [], []⟩⟩ ∧
      t.router.routes = factoryRoutes ∧ t.router.defaultAction = .toConsole ∧ t.router.leds = factoryLeds ∧
      t.router.lockedOut = 0#16 ∧ t.router.lockout = .localControl ∧ (∀ i : Fin 32, t.router.lit[i] = false) ∧
      t.disp.link = .absent ∧ t.disp.frameTimer = none ∧ t.disp.frames = 0#32 ∧ t.disp.sent = 0#32 ∧
      t.disp.sending = none ∧ t.disp.overlay = ⟨[], []⟩ ∧
      (∀ i : Fin 255, t.disp.palette[i] =
        ⟨BitVec.ofNat 8 (i.val + 1), BitVec.ofNat 8 (i.val + 1), BitVec.ofNat 8 (i.val + 1)⟩) ∧
      t.setup.outputs = none ∧ t.setup.quiet = none ∧ (∀ l, t.setup.batches.get l = none) ∧
      (∀ l, t.links.get l = ⟨false, (s.links.get l).resetLine, false, none, none, none, .hold, .empty, 0#7, 0#7⟩) ∧
      t.pending = s.pending) ∧
    (∀ (n : Fin 12) (img : Vector Byte 192), s.saved.scanSlot = some n → n.val < 11 →
      (∃ t, exec (.eepromReadComplete img) s = .next t ∧ t = s.withSaved t.saved ∧
        t.saved.directory = s.saved.directory.set n (classify img) ∧ t.saved.limit = some 20000000 ∧
        (t.saved.scanSlot.map Fin.val) = some (n.val + 1) ∧ t.saved.ctrl = s.saved.ctrl ∧
        t.saved.scanSetup = (if n.val = 0 ∧ ∃ p ∈ [classify img], p ≠ .empty ∧ p ≠ .corrupt then some (imageSetup img)
          else s.saved.scanSetup)) ∧
      (n.val ≠ 0 → ∃ t, exec .eepromAccessFault s = .next t ∧ t = s.withSaved t.saved ∧
        t.saved.directory = s.saved.directory ∧ (t.saved.scanSlot.map Fin.val) = some (n.val + 1) ∧
        t.saved.ctrl = s.saved.ctrl)) ∧
    (∀ (i : Instr) (ctrl : StoreState),
      (((s.saved.scanSlot.map Fin.val) = some 11 ∧ (∃ img, i = .eepromReadComplete img) ∧ ctrl = .idle) ∨
        ((s.saved.scanSlot.map Fin.val) = some 11 ∧ i = .eepromAccessFault ∧ ctrl = .idle) ∨
        ((s.saved.scanSlot.map Fin.val) = some 0 ∧ i = .eepromAccessFault ∧ ctrl = .absent)) →
      ∃ t, exec i s = .next t ∧ t.power.phase = .up ∧ t.saved.ctrl = ctrl ∧ t.saved.scanSlot = none ∧
        (∀ img, i = .eepromReadComplete img → t.saved.directory = s.saved.directory.set 11 (classify img)) ∧
        (i = .eepromAccessFault → t.saved.directory = s.saved.directory) ∧
        (∀ k : Fin 64, t.panel.keys[k] = { s.panel.keys[k] with settled := s.panel.keys[k].line, timer := none }) ∧
        (∀ e : Fin 12, t.panel.encs[e] = ⟨s.panel.encs[e].lineA, s.panel.encs[e].lineB, s.panel.encs[e].lineA,
          s.panel.encs[e].lineB, 0, s.panel.encs[e].lineA && s.panel.encs[e].lineB⟩) ∧ t.panel.ms = s.panel.ms ∧
        (∀ c, (∃ st, s.saved.scanSetup = some st ∧ judge s.setup.live none
            (allFields.map (fun f => (f, if f = .viewPan then 500 else st.get f))) = .candidate c) →
          t.setup.live = c ∧ t.saved.slot0Gen = 1#32) ∧
        ((∀ st c, s.saved.scanSetup = some st → judge s.setup.live none
            (allFields.map (fun f => (f, if f = .viewPan then 500 else st.get f))) ≠ .candidate c) →
          t.setup.live = factorySetup ∧ t.saved.slot0Gen = 0#32) ∧
        setupLegal t.setup.live = true ∧ t.setup.gen = 1#32 ∧ (∀ f, t.setup.changed[fieldIndex f] = 1#32) ∧
        t.setup.outputs = some (presentOutputs t.setup.live) ∧ t.setup.quiet = some 2000000000 ∧
        t.store.recordBytes = recordBytesOf t.setup.live ∧
        t.store.slots.length = min 16 (67108864 / t.store.recordBytes) ∧ t.seq.run = .running ∧
        (∃ h, t.store.slots[0]? = some (.filling h) ∧ h.number = s.store.next ∧ h.gen = 1#32 ∧
          ∀ n sl, 0 < n → t.store.slots[n]? = some sl → sl = .free) ∧
        t.disp.frameTimer = some 16666667 ∧
        t.disp.link = (if s.disp.present = true then (if s.disp.lock = true then .locked else .training) else .absent) ∧
        (∀ j : Fin 32, t.router.lit[j] = ledLevel t.router.leds[j] t) ∧
        (∀ l, t.links.get l = { s.links.get l with opened := true, ready := !(s.links.get l).resetLine }))
end

