-- ==== Sys2Proof/Laws/State.lean ====
section
/-! SUPPORT. What replacing one block of the state leaves of each block, and reading what was written per link and per
channel. -/

namespace Sys2Proof.Machine

@[simp] theorem State.withSetup_setup (s : State) (x : SetupBlock) : (s.withSetup x).setup = x := rfl
@[simp] theorem State.withSetup_panel (s : State) (x : SetupBlock) : (s.withSetup x).panel = s.panel := rfl
@[simp] theorem State.withSetup_router (s : State) (x : SetupBlock) : (s.withSetup x).router = s.router := rfl
@[simp] theorem State.withSetup_queues (s : State) (x : SetupBlock) : (s.withSetup x).queues = s.queues := rfl
@[simp] theorem State.withSetup_seq (s : State) (x : SetupBlock) : (s.withSetup x).seq = s.seq := rfl
@[simp] theorem State.withSetup_store (s : State) (x : SetupBlock) : (s.withSetup x).store = s.store := rfl
@[simp] theorem State.withSetup_raster (s : State) (x : SetupBlock) : (s.withSetup x).raster = s.raster := rfl
@[simp] theorem State.withSetup_disp (s : State) (x : SetupBlock) : (s.withSetup x).disp = s.disp := rfl
@[simp] theorem State.withSetup_saved (s : State) (x : SetupBlock) : (s.withSetup x).saved = s.saved := rfl
@[simp] theorem State.withSetup_links (s : State) (x : SetupBlock) : (s.withSetup x).links = s.links := rfl
@[simp] theorem State.withSetup_power (s : State) (x : SetupBlock) : (s.withSetup x).power = s.power := rfl
@[simp] theorem State.withSetup_subMs (s : State) (x : SetupBlock) : (s.withSetup x).subMs = s.subMs := rfl
@[simp] theorem State.withSetup_races (s : State) (x : SetupBlock) : (s.withSetup x).races = s.races := rfl
@[simp] theorem State.withSetup_pending (s : State) (x : SetupBlock) : (s.withSetup x).pending = s.pending := rfl
@[simp] theorem State.withSetup_self (s : State) : s.withSetup s.setup = s := rfl
@[simp] theorem State.withSetup_withSetup (s : State) (x y : SetupBlock) : (s.withSetup x).withSetup y = s.withSetup y := rfl

@[simp] theorem State.withPanel_setup (s : State) (x : PanelScanner) : (s.withPanel x).setup = s.setup := rfl
@[simp] theorem State.withPanel_panel (s : State) (x : PanelScanner) : (s.withPanel x).panel = x := rfl
@[simp] theorem State.withPanel_router (s : State) (x : PanelScanner) : (s.withPanel x).router = s.router := rfl
@[simp] theorem State.withPanel_queues (s : State) (x : PanelScanner) : (s.withPanel x).queues = s.queues := rfl
@[simp] theorem State.withPanel_seq (s : State) (x : PanelScanner) : (s.withPanel x).seq = s.seq := rfl
@[simp] theorem State.withPanel_store (s : State) (x : PanelScanner) : (s.withPanel x).store = s.store := rfl
@[simp] theorem State.withPanel_raster (s : State) (x : PanelScanner) : (s.withPanel x).raster = s.raster := rfl
@[simp] theorem State.withPanel_disp (s : State) (x : PanelScanner) : (s.withPanel x).disp = s.disp := rfl
@[simp] theorem State.withPanel_saved (s : State) (x : PanelScanner) : (s.withPanel x).saved = s.saved := rfl
@[simp] theorem State.withPanel_links (s : State) (x : PanelScanner) : (s.withPanel x).links = s.links := rfl
@[simp] theorem State.withPanel_power (s : State) (x : PanelScanner) : (s.withPanel x).power = s.power := rfl
@[simp] theorem State.withPanel_subMs (s : State) (x : PanelScanner) : (s.withPanel x).subMs = s.subMs := rfl
@[simp] theorem State.withPanel_races (s : State) (x : PanelScanner) : (s.withPanel x).races = s.races := rfl
@[simp] theorem State.withPanel_pending (s : State) (x : PanelScanner) : (s.withPanel x).pending = s.pending := rfl
@[simp] theorem State.withPanel_self (s : State) : s.withPanel s.panel = s := rfl
@[simp] theorem State.withPanel_withPanel (s : State) (x y : PanelScanner) : (s.withPanel x).withPanel y = s.withPanel y := rfl

@[simp] theorem State.withRouter_setup (s : State) (x : Router) : (s.withRouter x).setup = s.setup := rfl
@[simp] theorem State.withRouter_panel (s : State) (x : Router) : (s.withRouter x).panel = s.panel := rfl
@[simp] theorem State.withRouter_router (s : State) (x : Router) : (s.withRouter x).router = x := rfl
@[simp] theorem State.withRouter_queues (s : State) (x : Router) : (s.withRouter x).queues = s.queues := rfl
@[simp] theorem State.withRouter_seq (s : State) (x : Router) : (s.withRouter x).seq = s.seq := rfl
@[simp] theorem State.withRouter_store (s : State) (x : Router) : (s.withRouter x).store = s.store := rfl
@[simp] theorem State.withRouter_raster (s : State) (x : Router) : (s.withRouter x).raster = s.raster := rfl
@[simp] theorem State.withRouter_disp (s : State) (x : Router) : (s.withRouter x).disp = s.disp := rfl
@[simp] theorem State.withRouter_saved (s : State) (x : Router) : (s.withRouter x).saved = s.saved := rfl
@[simp] theorem State.withRouter_links (s : State) (x : Router) : (s.withRouter x).links = s.links := rfl
@[simp] theorem State.withRouter_power (s : State) (x : Router) : (s.withRouter x).power = s.power := rfl
@[simp] theorem State.withRouter_subMs (s : State) (x : Router) : (s.withRouter x).subMs = s.subMs := rfl
@[simp] theorem State.withRouter_races (s : State) (x : Router) : (s.withRouter x).races = s.races := rfl
@[simp] theorem State.withRouter_pending (s : State) (x : Router) : (s.withRouter x).pending = s.pending := rfl
@[simp] theorem State.withRouter_self (s : State) : s.withRouter s.router = s := rfl
@[simp] theorem State.withRouter_withRouter (s : State) (x y : Router) : (s.withRouter x).withRouter y = s.withRouter y := rfl

@[simp] theorem State.withQueues_setup (s : State) (x : PerLink EventQueue) : (s.withQueues x).setup = s.setup := rfl
@[simp] theorem State.withQueues_panel (s : State) (x : PerLink EventQueue) : (s.withQueues x).panel = s.panel := rfl
@[simp] theorem State.withQueues_router (s : State) (x : PerLink EventQueue) : (s.withQueues x).router = s.router := rfl
@[simp] theorem State.withQueues_queues (s : State) (x : PerLink EventQueue) : (s.withQueues x).queues = x := rfl
@[simp] theorem State.withQueues_seq (s : State) (x : PerLink EventQueue) : (s.withQueues x).seq = s.seq := rfl
@[simp] theorem State.withQueues_store (s : State) (x : PerLink EventQueue) : (s.withQueues x).store = s.store := rfl
@[simp] theorem State.withQueues_raster (s : State) (x : PerLink EventQueue) : (s.withQueues x).raster = s.raster := rfl
@[simp] theorem State.withQueues_disp (s : State) (x : PerLink EventQueue) : (s.withQueues x).disp = s.disp := rfl
@[simp] theorem State.withQueues_saved (s : State) (x : PerLink EventQueue) : (s.withQueues x).saved = s.saved := rfl
@[simp] theorem State.withQueues_links (s : State) (x : PerLink EventQueue) : (s.withQueues x).links = s.links := rfl
@[simp] theorem State.withQueues_power (s : State) (x : PerLink EventQueue) : (s.withQueues x).power = s.power := rfl
@[simp] theorem State.withQueues_subMs (s : State) (x : PerLink EventQueue) : (s.withQueues x).subMs = s.subMs := rfl
@[simp] theorem State.withQueues_races (s : State) (x : PerLink EventQueue) : (s.withQueues x).races = s.races := rfl
@[simp] theorem State.withQueues_pending (s : State) (x : PerLink EventQueue) : (s.withQueues x).pending = s.pending := rfl
@[simp] theorem State.withQueues_self (s : State) : s.withQueues s.queues = s := rfl
@[simp] theorem State.withQueues_withQueues (s : State) (x y : PerLink EventQueue) : (s.withQueues x).withQueues y = s.withQueues y := rfl

@[simp] theorem State.withSeq_setup (s : State) (x : Sequencer) : (s.withSeq x).setup = s.setup := rfl
@[simp] theorem State.withSeq_panel (s : State) (x : Sequencer) : (s.withSeq x).panel = s.panel := rfl
@[simp] theorem State.withSeq_router (s : State) (x : Sequencer) : (s.withSeq x).router = s.router := rfl
@[simp] theorem State.withSeq_queues (s : State) (x : Sequencer) : (s.withSeq x).queues = s.queues := rfl
@[simp] theorem State.withSeq_seq (s : State) (x : Sequencer) : (s.withSeq x).seq = x := rfl
@[simp] theorem State.withSeq_store (s : State) (x : Sequencer) : (s.withSeq x).store = s.store := rfl
@[simp] theorem State.withSeq_raster (s : State) (x : Sequencer) : (s.withSeq x).raster = s.raster := rfl
@[simp] theorem State.withSeq_disp (s : State) (x : Sequencer) : (s.withSeq x).disp = s.disp := rfl
@[simp] theorem State.withSeq_saved (s : State) (x : Sequencer) : (s.withSeq x).saved = s.saved := rfl
@[simp] theorem State.withSeq_links (s : State) (x : Sequencer) : (s.withSeq x).links = s.links := rfl
@[simp] theorem State.withSeq_power (s : State) (x : Sequencer) : (s.withSeq x).power = s.power := rfl
@[simp] theorem State.withSeq_subMs (s : State) (x : Sequencer) : (s.withSeq x).subMs = s.subMs := rfl
@[simp] theorem State.withSeq_races (s : State) (x : Sequencer) : (s.withSeq x).races = s.races := rfl
@[simp] theorem State.withSeq_pending (s : State) (x : Sequencer) : (s.withSeq x).pending = s.pending := rfl
@[simp] theorem State.withSeq_self (s : State) : s.withSeq s.seq = s := rfl
@[simp] theorem State.withSeq_withSeq (s : State) (x y : Sequencer) : (s.withSeq x).withSeq y = s.withSeq y := rfl

@[simp] theorem State.withStore_setup (s : State) (x : RecordStore) : (s.withStore x).setup = s.setup := rfl
@[simp] theorem State.withStore_panel (s : State) (x : RecordStore) : (s.withStore x).panel = s.panel := rfl
@[simp] theorem State.withStore_router (s : State) (x : RecordStore) : (s.withStore x).router = s.router := rfl
@[simp] theorem State.withStore_queues (s : State) (x : RecordStore) : (s.withStore x).queues = s.queues := rfl
@[simp] theorem State.withStore_seq (s : State) (x : RecordStore) : (s.withStore x).seq = s.seq := rfl
@[simp] theorem State.withStore_store (s : State) (x : RecordStore) : (s.withStore x).store = x := rfl
@[simp] theorem State.withStore_raster (s : State) (x : RecordStore) : (s.withStore x).raster = s.raster := rfl
@[simp] theorem State.withStore_disp (s : State) (x : RecordStore) : (s.withStore x).disp = s.disp := rfl
@[simp] theorem State.withStore_saved (s : State) (x : RecordStore) : (s.withStore x).saved = s.saved := rfl
@[simp] theorem State.withStore_links (s : State) (x : RecordStore) : (s.withStore x).links = s.links := rfl
@[simp] theorem State.withStore_power (s : State) (x : RecordStore) : (s.withStore x).power = s.power := rfl
@[simp] theorem State.withStore_subMs (s : State) (x : RecordStore) : (s.withStore x).subMs = s.subMs := rfl
@[simp] theorem State.withStore_races (s : State) (x : RecordStore) : (s.withStore x).races = s.races := rfl
@[simp] theorem State.withStore_pending (s : State) (x : RecordStore) : (s.withStore x).pending = s.pending := rfl
@[simp] theorem State.withStore_self (s : State) : s.withStore s.store = s := rfl
@[simp] theorem State.withStore_withStore (s : State) (x y : RecordStore) : (s.withStore x).withStore y = s.withStore y := rfl

@[simp] theorem State.withRaster_setup (s : State) (x : RasterEngine) : (s.withRaster x).setup = s.setup := rfl
@[simp] theorem State.withRaster_panel (s : State) (x : RasterEngine) : (s.withRaster x).panel = s.panel := rfl
@[simp] theorem State.withRaster_router (s : State) (x : RasterEngine) : (s.withRaster x).router = s.router := rfl
@[simp] theorem State.withRaster_queues (s : State) (x : RasterEngine) : (s.withRaster x).queues = s.queues := rfl
@[simp] theorem State.withRaster_seq (s : State) (x : RasterEngine) : (s.withRaster x).seq = s.seq := rfl
@[simp] theorem State.withRaster_store (s : State) (x : RasterEngine) : (s.withRaster x).store = s.store := rfl
@[simp] theorem State.withRaster_raster (s : State) (x : RasterEngine) : (s.withRaster x).raster = x := rfl
@[simp] theorem State.withRaster_disp (s : State) (x : RasterEngine) : (s.withRaster x).disp = s.disp := rfl
@[simp] theorem State.withRaster_saved (s : State) (x : RasterEngine) : (s.withRaster x).saved = s.saved := rfl
@[simp] theorem State.withRaster_links (s : State) (x : RasterEngine) : (s.withRaster x).links = s.links := rfl
@[simp] theorem State.withRaster_power (s : State) (x : RasterEngine) : (s.withRaster x).power = s.power := rfl
@[simp] theorem State.withRaster_subMs (s : State) (x : RasterEngine) : (s.withRaster x).subMs = s.subMs := rfl
@[simp] theorem State.withRaster_races (s : State) (x : RasterEngine) : (s.withRaster x).races = s.races := rfl
@[simp] theorem State.withRaster_pending (s : State) (x : RasterEngine) : (s.withRaster x).pending = s.pending := rfl
@[simp] theorem State.withRaster_self (s : State) : s.withRaster s.raster = s := rfl
@[simp] theorem State.withRaster_withRaster (s : State) (x y : RasterEngine) : (s.withRaster x).withRaster y = s.withRaster y := rfl

@[simp] theorem State.withDisp_setup (s : State) (x : Composer) : (s.withDisp x).setup = s.setup := rfl
@[simp] theorem State.withDisp_panel (s : State) (x : Composer) : (s.withDisp x).panel = s.panel := rfl
@[simp] theorem State.withDisp_router (s : State) (x : Composer) : (s.withDisp x).router = s.router := rfl
@[simp] theorem State.withDisp_queues (s : State) (x : Composer) : (s.withDisp x).queues = s.queues := rfl
@[simp] theorem State.withDisp_seq (s : State) (x : Composer) : (s.withDisp x).seq = s.seq := rfl
@[simp] theorem State.withDisp_store (s : State) (x : Composer) : (s.withDisp x).store = s.store := rfl
@[simp] theorem State.withDisp_raster (s : State) (x : Composer) : (s.withDisp x).raster = s.raster := rfl
@[simp] theorem State.withDisp_disp (s : State) (x : Composer) : (s.withDisp x).disp = x := rfl
@[simp] theorem State.withDisp_saved (s : State) (x : Composer) : (s.withDisp x).saved = s.saved := rfl
@[simp] theorem State.withDisp_links (s : State) (x : Composer) : (s.withDisp x).links = s.links := rfl
@[simp] theorem State.withDisp_power (s : State) (x : Composer) : (s.withDisp x).power = s.power := rfl
@[simp] theorem State.withDisp_subMs (s : State) (x : Composer) : (s.withDisp x).subMs = s.subMs := rfl
@[simp] theorem State.withDisp_races (s : State) (x : Composer) : (s.withDisp x).races = s.races := rfl
@[simp] theorem State.withDisp_pending (s : State) (x : Composer) : (s.withDisp x).pending = s.pending := rfl
@[simp] theorem State.withDisp_self (s : State) : s.withDisp s.disp = s := rfl
@[simp] theorem State.withDisp_withDisp (s : State) (x y : Composer) : (s.withDisp x).withDisp y = s.withDisp y := rfl

@[simp] theorem State.withSaved_setup (s : State) (x : SavedStore) : (s.withSaved x).setup = s.setup := rfl
@[simp] theorem State.withSaved_panel (s : State) (x : SavedStore) : (s.withSaved x).panel = s.panel := rfl
@[simp] theorem State.withSaved_router (s : State) (x : SavedStore) : (s.withSaved x).router = s.router := rfl
@[simp] theorem State.withSaved_queues (s : State) (x : SavedStore) : (s.withSaved x).queues = s.queues := rfl
@[simp] theorem State.withSaved_seq (s : State) (x : SavedStore) : (s.withSaved x).seq = s.seq := rfl
@[simp] theorem State.withSaved_store (s : State) (x : SavedStore) : (s.withSaved x).store = s.store := rfl
@[simp] theorem State.withSaved_raster (s : State) (x : SavedStore) : (s.withSaved x).raster = s.raster := rfl
@[simp] theorem State.withSaved_disp (s : State) (x : SavedStore) : (s.withSaved x).disp = s.disp := rfl
@[simp] theorem State.withSaved_saved (s : State) (x : SavedStore) : (s.withSaved x).saved = x := rfl
@[simp] theorem State.withSaved_links (s : State) (x : SavedStore) : (s.withSaved x).links = s.links := rfl
@[simp] theorem State.withSaved_power (s : State) (x : SavedStore) : (s.withSaved x).power = s.power := rfl
@[simp] theorem State.withSaved_subMs (s : State) (x : SavedStore) : (s.withSaved x).subMs = s.subMs := rfl
@[simp] theorem State.withSaved_races (s : State) (x : SavedStore) : (s.withSaved x).races = s.races := rfl
@[simp] theorem State.withSaved_pending (s : State) (x : SavedStore) : (s.withSaved x).pending = s.pending := rfl
@[simp] theorem State.withSaved_self (s : State) : s.withSaved s.saved = s := rfl
@[simp] theorem State.withSaved_withSaved (s : State) (x y : SavedStore) : (s.withSaved x).withSaved y = s.withSaved y := rfl

@[simp] theorem State.withLinks_setup (s : State) (x : PerLink LinkState) : (s.withLinks x).setup = s.setup := rfl
@[simp] theorem State.withLinks_panel (s : State) (x : PerLink LinkState) : (s.withLinks x).panel = s.panel := rfl
@[simp] theorem State.withLinks_router (s : State) (x : PerLink LinkState) : (s.withLinks x).router = s.router := rfl
@[simp] theorem State.withLinks_queues (s : State) (x : PerLink LinkState) : (s.withLinks x).queues = s.queues := rfl
@[simp] theorem State.withLinks_seq (s : State) (x : PerLink LinkState) : (s.withLinks x).seq = s.seq := rfl
@[simp] theorem State.withLinks_store (s : State) (x : PerLink LinkState) : (s.withLinks x).store = s.store := rfl
@[simp] theorem State.withLinks_raster (s : State) (x : PerLink LinkState) : (s.withLinks x).raster = s.raster := rfl
@[simp] theorem State.withLinks_disp (s : State) (x : PerLink LinkState) : (s.withLinks x).disp = s.disp := rfl
@[simp] theorem State.withLinks_saved (s : State) (x : PerLink LinkState) : (s.withLinks x).saved = s.saved := rfl
@[simp] theorem State.withLinks_links (s : State) (x : PerLink LinkState) : (s.withLinks x).links = x := rfl
@[simp] theorem State.withLinks_power (s : State) (x : PerLink LinkState) : (s.withLinks x).power = s.power := rfl
@[simp] theorem State.withLinks_subMs (s : State) (x : PerLink LinkState) : (s.withLinks x).subMs = s.subMs := rfl
@[simp] theorem State.withLinks_races (s : State) (x : PerLink LinkState) : (s.withLinks x).races = s.races := rfl
@[simp] theorem State.withLinks_pending (s : State) (x : PerLink LinkState) : (s.withLinks x).pending = s.pending := rfl
@[simp] theorem State.withLinks_self (s : State) : s.withLinks s.links = s := rfl
@[simp] theorem State.withLinks_withLinks (s : State) (x y : PerLink LinkState) : (s.withLinks x).withLinks y = s.withLinks y := rfl

@[simp] theorem State.withPower_setup (s : State) (x : Power) : (s.withPower x).setup = s.setup := rfl
@[simp] theorem State.withPower_panel (s : State) (x : Power) : (s.withPower x).panel = s.panel := rfl
@[simp] theorem State.withPower_router (s : State) (x : Power) : (s.withPower x).router = s.router := rfl
@[simp] theorem State.withPower_queues (s : State) (x : Power) : (s.withPower x).queues = s.queues := rfl
@[simp] theorem State.withPower_seq (s : State) (x : Power) : (s.withPower x).seq = s.seq := rfl
@[simp] theorem State.withPower_store (s : State) (x : Power) : (s.withPower x).store = s.store := rfl
@[simp] theorem State.withPower_raster (s : State) (x : Power) : (s.withPower x).raster = s.raster := rfl
@[simp] theorem State.withPower_disp (s : State) (x : Power) : (s.withPower x).disp = s.disp := rfl
@[simp] theorem State.withPower_saved (s : State) (x : Power) : (s.withPower x).saved = s.saved := rfl
@[simp] theorem State.withPower_links (s : State) (x : Power) : (s.withPower x).links = s.links := rfl
@[simp] theorem State.withPower_power (s : State) (x : Power) : (s.withPower x).power = x := rfl
@[simp] theorem State.withPower_subMs (s : State) (x : Power) : (s.withPower x).subMs = s.subMs := rfl
@[simp] theorem State.withPower_races (s : State) (x : Power) : (s.withPower x).races = s.races := rfl
@[simp] theorem State.withPower_pending (s : State) (x : Power) : (s.withPower x).pending = s.pending := rfl
@[simp] theorem State.withPower_self (s : State) : s.withPower s.power = s := rfl
@[simp] theorem State.withPower_withPower (s : State) (x y : Power) : (s.withPower x).withPower y = s.withPower y := rfl

@[simp] theorem State.withSubMs_setup (s : State) (x : Nat) : (s.withSubMs x).setup = s.setup := rfl
@[simp] theorem State.withSubMs_panel (s : State) (x : Nat) : (s.withSubMs x).panel = s.panel := rfl
@[simp] theorem State.withSubMs_router (s : State) (x : Nat) : (s.withSubMs x).router = s.router := rfl
@[simp] theorem State.withSubMs_queues (s : State) (x : Nat) : (s.withSubMs x).queues = s.queues := rfl
@[simp] theorem State.withSubMs_seq (s : State) (x : Nat) : (s.withSubMs x).seq = s.seq := rfl
@[simp] theorem State.withSubMs_store (s : State) (x : Nat) : (s.withSubMs x).store = s.store := rfl
@[simp] theorem State.withSubMs_raster (s : State) (x : Nat) : (s.withSubMs x).raster = s.raster := rfl
@[simp] theorem State.withSubMs_disp (s : State) (x : Nat) : (s.withSubMs x).disp = s.disp := rfl
@[simp] theorem State.withSubMs_saved (s : State) (x : Nat) : (s.withSubMs x).saved = s.saved := rfl
@[simp] theorem State.withSubMs_links (s : State) (x : Nat) : (s.withSubMs x).links = s.links := rfl
@[simp] theorem State.withSubMs_power (s : State) (x : Nat) : (s.withSubMs x).power = s.power := rfl
@[simp] theorem State.withSubMs_subMs (s : State) (x : Nat) : (s.withSubMs x).subMs = x := rfl
@[simp] theorem State.withSubMs_races (s : State) (x : Nat) : (s.withSubMs x).races = s.races := rfl
@[simp] theorem State.withSubMs_pending (s : State) (x : Nat) : (s.withSubMs x).pending = s.pending := rfl
@[simp] theorem State.withSubMs_self (s : State) : s.withSubMs s.subMs = s := rfl
@[simp] theorem State.withSubMs_withSubMs (s : State) (x y : Nat) : (s.withSubMs x).withSubMs y = s.withSubMs y := rfl

@[simp] theorem State.withRaces_setup (s : State) (x : Races) : (s.withRaces x).setup = s.setup := rfl
@[simp] theorem State.withRaces_panel (s : State) (x : Races) : (s.withRaces x).panel = s.panel := rfl
@[simp] theorem State.withRaces_router (s : State) (x : Races) : (s.withRaces x).router = s.router := rfl
@[simp] theorem State.withRaces_queues (s : State) (x : Races) : (s.withRaces x).queues = s.queues := rfl
@[simp] theorem State.withRaces_seq (s : State) (x : Races) : (s.withRaces x).seq = s.seq := rfl
@[simp] theorem State.withRaces_store (s : State) (x : Races) : (s.withRaces x).store = s.store := rfl
@[simp] theorem State.withRaces_raster (s : State) (x : Races) : (s.withRaces x).raster = s.raster := rfl
@[simp] theorem State.withRaces_disp (s : State) (x : Races) : (s.withRaces x).disp = s.disp := rfl
@[simp] theorem State.withRaces_saved (s : State) (x : Races) : (s.withRaces x).saved = s.saved := rfl
@[simp] theorem State.withRaces_links (s : State) (x : Races) : (s.withRaces x).links = s.links := rfl
@[simp] theorem State.withRaces_power (s : State) (x : Races) : (s.withRaces x).power = s.power := rfl
@[simp] theorem State.withRaces_subMs (s : State) (x : Races) : (s.withRaces x).subMs = s.subMs := rfl
@[simp] theorem State.withRaces_races (s : State) (x : Races) : (s.withRaces x).races = x := rfl
@[simp] theorem State.withRaces_pending (s : State) (x : Races) : (s.withRaces x).pending = s.pending := rfl
@[simp] theorem State.withRaces_self (s : State) : s.withRaces s.races = s := rfl
@[simp] theorem State.withRaces_withRaces (s : State) (x y : Races) : (s.withRaces x).withRaces y = s.withRaces y := rfl

@[simp] theorem State.withPending_setup (s : State) (x : List Instr) : (s.withPending x).setup = s.setup := rfl
@[simp] theorem State.withPending_panel (s : State) (x : List Instr) : (s.withPending x).panel = s.panel := rfl
@[simp] theorem State.withPending_router (s : State) (x : List Instr) : (s.withPending x).router = s.router := rfl
@[simp] theorem State.withPending_queues (s : State) (x : List Instr) : (s.withPending x).queues = s.queues := rfl
@[simp] theorem State.withPending_seq (s : State) (x : List Instr) : (s.withPending x).seq = s.seq := rfl
@[simp] theorem State.withPending_store (s : State) (x : List Instr) : (s.withPending x).store = s.store := rfl
@[simp] theorem State.withPending_raster (s : State) (x : List Instr) : (s.withPending x).raster = s.raster := rfl
@[simp] theorem State.withPending_disp (s : State) (x : List Instr) : (s.withPending x).disp = s.disp := rfl
@[simp] theorem State.withPending_saved (s : State) (x : List Instr) : (s.withPending x).saved = s.saved := rfl
@[simp] theorem State.withPending_links (s : State) (x : List Instr) : (s.withPending x).links = s.links := rfl
@[simp] theorem State.withPending_power (s : State) (x : List Instr) : (s.withPending x).power = s.power := rfl
@[simp] theorem State.withPending_subMs (s : State) (x : List Instr) : (s.withPending x).subMs = s.subMs := rfl
@[simp] theorem State.withPending_races (s : State) (x : List Instr) : (s.withPending x).races = s.races := rfl
@[simp] theorem State.withPending_pending (s : State) (x : List Instr) : (s.withPending x).pending = x := rfl
@[simp] theorem State.withPending_self (s : State) : s.withPending s.pending = s := rfl
@[simp] theorem State.withPending_withPending (s : State) (x y : List Instr) : (s.withPending x).withPending y = s.withPending y := rfl

/-! ### Per-link and per-channel items -/

@[simp] theorem PerLink.get_set_same {α : Type} (p : PerLink α) (l : Link) (x : α) : (p.set l x).get l = x := by
  cases l <;> rfl

theorem PerLink.get_set_other {α : Type} (p : PerLink α) {l m : Link} (x : α) (h : m ≠ l) :
    (p.set l x).get m = p.get m := by
  cases l <;> cases m <;> first | rfl | exact absurd rfl h

@[simp] theorem PerLink.set_set {α : Type} (p : PerLink α) (l : Link) (x y : α) : (p.set l x).set l y = p.set l y := by
  cases l <;> rfl

@[simp] theorem PerLink.set_get {α : Type} (p : PerLink α) (l : Link) : p.set l (p.get l) = p := by
  cases l <;> rfl

@[simp] theorem PerChan.get_set_same {α : Type} (p : PerChan α) (c : Chan) (x : α) : (p.set c x).get c = x := by
  cases c <;> rfl

theorem PerChan.get_set_other {α : Type} (p : PerChan α) {c d : Chan} (x : α) (h : d ≠ c) :
    (p.set c x).get d = p.get d := by
  cases c <;> cases d <;> first | rfl | exact absurd rfl h

@[simp] theorem perChan_get {α : Type} (f : Chan → α) (c : Chan) : (perChan f).get c = f c := by
  cases c <;> rfl

@[simp] theorem PerChan.all_get {α : Type} (x : α) (c : Chan) : (PerChan.all x).get c = x := by
  cases c <;> rfl

@[simp] theorem PerLink.both_get {α : Type} (x : α) (l : Link) : (PerLink.both x).get l = x := by
  cases l <;> rfl

/-! ### Choices that the manual leaves open -/

@[simp] theorem Races.head_named (n k : Nat) (rest : List Nat) : (Races.mk (n :: rest) k).head = n := rfl
@[simp] theorem Races.head_free (k : Nat) : (Races.mk [] k).head = Config.freeChoice k := rfl
@[simp] theorem Races.tail_named (n k : Nat) (rest : List Nat) : (Races.mk (n :: rest) k).tail = ⟨rest, k⟩ := rfl
@[simp] theorem Races.tail_free (k : Nat) : (Races.mk [] k).tail = ⟨[], k + 1⟩ := rfl

end Sys2Proof.Machine
end

