-- ==== Sys2Proof/Laws/Frames.lean ====
section
/-! SUPPORT. What the operations of acquisition, records, drawing and standby never touch, whatever they do: one frame lemma per
operation. -/

namespace Sys2Proof.Machine

/-- The parts of the state that no such operation changes. -/
structure Kept where
  queues : PerLink EventQueue
  pending : List Instr
  subMs : Nat
  ms : Word
  encs : Vector Encoder 12
  live : Setup
  gen : Word
  changed : Vector Word 44
  batches : PerLink (Option Batch)
  quiet : Timer
  mem : Memory
  sub : PerLink Bool
  overlay : PerLink Memory
  palette : Vector Colour 255
  frames : Word
  sent : Word
  present : Bool
  lock : Bool
  routes : Vector RouteEntry 24
  defaultAction : Action
  lockedOut : BitVec 16
  leds : Vector LedEntry 32
  lockout : Lockout
  time : BitVec 48
  phase : Phase

def kept (s : State) : Kept where
  queues := s.queues
  pending := s.pending
  subMs := s.subMs
  ms := s.panel.ms
  encs := s.panel.encs
  live := s.setup.live
  gen := s.setup.gen
  changed := s.setup.changed
  batches := s.setup.batches
  quiet := s.setup.quiet
  mem := s.store.mem
  sub := s.store.sub
  overlay := s.disp.overlay
  palette := s.disp.palette
  frames := s.disp.frames
  sent := s.disp.sent
  present := s.disp.present
  lock := s.disp.lock
  routes := s.router.routes
  defaultAction := s.router.defaultAction
  lockedOut := s.router.lockedOut
  leds := s.router.leds
  lockout := s.router.lockout
  time := s.seq.time
  phase := s.power.phase

/-! ### Replacing a block -/

@[simp] theorem kept_withRaster (s : State) (x : RasterEngine) : kept (s.withRaster x) = kept s := rfl
@[simp] theorem kept_withSaved (s : State) (x : SavedStore) : kept (s.withSaved x) = kept s := rfl
@[simp] theorem kept_withLinks (s : State) (x : PerLink LinkState) : kept (s.withLinks x) = kept s := rfl
@[simp] theorem kept_withRaces (s : State) (x : Races) : kept (s.withRaces x) = kept s := rfl

/-! ### Links -/

@[simp] theorem kept_setLink (l : Link) (k : LinkState) (s : State) : kept (setLink l k s) = kept s := rfl

@[simp] theorem kept_notify (l : Link) (n : Notice) (s : State) : kept (notify l n s) = kept s := rfl

@[simp] theorem kept_notifyBoth (n : Notice) (s : State) : kept (notifyBoth n s) = kept s := rfl

@[simp] theorem kept_answer (l : Link) (st : Status) (p : Payload) (s : State) : kept (answer l st p s) = kept s := rfl

@[simp] theorem kept_beginRequest (l : Link) (t k : Byte) (s : State) : kept (beginRequest l t k s) = kept s := rfl

@[simp] theorem kept_refuseBusy (l : Link) (t : Byte) (s : State) : kept (refuseBusy l t s) = kept s := rfl

@[simp] theorem kept_acceptLong (l : Link) (t k : Byte) (s : State) : kept (acceptLong l t k s) = kept s := by
  unfold acceptLong; split <;> rfl

@[simp] theorem kept_finalStatus (l : Link) (h : Bool) (st : Status) (p : Payload) (s : State) :
    kept (finalStatus l h st p s) = kept s := by
  unfold finalStatus
  split
  · rfl
  · dsimp only; split <;> rfl

/-! ### Segments -/

theorem kept_lit (s : State) (x : Vector Bool 32) : kept (s.withRouter { s.router with lit := x }) = kept s := rfl

@[simp] theorem kept_evalLeds (s : State) : kept (evalLeds s) = kept s := by
  unfold evalLeds; split
  · exact kept_lit s _
  · rfl

@[simp] theorem kept_setCap (c : CapState) (s : State) : kept (setCap c s) = kept s := by
  unfold setCap; split
  · rfl
  · rw [kept_evalLeds]; rfl

@[simp] theorem kept_setRun (r : RunState) (s : State) : kept (setRun r s) = kept s := by
  unfold setRun; split
  · rfl
  · rw [kept_evalLeds]; rfl

@[simp] theorem kept_setCurrent (r : Option Record) (s : State) : kept (setCurrent r s) = kept s := rfl

@[simp] theorem kept_takeTrigger (t : Trigger) (r : Record) (s : State) : kept (takeTrigger t r s) = kept s := by
  unfold takeTrigger; rw [kept_setCap]; rfl

@[simp] theorem kept_forcedTrigger (s : State) : kept (forcedTrigger s) = kept s := by
  unfold forcedTrigger; split <;> simp

theorem kept_arm (s : State) : kept (arm s) = kept s := by
  unfold arm
  split
  · rfl
  · dsimp only
    split
    · rw [kept_forcedTrigger]; exact (kept_setCap _ _).trans (kept_setCurrent _ _)
    · split
      · exact (kept_setCap _ _).trans (kept_setCurrent _ _)
      · exact (kept_setCap _ _).trans (kept_setCurrent _ _)

@[simp] theorem kept_segmentStart (s : State) : kept (segmentStart s) = kept s := by
  unfold segmentStart
  split
  · rfl
  · dsimp only
    split
    · rw [kept_arm, kept_setCap]; rfl
    · rw [kept_setCap]; rfl

/-! ### Records -/

theorem countReuse_kept (sl : Slot) (st : RecordStore) :
    (countReuse sl st).mem = st.mem ∧ (countReuse sl st).sub = st.sub ∧ (countReuse sl st).pinsList = st.pinsList ∧
      (countReuse sl st).notice = st.notice ∧ (countReuse sl st).recordBytes = st.recordBytes := by
  unfold countReuse; split <;> exact ⟨rfl, rfl, rfl, rfl, rfl⟩

@[simp] theorem kept_grantSlot (n : Nat) (s : State) : kept (grantSlot n s) = kept s := by
  unfold grantSlot
  rw [kept_segmentStart]
  generalize s.store.slots.getD n .free = sl
  obtain ⟨h1, h2, -⟩ := countReuse_kept sl s.store
  simp [kept, setCurrent, h1, h2]

@[simp] theorem kept_requestSlot (s : State) : kept (requestSlot s) = kept s := by
  unfold requestSlot; split
  · simp
  · rw [kept_setCap]; rfl

@[simp] theorem kept_reevaluate (s : State) : kept (reevaluate s) = kept s := by
  unfold reevaluate; split
  · split <;> simp
  · rfl

@[simp] theorem kept_countCompletionOn (l : Link) (s : State) : kept (countCompletionOn l s) = kept s := by
  unfold countCompletionOn; dsimp only; split <;> rfl

/-! ### Drawing -/

@[simp] theorem kept_finishDraw (n : Word) (d : Drawn) (s : State) : kept (finishDraw n d s) = kept s := by
  unfold finishDraw; rw [kept_reevaluate]; rfl

@[simp] theorem kept_beginDraw (k : DrawKind) (h : Header) (s : State) : kept (beginDraw k h s) = kept s := by
  unfold beginDraw; dsimp only; split
  · rw [kept_finishDraw]; rfl
  · rfl

@[simp] theorem kept_choose (c : Option (DrawKind × Word)) (s : State) : kept (choose c s) = kept s := rfl

@[simp] theorem kept_askDraw (s : State) : kept (askDraw s) = kept s := by
  unfold askDraw; split
  · rfl
  · split <;> rfl

@[simp] theorem kept_startDraw (n : Nat) (s : State) : kept (startDraw n s) = kept s := by
  induction n generalizing s with
  | zero => rfl
  | succ n ih =>
      unfold startDraw
      split
      · rfl
      · split
        · rfl
        · split <;> simp [ih]

@[simp] theorem kept_settleDraw (s : State) : kept (settleDraw s) = kept s := kept_startDraw _ s

@[simp] theorem kept_selectDraw (s : State) : kept (selectDraw s) = kept s := by unfold selectDraw; simp

/-! ### Reactions taken in any order -/

/-- What every reaction, every choice and every draw start keeps, taking the reactions keeps, in whatever order. -/
theorem interleave_keeps {P : State → Prop} (hr : ∀ s x, P s → P (s.withRaces x)) (hd : ∀ s, P s → P (settleDraw s)) (n : Nat)
    (acts : List (State → State)) (h : ∀ act ∈ acts, ∀ s, P s → P (act s)) (s : State) (hs : P s) :
    P (interleave n acts s) := by
  have late : ∀ t, ∀ act ∈ interleave.lateStart t, ∀ u, P u → P (act u) := by
    intro t act ha
    unfold interleave.lateStart at ha
    split at ha
    · simp only [List.mem_singleton] at ha; subst ha; exact hd
    · cases ha
  induction n generalizing acts s with
  | zero => exact hs
  | succ n ih =>
      unfold interleave
      split
      · exact hs
      · exact ih _ (late _) _ (h _ (List.mem_cons_self ..) s hs)
      · refine ih _ (fun a ha => (List.mem_append.mp ha).elim (late _ a) (fun ha => h a (List.mem_of_mem_eraseIdx ha))) _ ?_
        generalize s.races.head % acts.length = i
        by_cases hi : i < acts.length
        · rw [List.getD_eq_getElem _ _ hi]
          exact h _ (List.getElem_mem hi) _ (hr s _ hs)
        · rw [List.getD_eq_default _ _ (by omega)]
          exact hr s _ hs

theorem takeAll_keeps {P : State → Prop} (hr : ∀ s x, P s → P (s.withRaces x)) (hd : ∀ s, P s → P (settleDraw s))
    (acts : List (State → State)) (h : ∀ act ∈ acts, ∀ s, P s → P (act s)) (s : State) (hs : P s) : P (takeAll acts s) :=
  interleave_keeps hr hd _ acts h s hs

theorem kept_takeAll (acts : List (State → State)) (h : ∀ act ∈ acts, ∀ s, kept (act s) = kept s) (s : State) :
    kept (takeAll acts s) = kept s :=
  takeAll_keeps (P := fun t => kept t = kept s) (fun t x ht => by simpa using ht) (fun t ht => by simpa using ht) acts
    (fun act ha t ht => (h act ha t).trans ht) s rfl

@[simp] theorem kept_redrawRequest (s : State) : kept (redrawRequest s) = kept s := by
  unfold redrawRequest; rw [kept_askDraw]; rfl

@[simp] theorem kept_drawFreed (n : Word) (s : State) : kept (drawFreed n s) = kept s := by
  unfold drawFreed; split
  · split
    · rw [kept_selectDraw]; rfl
    · rfl
  · rfl

theorem kept_closeRecord {next : State → State} (h : ∀ s, kept (next s) = kept s) (s : State) :
    kept (closeRecord next s) = kept s := by
  have ho : ∀ act ∈ [offer, next], ∀ s, kept (act s) = kept s := by
    intro act ha s
    simp only [List.mem_cons, List.not_mem_nil, or_false] at ha
    rcases ha with rfl | rfl
    · exact kept_askDraw s
    · exact h s
  unfold closeRecord; split
  · exact h s
  · dsimp only; split
    · rw [kept_takeAll _ ho, kept_countCompletionOn, kept_countCompletionOn]; rfl
    · rw [h]; rfl

/-! ### Standby -/

@[simp] theorem kept_setDispLink (d : DispLink) (s : State) : kept (setDispLink d s) = kept s := by
  unfold setDispLink; dsimp only; split <;> rfl

@[simp] theorem kept_composerStop (s : State) : kept (composerStop s) = kept s := by
  unfold composerStop; dsimp only; split <;> rfl

theorem kept_keys (s : State) (x : Vector Key 64) : kept (s.withPanel { s.panel with keys := x }) = kept s := rfl

@[simp] theorem kept_enterStandby (s : State) : kept (enterStandby s) = kept s := by
  have h : ∀ t : State, kept (evalLeds (t.withPanel (stopKeyTimers t.panel))) = kept t := fun t =>
    (kept_evalLeds _).trans (kept_keys t _)
  unfold enterStandby
  dsimp only
  split
  · rw [kept_finalStatus, h, kept_composerStop]; rfl
  · rw [h, kept_composerStop]; rfl

@[simp] theorem kept_tryStandby (s : State) : kept (tryStandby s) = kept s := by unfold tryStandby; split <;> simp

@[simp] theorem kept_reportIdle (s : State) : kept (reportIdle s) = kept s := by
  unfold reportIdle; split
  · rw [kept_tryStandby]; rfl
  · rfl

@[simp] theorem kept_enterIdle (s : State) : kept (enterIdle s) = kept s := by
  unfold enterIdle; rw [kept_reportIdle, kept_setRun, kept_setCap]; rfl

@[simp] theorem kept_reportHalt (s : State) : kept (reportHalt s) = kept s := by
  unfold reportHalt; rw [kept_tryStandby]; rfl

@[simp] theorem kept_abandonDraw (s : State) : kept (abandonDraw s) = kept s := by
  unfold abandonDraw; split
  · rw [kept_reevaluate]; rfl
  · rfl

@[simp] theorem kept_haltRaster (s : State) : kept (haltRaster s) = kept s := by
  unfold haltRaster; rw [kept_reportHalt, kept_withRaster, kept_abandonDraw]

/-! ### The sequence -/

@[simp] theorem kept_abandonSegment (s : State) : kept (abandonSegment s) = kept s := rfl

@[simp] theorem kept_afterLostRecord (s : State) : kept (afterLostRecord s) = kept s := by
  unfold afterLostRecord; split <;> simp

@[simp] theorem kept_captureChange (g : Word) (s : State) : kept (captureChange g s) = kept s := by
  unfold captureChange; split
  · rfl
  · split
    · rw [kept_closeRecord kept_afterLostRecord, kept_abandonSegment]
    · rfl

@[simp] theorem kept_withdrawal (n : Word) (s : State) : kept (withdrawal n s) = kept s := by
  unfold withdrawal; split
  · rfl
  · split <;> simp

@[simp] theorem kept_layoutChange (s : State) : kept (layoutChange s) = kept s := by
  unfold layoutChange
  dsimp only
  rw [kept_reevaluate]
  split <;> split <;> (try simp only [kept_drawFreed, kept_withdrawal]) <;> rfl

@[simp] theorem kept_retentionChange (s : State) : kept (retentionChange s) = kept s := kept_reevaluate s

@[simp] theorem kept_acqStop (s : State) : kept (acqStop s) = kept s := by
  unfold acqStop; split
  · rfl
  · rw [kept_enterIdle]; rfl
  · rw [kept_closeRecord kept_enterIdle, kept_abandonSegment]
  · rw [kept_closeRecord kept_enterIdle, kept_abandonSegment]
  · rfl

@[simp] theorem kept_acqForce (s : State) : kept (acqForce s) = kept s := by
  unfold acqForce; split
  · simp
  · rfl
  · rfl

@[simp] theorem kept_standbyStop (s : State) : kept (standbyStop s) = kept s := by
  unfold standbyStop; dsimp only; split
  · rw [kept_reportIdle]; rfl
  · rw [kept_acqStop]; rfl

end Sys2Proof.Machine
end

