-- ==== Sys2Proof/Laws/Commit.lean ====
section
/-! SUPPORT. What a commit can do (R10 to R16, R24): it changes nothing, or it installs its candidate, after which the receivers'
reactions leave the setup alone. -/

namespace Sys2Proof.Machine

/-! ### The receivers' reactions -/

/-- The four reactions that an installing commit may ask for. -/
theorem mem_reactions {old new : Setup} {gen : Word} {stopped : Bool} {act : State → State}
    (h : act ∈ reactions old new gen stopped) :
    act = captureChange gen ∨ act = layoutChange ∨ act = retentionChange ∨ act = redrawRequest := by
  simp only [reactions, List.mem_append] at h
  rcases h with ((h | h) | h) | h <;> split at h <;> simp at h <;> simp [h]

theorem kept_takeAll_reactions (old new : Setup) (gen : Word) (stopped : Bool) (s : State) :
    kept (takeAll (reactions old new gen stopped) s) = kept s := by
  refine kept_takeAll _ ?_ s
  intro act hact t
  rcases mem_reactions hact with rfl | rfl | rfl | rfl <;> simp

/-! ### Commits -/

@[simp] theorem kept_notifySource (src : Source) (s : State) : kept (notifySource src s) = kept s := by
  unfold notifySource; split <;> rfl

@[simp] theorem kept_routeStreams (old new : Setup) (s : State) : kept (routeStreams old new s) = kept s := by
  unfold routeStreams; split <;> rfl

/-- What the reactions leave of an installation. -/
theorem kept_installAndHandOn (src : Source) (new : Setup) (s : State) :
    kept (installAndHandOn src new s) = kept (installSetup new s) := by
  unfold installAndHandOn; simp [kept_takeAll_reactions]

theorem judge_candidate {live : Setup} {w : Option Int} {req : List (Field × Int)} {st : Setup}
    (h : judge live w req = .candidate st) :
    firstOffence live req = none ∧ st = adjustAll (buildCandidate live w req) ∧ enabledChans st ≠ [] := by
  unfold judge at h
  split at h
  · cases h
  · next ho =>
      dsimp only at h
      split at h
      · cases h
      · next he => cases h; exact ⟨ho, rfl, he⟩

/-- A commit changes nothing, with an outcome that is not APPLIED, or it installs a candidate that differs from the live setup
and answers APPLIED with the next generation. -/
theorem commit_cases (src : Source) (req : List (Field × Int)) (s : State) :
    ((commit src req s).1 = s ∧ ∀ g c a, (commit src req s).2 ≠ .applied g c a) ∨
    (∃ st, judge s.setup.live (timebaseWindow s) req = .candidate st ∧ st ≠ s.setup.live ∧
      commit src req s = (installAndHandOn src st s,
        .applied (s.setup.gen + 1#32) (clampedFlag req st) (adjustedFlag req s.setup.live st))) := by
  unfold commit
  split
  · exact .inl ⟨rfl, fun _ _ _ => by simp⟩
  · exact .inl ⟨rfl, fun _ _ _ => by simp⟩
  · next st hj =>
      split
      · exact .inl ⟨rfl, fun _ _ _ => by simp⟩
      · next hne => exact .inr ⟨st, hj, hne, rfl⟩

end Sys2Proof.Machine
end

