-- ==== Sys2Proof/Laws/EventQueues.lean ====
section
/-! SUPPORT. The event queues: what handing over a record touches, and where a record comes to stand. -/

namespace Sys2Proof.Machine

theorem insertByTime_length (e : PanelEvent) (es : List PanelEvent) : (insertByTime e es).length = es.length + 1 := by
  induction es with
  | nil => rfl
  | cons x rest ih => unfold insertByTime; split <;> simp [ih]

theorem mem_insertByTime (e x : PanelEvent) (es : List PanelEvent) : x ∈ insertByTime e es ↔ x = e ∨ x ∈ es := by
  induction es with
  | nil => simp [insertByTime]
  | cons y rest ih =>
      unfold insertByTime
      split
      · simp
      · simp only [List.mem_cons, ih]; tauto

/-- An operation that touches event queues and links alone. -/
def TouchesQueues (s t : State) : Prop := ∃ q k, t = (s.withQueues q).withLinks k

theorem TouchesQueues.refl (s : State) : TouchesQueues s s := ⟨s.queues, s.links, rfl⟩

theorem TouchesQueues.trans {s t u : State} (h1 : TouchesQueues s t) (h2 : TouchesQueues t u) : TouchesQueues s u := by
  obtain ⟨q, k, rfl⟩ := h1
  obtain ⟨q', k', rfl⟩ := h2
  exact ⟨q', k', rfl⟩

theorem setQueue_touches (l : Link) (q : EventQueue) (s : State) : TouchesQueues s (setQueue l q s) :=
  ⟨s.queues.set l q, s.links, rfl⟩

theorem notify_touches (l : Link) (n : Notice) (s : State) : TouchesQueues s (notify l n s) :=
  ⟨s.queues, (notify l n s).links, rfl⟩

theorem thresholdCheck_touches (l : Link) (s : State) : TouchesQueues s (thresholdCheck l s) := by
  unfold thresholdCheck; dsimp only; split
  · exact (setQueue_touches l _ s).trans (notify_touches l _ _)
  · exact .refl s

theorem enterEntry_touches (l : Link) (e : PanelEvent) (s : State) : TouchesQueues s (enterEntry l e s) := by
  unfold enterEntry; dsimp only; split
  · exact (setQueue_touches l _ s).trans (thresholdCheck_touches l _)
  · split
    · exact setQueue_touches l _ s
    · exact (setQueue_touches l _ s).trans (thresholdCheck_touches l _)

theorem merge_touches (l : Link) (n e : PanelEvent) (s : State) : TouchesQueues s (merge l n e s) := by
  unfold merge; dsimp only; split
  · exact setQueue_touches l _ s
  · split
    · exact (setQueue_touches l _ s).trans (enterEntry_touches l _ _)
    · split
      · exact (setQueue_touches l _ s).trans (enterEntry_touches l _ _)
      · exact setQueue_touches l _ s

/-- A record handed to a queue touches event queues and links alone. -/
theorem handOver_touches (l : Link) (e : PanelEvent) (s : State) : TouchesQueues s (handOver l e s) := by
  unfold handOver; split
  · exact merge_touches l _ e s
  · exact enterEntry_touches l e s

/-- The entry that an arriving record merges with is the newest, a TURN of the same control. -/
theorem mergesWith_some {e n : PanelEvent} {q : EventQueue} (h : mergesWith e q = some n) :
    q.entries.getLast? = some n ∧ e.kind = .turn ∧ n.kind = .turn ∧ n.control = e.control := by
  unfold mergesWith at h
  split at h
  · next m hm =>
      split at h
      · next hc => cases h; exact ⟨hm, hc⟩
      · cases h
  · cases h

end Sys2Proof.Machine
end

