-- ==== Sys2Proof/Laws/Events.lean ====
section
/-! SUPPORT. What the data events never touch: samples write acquisition memory and leave what `kept` names otherwise, span passes
leave all of it; the two outcomes of a transmission, and what the 20 ms of an access can do. -/

namespace Sys2Proof.Machine

/-! ### Samples -/

/-- `kept` without acquisition memory. -/
def keptAside (s : State) : Kept := { kept s with mem := [] }

theorem keptAside_of_kept {s t : State} (h : kept s = kept t) : keptAside s = keptAside t := by unfold keptAside; rw [h]

@[simp] theorem kept_setFront (f : Front) (s : State) : kept (setFront f s) = kept s := rfl

@[simp] theorem keptAside_completeSegment (r : Record) (t : Trigger) (s : State) :
    keptAside (completeSegment r t s) = keptAside s := by
  have hs : ∀ (st : RecordStore) (c : Option Record), st.sub = s.store.sub →
      keptAside (setCurrent c (s.withStore st)) = keptAside s := by
    intro st c h; simp [keptAside, kept, setCurrent, h]
  unfold completeSegment
  dsimp only
  split
  · rw [keptAside_of_kept (kept_closeRecord kept_enterIdle _)]; exact hs _ _ rfl
  · split
    · rw [keptAside_of_kept (kept_segmentStart _), keptAside_of_kept (kept_setCurrent _ _)]; exact hs _ _ rfl
    · split
      · rw [keptAside_of_kept (kept_closeRecord kept_requestSlot _)]; exact hs _ _ rfl
      · rw [keptAside_of_kept (kept_closeRecord kept_enterIdle _)]; exact hs _ _ rfl

@[simp] theorem keptAside_closeBin (s : State) : keptAside (closeBin s) = keptAside s := by
  unfold closeBin
  split
  · rfl
  · dsimp only
    split
    · split
      · rw [keptAside_of_kept (kept_arm _)]; rfl
      · rfl
    · rfl
    · split
      · split
        · simp
        · rfl
      · rfl
    · rfl

@[simp] theorem keptAside_takeInstant (codes : PerChan Byte) (r : Record) (s : State) :
    keptAside (takeInstant codes r s) = keptAside s := by
  have ht : ∀ (c : Prop) [Decidable c] (t : Trigger) (r1 : Record) (u : State),
      keptAside (if c then takeTrigger t r1 u else u) = keptAside u := by
    intro c _ t r1 u
    split
    · exact keptAside_of_kept (kept_takeTrigger _ _ _)
    · rfl
  unfold takeInstant
  dsimp only
  split
  · rw [keptAside_closeBin, ht]; rfl
  · rw [ht]; rfl

@[simp] theorem keptAside_takeInstants (n : Nat) (s : State) : keptAside (takeInstants n s) = keptAside s := by
  induction n generalizing s with
  | zero => rfl
  | succ n ih =>
      unfold takeInstants
      split
      · rfl
      · dsimp only
        split
        · rw [ih, keptAside_takeInstant]; rfl
        · rfl

@[simp] theorem kept_followStreams (en : List Chan) (core : Fin 4) (s : State) : kept (followStreams en core s) = kept s := by
  unfold followStreams
  split <;> rfl

@[simp] theorem keptAside_takeCode (en : List Chan) (core : Fin 4) (code : Byte) (s : State) :
    keptAside (takeCode en core code s) = keptAside s := by
  unfold takeCode
  dsimp only
  split
  · rw [keptAside_takeInstants]; rfl
  · rfl

/-- A sample changes nothing of `kept` but acquisition memory. -/
@[simp] theorem keptAside_takeSample (core : Fin 4) (code : Byte) (s : State) :
    keptAside (takeSample core code s) = keptAside s := by
  unfold takeSample
  split
  · rfl
  · split
    · exact (keptAside_takeCode _ _ _ _).trans (keptAside_of_kept (kept_followStreams _ _ _))
    · rfl

/-! ### Span passes and transmissions -/

@[simp] theorem kept_spanPassAt (slot : Nat) (d : Draw) (s : State) : kept (spanPassAt slot d s) = kept s := by
  unfold spanPassAt
  dsimp only
  split
  · rfl
  · rw [kept_selectDraw, kept_finishDraw]; rfl

@[simp] theorem finishSending_sending (c : Composer) : (finishSending c).sending = none := by
  unfold finishSending; split
  · rfl
  · assumption

@[simp] theorem finishSending_link (c : Composer) : (finishSending c).link = c.link := by unfold finishSending; split <;> rfl

@[simp] theorem finishSending_overlay (c : Composer) : (finishSending c).overlay = c.overlay := by
  unfold finishSending; split <;> rfl

theorem finishSending_sent (c : Composer) :
    (finishSending c).sent = if c.sending.isSome then c.sent + 1#32 else c.sent := by
  unfold finishSending; cases h : c.sending <;> simp

/-! ### The limit of an EEPROM access -/

/-- The 20 ms of an access end in a fault, or leave all but the limit and `races` as it was. -/
theorem accessLimit_cases (s : State) :
    (∃ x, accessLimit s = execEepromAccessFault (s.withRaces x)) ∨
      ∃ x limit polling, accessLimit s = .next ((s.withRaces x).withSaved
        { s.saved with limit := limit, polling := polling }) := by
  unfold accessLimit
  dsimp only
  split
  · exact .inr ⟨s.races, s.saved.limit, s.saved.polling, rfl⟩
  · split
    · exact .inl ⟨s.races, rfl⟩
    · split
      · exact .inl ⟨_, rfl⟩
      · split
        · exact .inr ⟨_, _, _, rfl⟩
        · exact .inr ⟨_, none, s.saved.polling, rfl⟩

end Sys2Proof.Machine
end

