-- ==== Sys2Proof/Laws/Leds.lean ====
section
/-! SUPPORT. When the LEDs follow their sources (R57, R58): what an evaluation and a change of run state or capture state leave, and
the parts of the state that the LEDs depend on. -/

namespace Sys2Proof.Machine

/-- What an LED's level and the table itself depend on. -/
structure LedView where
  phase : Phase
  power : PowerState
  live : Setup
  run : RunState
  cap : CapState
  lockout : Lockout
  leds : Vector LedEntry 32
  lit : Vector Bool 32

def ledView (s : State) : LedView :=
  ⟨s.power.phase, s.power.state, s.setup.live, s.seq.run, s.seq.cap, s.router.lockout, s.router.leds, s.router.lit⟩

/-- An LED's level is that of its entry and these parts alone. -/
theorem ledLevel_of_view {s t : State} (h : ledView t = ledView s) (e : LedEntry) : ledLevel e t = ledLevel e s := by
  simp only [ledView, LedView.mk.injEq] at h
  obtain ⟨-, hp, hl, hr, hc, hk, -, -⟩ := h
  unfold ledLevel sourceLit
  rw [hp]
  cases e.source <;> simp only [hl, hr, hc, hk]

/-- A change of nothing that the LEDs depend on keeps them following. -/
theorem ledsFollow_of_view {s t : State} (h : ledView t = ledView s) (hs : ledsFollow s) : ledsFollow t := by
  have hv := h
  simp only [ledView, LedView.mk.injEq] at hv
  obtain ⟨hph, -, -, -, -, -, hleds, hlit⟩ := hv
  intro hup i
  rw [ledLevel_of_view h, hlit, hleds]
  exact hs (hph ▸ hup) i

/-- What the LEDs show does not change what their sources give. -/
theorem ledLevel_lit (e : LedEntry) (v : Vector Bool 32) (s : State) :
    ledLevel e (s.withRouter { s.router with lit := v }) = ledLevel e s := by
  unfold ledLevel sourceLit
  cases e.source <;> rfl

/-- An evaluation sets every LED from its source. -/
theorem evalLeds_follows (s : State) : ledsFollow (evalLeds s) := by
  unfold evalLeds
  split
  · intro _ i
    rw [ledLevel_lit]
    simp only [State.withRouter, Fin.getElem_fin, Vector.getElem_ofFn]
  · next hup => exact fun h => absurd h hup

theorem setCap_follows {c : CapState} {s : State} (hs : ledsFollow s) : ledsFollow (setCap c s) := by
  unfold setCap
  split
  · exact hs
  · exact evalLeds_follows _

theorem setRun_follows {r : RunState} {s : State} (hs : ledsFollow s) : ledsFollow (setRun r s) := by
  unfold setRun
  split
  · exact hs
  · exact evalLeds_follows _

end Sys2Proof.Machine
end

