-- ==== Sys2Proof/Laws/Memory.lean ====
section
/-! SUPPORT. Buffers: reading after writing, and the canonical form, which every operation on a buffer keeps. -/

namespace Sys2Proof.Machine

/-! ### The canonical form, unfolded one entry at a time -/

/-- Every address of the list lies above k. -/
def memAbove (k : Nat) : Memory → Bool
  | [] => true
  | (k', _) :: _ => decide (k < k')

theorem memWf_cons (k : Nat) (v : Byte) (m : Memory) :
    memWf ((k, v) :: m) = true ↔ v ≠ 0#8 ∧ memAbove k m = true ∧ memWf m = true := by
  cases m with
  | nil => simp [memWf, memAbove]
  | cons p rest => obtain ⟨k', v'⟩ := p; simp [memWf, memAbove, and_assoc]

theorem memAbove_trans {j k : Nat} {m : Memory} (h : j < k) (hm : memAbove k m = true) : memAbove j m = true := by
  cases m with
  | nil => rfl
  | cons p rest => simp [memAbove] at hm ⊢; omega

/-- An address at or below a bound under the whole list reads 0. -/
theorem memGet_above {k a : Nat} {m : Memory} (hw : memWf m = true) (hm : memAbove k m = true) (ha : a ≤ k) :
    memGet m a = 0#8 := by
  induction m generalizing k with
  | nil => rfl
  | cons p rest ih =>
      obtain ⟨k', v'⟩ := p
      obtain ⟨-, h1, h2⟩ := (memWf_cons k' v' rest).1 hw
      simp [memAbove] at hm
      simp only [memGet, if_neg (show k' ≠ a by omega)]
      exact ih h2 h1 (by omega)

/-! ### Writing one byte -/

theorem memAbove_memSet {k a : Nat} {m : Memory} (b : Byte) (hm : memAbove k m = true) (hw : memWf m = true) (ha : k < a) :
    memAbove k (memSet m a b) = true := by
  cases m with
  | nil => by_cases hb : b = 0#8 <;> simp [memSet, hb, memAbove, ha]
  | cons p rest =>
      obtain ⟨k', v'⟩ := p
      obtain ⟨-, h1, -⟩ := (memWf_cons k' v' rest).1 hw
      simp [memAbove] at hm
      have hr := memAbove_trans hm h1
      simp only [memSet]
      split
      · split <;> simp [memAbove, hm, ha]
      · split
        · split
          · exact hr
          · simp [memAbove, ha]
        · simp [memAbove, hm]

/-- Writing a byte keeps the canonical form. -/
theorem memWf_memSet {m : Memory} (a : Nat) (b : Byte) (hw : memWf m = true) : memWf (memSet m a b) = true := by
  induction m with
  | nil => by_cases hb : b = 0#8 <;> simp [memSet, hb, memWf]
  | cons p rest ih =>
      obtain ⟨k, v⟩ := p
      obtain ⟨h0, h1, h2⟩ := (memWf_cons k v rest).1 hw
      simp only [memSet]
      split
      · split
        · exact hw
        · next hlt hb => exact (memWf_cons _ _ _).2 ⟨hb, by simpa [memAbove] using hlt, hw⟩
      · split
        · split
          · exact h2
          · next heq hb => subst heq; exact (memWf_cons _ _ _).2 ⟨hb, h1, h2⟩
        · next hlt hne =>
            exact (memWf_cons _ _ _).2 ⟨h0, memAbove_memSet b h1 h2 (by omega), ih h2⟩

/-- Reading after writing a byte. -/
theorem memGet_memSet {m : Memory} (a x : Nat) (b : Byte) (hw : memWf m = true) :
    memGet (memSet m a b) x = if x = a then b else memGet m x := by
  induction m with
  | nil =>
      by_cases hb : b = 0#8
      · simp [memSet, hb, memGet]
      · by_cases hx : x = a
        · simp [memSet, hb, memGet, hx]
        · simp [memSet, hb, memGet, hx, Ne.symm hx]
  | cons p rest ih =>
      obtain ⟨k, v⟩ := p
      obtain ⟨-, h1, h2⟩ := (memWf_cons k v rest).1 hw
      simp only [memSet]
      split
      · next hlt =>
          have hz : memGet ((k, v) :: rest) a = 0#8 :=
            memGet_above (k := a) hw (by simpa [memAbove] using hlt) (Nat.le_refl a)
          split
          · next hb => by_cases hx : x = a <;> simp [hx, hz, hb]
          · by_cases hx : x = a
            · simp [memGet, hx]
            · simp [memGet, hx, Ne.symm hx]
      · split
        · next hge heq =>
            subst heq
            split
            · next hb =>
                by_cases hx : x = a
                · subst hx; simp [hb, memGet_above h2 h1 (Nat.le_refl x)]
                · simp [memGet, hx, Ne.symm hx]
            · by_cases hx : x = a
              · simp [memGet, hx]
              · simp [memGet, hx, Ne.symm hx]
        · next hge hne =>
            by_cases hk : k = x
            · have hxa : x ≠ a := by omega
              simp [memGet, hk, hxa]
            · simp only [memGet, if_neg hk, ih h2]

/-! ### The operations built of it -/

theorem memWf_memSetMany {m : Memory} (a : Nat) (bs : List Byte) (hw : memWf m = true) : memWf (memSetMany m a bs) = true := by
  induction bs generalizing m a with
  | nil => exact hw
  | cons b rest ih => exact ih (a + 1) (memWf_memSet a b hw)

/-- Bytes below the run, and bytes above it, read as before. -/
theorem memGet_memSetMany_outside {m : Memory} (a x : Nat) (bs : List Byte) (hw : memWf m = true)
    (hx : x < a ∨ a + bs.length ≤ x) : memGet (memSetMany m a bs) x = memGet m x := by
  induction bs generalizing m a with
  | nil => rfl
  | cons b rest ih =>
      simp only [List.length_cons] at hx
      rw [memSetMany, ih (a + 1) (memWf_memSet a b hw) (by omega), memGet_memSet a x b hw, if_neg (by omega)]

theorem memAbove_memMap {k : Nat} (f : Byte → Byte) {m : Memory} (hw : memWf m = true) (hm : memAbove k m = true) :
    memAbove k (memMap f m) = true := by
  induction m generalizing k with
  | nil => rfl
  | cons p rest ih =>
      obtain ⟨k', v'⟩ := p
      obtain ⟨-, h1, h2⟩ := (memWf_cons k' v' rest).1 hw
      simp [memAbove] at hm
      simp only [memMap]
      split
      · exact ih h2 (memAbove_trans hm h1)
      · simp [memAbove, hm]

/-- The decay of a buffer keeps the canonical form. -/
theorem memWf_memMap (f : Byte → Byte) {m : Memory} (hw : memWf m = true) : memWf (memMap f m) = true := by
  induction m with
  | nil => rfl
  | cons p rest ih =>
      obtain ⟨k, v⟩ := p
      obtain ⟨-, h1, h2⟩ := (memWf_cons k v rest).1 hw
      simp only [memMap]
      split
      · exact ih h2
      · next hv => exact (memWf_cons _ _ _).2 ⟨hv, memAbove_memMap f h2 h1, ih h2⟩

theorem memWf_addHits {plane : Memory} (x y n : Nat) (hw : memWf plane = true) : memWf (addHits plane x y n) = true := by
  induction n generalizing plane y with
  | zero => exact hw
  | succ n ih => exact ih (y + 1) (memWf_memSet _ _ hw)

theorem memWf_hitColumn {plane : Memory} (vectors : Bool) (pts : List Mapped) (x : Nat) (hw : memWf plane = true) :
    memWf (hitColumn vectors pts plane x) = true := by
  unfold hitColumn
  split
  · exact hw
  · exact memWf_addHits _ _ _ hw

theorem memWf_addSpans {plane : Memory} (vectors : Bool) (pts : List Mapped) (hw : memWf plane = true) :
    memWf (addSpans vectors pts plane) = true := by
  unfold addSpans
  generalize List.range Config.columns = cols
  induction cols generalizing plane with
  | nil => exact hw
  | cons x rest ih => exact ih (memWf_hitColumn vectors pts x hw)

theorem memWf_fillRow {m : Memory} (a : Nat) (b : Byte) (n : Nat) (hw : memWf m = true) : memWf (fillRow m a b n) = true := by
  induction n generalizing m a with
  | zero => exact hw
  | succ n ih => exact ih (a + 1) (memWf_memSet a b hw)

theorem memWf_fillRows {m : Memory} (x y n : Nat) (b : Byte) (k : Nat) (hw : memWf m = true) :
    memWf (fillRows m x y n b k) = true := by
  induction k generalizing m y with
  | zero => exact hw
  | succ k ih => exact ih (y + 1) (memWf_fillRow _ b n hw)

theorem memWf_writePixels (x y : Int) (w k : Nat) (bs : List Byte) {acc : Memory × Nat} (hw : memWf acc.1 = true) :
    memWf (writePixels x y w k bs acc).1 = true := by
  induction bs generalizing k acc with
  | nil => exact hw
  | cons b rest ih =>
      simp only [writePixels]
      apply ih
      split
      · exact memWf_memSet _ b hw
      · exact hw

theorem memWf_decay (persist : Int) (planes : PerChan Memory) (c : Chan) (hw : memWf (planes.get c) = true) :
    memWf ((decayPlanes persist planes).get c) = true := by
  unfold decayPlanes
  split
  · simpa using memWf_memMap _ hw
  · exact hw

/-- A completed segment written to acquisition memory keeps the canonical form. -/
theorem memWf_writeSegment (recordBytes : Nat) (r : Record) {mem : Memory} (hw : memWf mem = true) :
    memWf (writeSegment recordBytes r mem) = true := by
  unfold writeSegment
  generalize enabledChans r.setup = en
  induction en generalizing mem with
  | nil => exact hw
  | cons c rest ih => exact ih (memWf_memSetMany _ _ hw)

end Sys2Proof.Machine
end

