-- ==== Sys2Proof/Laws/PerInstr.lean ====
section
/-! SUPPORT. A statement about every command as syntax, one lemma per constructor: the payload of a well-formed request is at
most 4,200 bytes long, as the form check of R190 asks. -/

namespace Sys2Proof.Laws.Framing

def Statement (i : Instr) : Prop :=
  i.wf = true → ∀ x, payloadOf i = some x → x.2.2.length ≤ Config.maxPayload

theorem of_none {i : Instr} (h : payloadOf i = none) : Statement i := fun _ x hx => by simp [h] at hx

theorem of_some {i : Instr} {l : Link} {t : Byte} {p : List Byte} (h : payloadOf i = some (l, t, p))
    (hp : i.wf = true → p.length ≤ Config.maxPayload) : Statement i := fun hw x hx => by
  obtain rfl : (l, t, p) = x := Option.some.inj (h.symm.trans hx)
  exact hp hw

@[simp] theorem le16_length (v : BitVec 16) : (le16 v).length = 2 := rfl
@[simp] theorem le32_length (v : Word) : (le32 v).length = 4 := rfl

@[simp] theorem flattenTriples_length (cs : List (Byte × Byte × Byte)) : (flattenTriples cs).length = 3 * cs.length := by
  induction cs with
  | nil => rfl
  | cons c rest ih => simp [flattenTriples, ih]; omega

theorem setupGet (l t ids) : Statement (.setupGet l t ids) := of_some rfl fun hw => by
  simp [Instr.wf, suitsSetupGet] at hw; simp [Config.maxPayload]; omega
theorem setupChanges (x0 x1 x2) : Statement (.setupChanges x0 x1 x2) := of_some rfl fun _ => by simp [Config.maxPayload]
theorem setupSet (x0 x1 x2 x3) : Statement (.setupSet x0 x1 x2 x3) := of_some rfl fun _ => by simp [Config.maxPayload]
theorem setupDefault (x0 x1) : Statement (.setupDefault x0 x1) := of_some rfl fun _ => by simp [Config.maxPayload]
theorem batchOpen (x0 x1) : Statement (.batchOpen x0 x1) := of_some rfl fun _ => by simp [Config.maxPayload]
theorem batchStage (x0 x1 x2 x3) : Statement (.batchStage x0 x1 x2 x3) := of_some rfl fun _ => by simp [Config.maxPayload]
theorem batchCommit (l t form) : Statement (.batchCommit l t form) := by
  cases form <;> exact of_some rfl fun _ => by simp [Config.maxPayload]
theorem batchDrop (x0 x1) : Statement (.batchDrop x0 x1) := of_some rfl fun _ => by simp [Config.maxPayload]
theorem panelTake (x0 x1 x2) : Statement (.panelTake x0 x1 x2) := of_some rfl fun _ => by simp [Config.maxPayload]
theorem panelQueueConfig (x0 x1 x2 x3 x4) : Statement (.panelQueueConfig x0 x1 x2 x3 x4) := of_some rfl fun _ => by simp [Config.maxPayload]
theorem panelQueueGet (x0 x1) : Statement (.panelQueueGet x0 x1) := of_some rfl fun _ => by simp [Config.maxPayload]
theorem panelRouteGet (x0 x1 x2) : Statement (.panelRouteGet x0 x1 x2) := of_some rfl fun _ => by simp [Config.maxPayload]
theorem panelRouteSet (x0 x1 x2 x3 x4 x5 x6 x7 x8 x9 x10 x11 x12 x13) : Statement (.panelRouteSet x0 x1 x2 x3 x4 x5 x6 x7 x8 x9 x10 x11 x12 x13) := of_some rfl fun _ => by simp [Config.maxPayload]
theorem panelDefaultGet (x0 x1) : Statement (.panelDefaultGet x0 x1) := of_some rfl fun _ => by simp [Config.maxPayload]
theorem panelDefaultSet (x0 x1 x2) : Statement (.panelDefaultSet x0 x1 x2) := of_some rfl fun _ => by simp [Config.maxPayload]
theorem panelLedSet (x0 x1 x2 x3) : Statement (.panelLedSet x0 x1 x2 x3) := of_some rfl fun _ => by simp [Config.maxPayload]
theorem panelLedGet (x0 x1 x2) : Statement (.panelLedGet x0 x1 x2) := of_some rfl fun _ => by simp [Config.maxPayload]
theorem panelLedConfig (x0 x1 x2 x3 x4 x5) : Statement (.panelLedConfig x0 x1 x2 x3 x4 x5) := of_some rfl fun _ => by simp [Config.maxPayload]
theorem lockoutSet (x0 x1 x2) : Statement (.lockoutSet x0 x1 x2) := of_some rfl fun _ => by simp [Config.maxPayload]
theorem acqRun (x0 x1) : Statement (.acqRun x0 x1) := of_some rfl fun _ => by simp [Config.maxPayload]
theorem acqSingle (x0 x1) : Statement (.acqSingle x0 x1) := of_some rfl fun _ => by simp [Config.maxPayload]
theorem acqStop (x0 x1) : Statement (.acqStop x0 x1) := of_some rfl fun _ => by simp [Config.maxPayload]
theorem acqForce (x0 x1) : Statement (.acqForce x0 x1) := of_some rfl fun _ => by simp [Config.maxPayload]
theorem acqStatus (x0 x1) : Statement (.acqStatus x0 x1) := of_some rfl fun _ => by simp [Config.maxPayload]
theorem recList (x0 x1) : Statement (.recList x0 x1) := of_some rfl fun _ => by simp [Config.maxPayload]
theorem recHeader (x0 x1 x2 x3 x4) : Statement (.recHeader x0 x1 x2 x3 x4) := of_some rfl fun _ => by simp [Config.maxPayload]
theorem recRead (x0 x1 x2 x3 x4 x5 x6 x7) : Statement (.recRead x0 x1 x2 x3 x4 x5 x6 x7) := of_some rfl fun _ => by simp [Config.maxPayload]
theorem recPin (x0 x1 x2) : Statement (.recPin x0 x1 x2) := of_some rfl fun _ => by simp [Config.maxPayload]
theorem recUnpin (x0 x1 x2) : Statement (.recUnpin x0 x1 x2) := of_some rfl fun _ => by simp [Config.maxPayload]
theorem recRelease (x0 x1 x2) : Statement (.recRelease x0 x1 x2) := of_some rfl fun _ => by simp [Config.maxPayload]
theorem recSubscribe (x0 x1 x2) : Statement (.recSubscribe x0 x1 x2) := of_some rfl fun _ => by simp [Config.maxPayload]
theorem recNoticeConfig (x0 x1 x2 x3) : Statement (.recNoticeConfig x0 x1 x2 x3) := of_some rfl fun _ => by simp [Config.maxPayload]
theorem recNoticeGet (x0 x1) : Statement (.recNoticeGet x0 x1) := of_some rfl fun _ => by simp [Config.maxPayload]
theorem dispStatus (x0 x1) : Statement (.dispStatus x0 x1) := of_some rfl fun _ => by simp [Config.maxPayload]
theorem dispClear (x0 x1) : Statement (.dispClear x0 x1) := of_some rfl fun _ => by simp [Config.maxPayload]
theorem dispOverlay (l t x y w h ix) : Statement (.dispOverlay l t x y w h ix) := of_some rfl fun hw => by
  simp [Instr.wf, suitsOverlay] at hw; simp; omega
theorem dispOverlayFill (x0 x1 x2 x3 x4 x5 x6) : Statement (.dispOverlayFill x0 x1 x2 x3 x4 x5 x6) := of_some rfl fun _ => by simp [Config.maxPayload]
theorem dispPalette (l t f m cs) : Statement (.dispPalette l t f m cs) := of_some rfl fun hw => by
  simp [Instr.wf, suitsPalette] at hw; simp [Config.maxPayload]; omega
theorem dispPaletteGet (x0 x1 x2 x3) : Statement (.dispPaletteGet x0 x1 x2 x3) := of_some rfl fun _ => by simp [Config.maxPayload]
theorem storeSave (x0 x1 x2 x3) : Statement (.storeSave x0 x1 x2 x3) := of_some rfl fun _ => by simp [Config.maxPayload]
theorem storeRecall (x0 x1 x2) : Statement (.storeRecall x0 x1 x2) := of_some rfl fun _ => by simp [Config.maxPayload]
theorem storeErase (x0 x1 x2) : Statement (.storeErase x0 x1 x2) := of_some rfl fun _ => by simp [Config.maxPayload]
theorem storeLock (x0 x1 x2 x3) : Statement (.storeLock x0 x1 x2 x3) := of_some rfl fun _ => by simp [Config.maxPayload]
theorem storeList (x0 x1) : Statement (.storeList x0 x1) := of_some rfl fun _ => by simp [Config.maxPayload]
theorem storeCancel (x0 x1) : Statement (.storeCancel x0 x1) := of_some rfl fun _ => by simp [Config.maxPayload]
theorem storeResult (x0 x1) : Statement (.storeResult x0 x1) := of_some rfl fun _ => by simp [Config.maxPayload]
theorem linkStatus (x0 x1) : Statement (.linkStatus x0 x1) := of_some rfl fun _ => by simp [Config.maxPayload]
theorem linkConfig (x0 x1 x2 x3) : Statement (.linkConfig x0 x1 x2 x3) := of_some rfl fun _ => by simp [Config.maxPayload]
theorem linkClearNotices (x0 x1 x2) : Statement (.linkClearNotices x0 x1 x2) := of_some rfl fun _ => by simp [Config.maxPayload]
theorem powerStandby (x0 x1) : Statement (.powerStandby x0 x1) := of_some rfl fun _ => by simp [Config.maxPayload]
theorem frameMalformed (x0 x1) : Statement (.frameMalformed x0 x1) := of_none rfl
theorem writeRefusedBusy (x0 x1) : Statement (.writeRefusedBusy x0 x1) := of_none rfl
theorem linkResetAssert (x0) : Statement (.linkResetAssert x0) := of_none rfl
theorem linkResetRelease (x0) : Statement (.linkResetRelease x0) := of_none rfl
theorem keyLineChange (x0 x1) : Statement (.keyLineChange x0 x1) := of_none rfl
theorem debounceExpiry (x0) : Statement (.debounceExpiry x0) := of_none rfl
theorem encoderLineChange (x0 x1 x2) : Statement (.encoderLineChange x0 x1 x2) := of_none rfl
theorem queueTimerExpiry (x0) : Statement (.queueTimerExpiry x0) := of_none rfl
theorem recordTimerExpiry (x0) : Statement (.recordTimerExpiry x0) := of_none rfl
theorem quietTimerExpiry : Statement .quietTimerExpiry := of_none rfl
theorem holdoffExpiry : Statement .holdoffExpiry := of_none rfl
theorem autoTimerExpiry : Statement .autoTimerExpiry := of_none rfl
theorem frameEvent : Statement .frameEvent := of_none rfl
theorem sample (x0 x1) : Statement (.sample x0 x1) := of_none rfl
theorem spanPass : Statement .spanPass := of_none rfl
theorem transmissionComplete : Statement .transmissionComplete := of_none rfl
theorem panelPresentChange (x0) : Statement (.panelPresentChange x0) := of_none rfl
theorem lockChange (x0) : Statement (.lockChange x0) := of_none rfl
theorem eepromReadComplete (x0) : Statement (.eepromReadComplete x0) := of_none rfl
theorem pageWriteComplete : Statement .pageWriteComplete := of_none rfl
theorem eepromAccessFault : Statement .eepromAccessFault := of_none rfl
theorem powerOn (x0) : Statement (.powerOn x0) := of_none rfl

end Sys2Proof.Laws.Framing
end

