-- ==== Sys2Proof/Laws/Requests.lean ====
section
/-! SUPPORT. What a link does with a request (R187 to R190): the frame is not taken, refused, judged, or handed to its owner; and
what an answer leaves. -/

namespace Sys2Proof.Machine

theorem beginRequest_eq (l : Link) (tag kind : Byte) (s : State) : beginRequest l tag kind s = working l tag kind s := rfl

/-- The answer to a request in work, whatever its owner has changed meanwhile but for the link. -/
theorem answer_of_working {l : Link} {tag kind : Byte} {s t : State} (status : Status) (payload : Payload)
    (h : t.links = (working l tag kind s).links) :
    answer l status payload t = replied l tag status payload (t.withLinks s.links) := by
  unfold answer replied setLink
  rw [h]
  simp [working]

/-- The answer to a request that changes nothing. -/
theorem answer_working (l : Link) (tag kind : Byte) (status : Status) (payload : Payload) (s : State) :
    answer l status payload (working l tag kind s) = replied l tag status payload s :=
  answer_of_working status payload rfl

/-- A link that takes no transfer leaves the state as it is. -/
theorem takeRequest_closed {l : Link} {s : State} (tag kind : Byte) (ok : Bool) (owner : State → Result)
    (h : takesTransfers (s.links.get l) = false) : takeRequest l tag kind ok owner s = .next s := by
  simp [takeRequest, h]

/-- With READY low a frame is refused BUSY. -/
theorem takeRequest_busy {l : Link} {s : State} (tag kind : Byte) (ok : Bool) (owner : State → Result)
    (h : takesTransfers (s.links.get l) = true) (hr : (s.links.get l).ready = false) :
    takeRequest l tag kind ok owner s = .next (refuseBusy l tag s) := by
  simp [takeRequest, h, hr]

/-- With READY high a frame is taken and judged. -/
theorem takeRequest_ready {l : Link} {s : State} (tag kind : Byte) (ok : Bool) (owner : State → Result) (h : ready l s) :
    takeRequest l tag kind ok owner s = judgeRequest l kind ok owner (working l tag kind s) := by
  simp [takeRequest, h.1, h.2, beginRequest_eq]

/-- A frame whose form, kind or length fails is MALFORMED. -/
theorem judge_malformed (l : Link) (tag kind : Byte) (owner : State → Result) (s : State) :
    judgeRequest l kind false owner (working l tag kind s) = .next (replied l tag .malformed .nothing s) := by
  simp [judgeRequest, answer_working]

/-- Outside ACTIVE every kind but LINK.STATUS is IN_STANDBY. -/
theorem judge_inStandby (l : Link) (tag : Byte) {kind : Byte} (owner : State → Result) {s : State}
    (hp : s.power.state ≠ .active) (hk : kind ≠ linkStatusKind) :
    judgeRequest l kind true owner (working l tag kind s) = .next (replied l tag .inStandby .nothing s) := by
  have h : (working l tag kind s).power.state ≠ .active := hp
  simp [judgeRequest, h, hk, answer_working]

/-- A taking link hands a request to its owner, a long one only while its deferred result is EMPTY. -/
theorem takeRequest_taking {l : Link} {s : State} (tag kind : Byte) (owner : State → Result) (h : taking l s)
    (hd : longKind kind = true → (s.links.get l).deferred = .empty) :
    takeRequest l tag kind true owner s = owner (working l tag kind s) := by
  obtain ⟨h1, h2, h3⟩ := h
  rw [takeRequest_ready tag kind true owner ⟨h1, h2⟩]
  have hp : (working l tag kind s).power.state = .active := h3
  have hw : longKind kind = true → ((working l tag kind s).links.get l).deferred = .empty := by simpa [working] using hd
  simp only [judgeRequest, hp]
  by_cases hk : longKind kind = true
  · simp [hw hk]
  · simp [hk]

/-- A request that is not long, whatever the deferred result. -/
theorem request_taking {l : Link} {s : State} (tag : Byte) {kind : Byte} (owner : State → State) (h : taking l s)
    (hk : longKind kind = false) : request l tag kind owner s = .next (owner (working l tag kind s)) :=
  takeRequest_taking tag kind _ h (fun hl => by simp [hk] at hl)

/-- A long request of a link whose deferred result is EMPTY. -/
theorem request_takingLong {l : Link} {s : State} (tag kind : Byte) (owner : State → State) (h : takingLong l s) :
    request l tag kind owner s = .next (owner (working l tag kind s)) :=
  takeRequest_taking tag kind _ h.1 (fun _ => h.2)

end Sys2Proof.Machine
end

