-- ==== Sys2Proof/Laws/SavedSetups.lean ====
section
/-! SUPPORT. The Store Controller: what its operations never touch; only the commit of a recall reaches the live setup. -/

namespace Sys2Proof.Machine

@[simp] theorem kept_setEntry (n : Fin 12) (e : DirEntry) (s : State) : kept (setEntry n e s) = kept s := rfl

@[simp] theorem kept_setOp (op : Option Op) (s : State) : kept (setOp op s) = kept s := rfl

@[simp] theorem kept_deliver (op : Op) (st : Status) (p : Payload) (s : State) : kept (deliver op st p s) = kept s := by
  unfold deliver
  split
  · rfl
  · split
    · rfl
    · exact kept_finalStatus ..

@[simp] theorem kept_serviceKnown (op : Op) (s : State) : kept (serviceKnown op s).1 = kept s := by
  unfold serviceKnown; dsimp only
  split
  · split <;> rfl
  · rfl
  · split <;> rfl
  · split <;> rfl
  · split
    · rfl
    · split <;> rfl
    · rfl

@[simp] theorem kept_beginService (op : Op) (s : State) : kept (beginService op s).1 = kept s := by
  unfold beginService; split
  · rfl
  · exact kept_serviceKnown op s

@[simp] theorem kept_savedReport (s : State) : kept (savedReport s) = kept s := by
  unfold savedReport; rw [kept_tryStandby]; rfl

@[simp] theorem kept_finalAutosave (s : State) : kept (finalAutosave s) = kept s := by
  have hb : ∀ (op : Op) (t : State), kept (beginService op t).1 = kept t := kept_beginService
  unfold finalAutosave
  dsimp only
  split
  · rw [kept_savedReport]; rfl
  · split
    · next s2 h => exact (congrArg (fun x => kept x.1) h).symm.trans (hb _ _)
    · next s2 r h => rw [kept_savedReport]; exact (congrArg (fun x => kept x.1) h).symm.trans (hb _ _)

@[simp] theorem kept_storeAtRest (s : State) : kept (storeAtRest s) = kept s := by
  have h1 : kept (if s.saved.ctrl = .busy then s.withSaved { s.saved with ctrl := .idle } else s) = kept s := by
    split <;> rfl
  unfold storeAtRest
  dsimp only
  generalize (if s.saved.ctrl = .busy then s.withSaved { s.saved with ctrl := .idle } else s) = t at h1 ⊢
  split
  · split
    · exact (kept_savedReport t).trans h1
    · exact (kept_finalAutosave t).trans h1
  · exact h1

@[simp] theorem kept_serveQueue (n : Nat) (s : State) : kept (serveQueue n s) = kept s := by
  induction n generalizing s with
  | zero => rfl
  | succ n ih =>
      unfold serveQueue
      split
      · rfl
      · exact kept_storeAtRest s
      · next req rest ho hq =>
          split
          · next s1 h => exact (congrArg (fun x => kept x.1) h).symm.trans (kept_beginService _ _)
          · next s1 r h =>
              rw [ih, kept_deliver, kept_setOp]
              exact (congrArg (fun x => kept x.1) h).symm.trans (kept_beginService _ _)

@[simp] theorem kept_serveNext (s : State) : kept (serveNext s) = kept s := kept_serveQueue _ s

@[simp] theorem kept_endOp (op : Op) (st : Status) (p : Payload) (s : State) : kept (endOp op st p s) = kept s := by
  unfold endOp; simp

@[simp] theorem kept_storeRequest (l : Link) (t k : Byte) (kind : StoreKind) (ok : Bool) (slot : Byte) (s : State) :
    kept (storeRequest l t k kind ok slot s) = kept s := by
  unfold storeRequest; split <;> simp

@[simp] theorem kept_lockRead (op : Op) (on : Bool) (img : Image) (s : State) : kept (lockRead op on img s) = kept s := by
  unfold lockRead; split
  · simp
  · split <;> simp
  · simp

@[simp] theorem kept_writeEnds (op : Op) (img : Image) (g : Word) (s : State) : kept (writeEnds op img g s) = kept s := by
  unfold writeEnds; dsimp only; split <;> simp

@[simp] theorem kept_opPage (s : State) : kept (opPage s) = kept s := by
  unfold opPage; split
  · rfl
  · split
    · split <;> simp
    · simp
    · simp
    · rfl

@[simp] theorem kept_opFault (s : State) : kept (opFault s) = kept s := by
  unfold opFault; split
  · rfl
  · split <;> simp

@[simp] theorem kept_autosaveOffer (s : State) : kept (autosaveOffer s) = kept s := by
  unfold autosaveOffer
  dsimp only
  generalize (s.saved.queue.any _ || _) = inHand
  split
  · rfl
  · rw [kept_serveNext]; rfl

@[simp] theorem kept_cancelRequest (l : Link) (s : State) : kept (cancelRequest l s) = kept s := by
  unfold cancelRequest; split
  · simp
  · split
    · split <;> simp
    · simp

@[simp] theorem kept_resetStore (l : Link) (s : State) : kept (resetStore l s) = kept s := rfl

@[simp] theorem kept_cancelStore (s : State) : kept (cancelStore s) = kept s := by
  have hf : ∀ (q : List StoreReq) (t : State),
      kept (q.foldl (fun t req => deliver (opOf req) .cancelled .nothing t) t) = kept t := by
    intro q
    induction q with
    | nil => intro t; rfl
    | cons r rest ih => intro t; simp [ih]
  unfold cancelStore
  dsimp only
  split
  · rw [kept_storeAtRest, hf]; rfl
  · rw [hf]; rfl

end Sys2Proof.Machine
end

