-- ==== Sys2Proof/Laws/Streams.lean ====
section
/-! SUPPORT. What following the converter streams can do (R67; log 13): one lemma per operation, and the fields each leaves. -/

namespace Sys2Proof.Machine

/-- Another enabled set has the streams followed afresh, the same one leaves them. -/
theorem routeStreams_cases (old new : Setup) (s : State) :
    (enabledChans old = enabledChans new ∧ routeStreams old new s = s) ∨
    (enabledChans old ≠ enabledChans new ∧ routeStreams old new s = s.withSeq { s.seq with front := startFront }) := by
  by_cases h : enabledChans old = enabledChans new
  · exact .inl ⟨h, if_pos h⟩
  · exact .inr ⟨h, if_neg h⟩

/-- The streams are followed already, or begin at this core's code and take one choice. -/
theorem followStreams_cases (en : List Chan) (core : Fin 4) (s : State) :
    (s.seq.front.routing = some en ∧ followStreams en core s = s) ∨
    (s.seq.front.routing ≠ some en ∧
      followStreams en core s = (s.withRaces s.races.tail).withSeq { s.seq with front := beginStreams en s.races.head core }) := by
  by_cases h : s.seq.front.routing = some en
  · exact .inl ⟨h, if_pos h⟩
  · exact .inr ⟨h, if_neg h⟩

@[simp] theorem beginStreams_routing (en : List Chan) (free : Nat) (core : Fin 4) :
    (beginStreams en free core).routing = some en := rfl
@[simp] theorem beginStreams_waiting (en : List Chan) (free : Nat) (core : Fin 4) :
    (beginStreams en free core).waiting = Vector.replicate 4 [] := rfl

@[simp] theorem passFirst_routing (en : List Chan) (f : Front) : (passFirst en f).routing = f.routing := rfl
@[simp] theorem passFirst_waiting (en : List Chan) (f : Front) : (passFirst en f).waiting = Vector.replicate 4 [] := rfl
@[simp] theorem passFirst_doubt (en : List Chan) (f : Front) : (passFirst en f).doubt = Vector.replicate 4 false := rfl
@[simp] theorem passFirst_got (en : List Chan) (f : Front) (k : Fin 4) :
    (passFirst en f).got[k] = (f.got[k] || f.doubt[k]) := by simp [passFirst]
@[simp] theorem passFirst_skip (en : List Chan) (f : Front) (k : Fin 4) :
    (passFirst en f).skip[k] = (f.skip[k] && !f.doubt[k]) := by simp [passFirst]

/-- With no core in doubt nothing is passed over. -/
theorem endsDoubt_none {en : List Chan} {core : Fin 4} {f : Front} (h : ∀ k : Fin 4, f.doubt[k] = false) :
    endsDoubt en core f = false := by simp [endsDoubt, h]

/-- What a delivered code does to the streams: a new core period, or this core's code of the present one. -/
theorem coreDelivers_cases (en : List Chan) (core : Fin 4) (f : Front) :
    ∃ f1, f1 = (if endsDoubt en core f then passFirst en f else f) ∧
      ((f1.got[core] = true ∧ coreDelivers en core f =
          { f1 with got := Vector.ofFn fun c => decide (c = core), skip := Vector.replicate 4 false }) ∨
        (f1.got[core] = false ∧ coreDelivers en core f =
          { f1 with got := f1.got.set core true, doubt := f1.doubt.set core false })) := by
  refine ⟨_, rfl, ?_⟩
  dsimp only [coreDelivers]
  generalize (if endsDoubt en core f then passFirst en f else f) = f1
  cases h : f1.got[core]
  · exact .inr ⟨rfl, if_neg (by simp)⟩
  · exact .inl ⟨rfl, if_pos rfl⟩

@[simp] theorem coreDelivers_routing (en : List Chan) (core : Fin 4) (f : Front) :
    (coreDelivers en core f).routing = f.routing := by
  obtain ⟨f1, rfl, ⟨-, h⟩ | ⟨-, h⟩⟩ := coreDelivers_cases en core f <;> rw [h] <;> split <;> rfl

end Sys2Proof.Machine
end

