-- ==== Sys2Proof/Tests/Slice0.lean ====
section
/-! SUPPORT. Own tests, expected values from the manual, and a witness for the hypotheses of each statement. -/

open Sys2Proof Sys2Proof.Machine

namespace Sys2Proof.Tests

/-! ### Small states -/

/-- A part that is up and ACTIVE with both links open and READY high, the run STOPPED, its choices to come named. -/
def up : State :=
  ((State.reset.withLinks (.both { startLink with opened := true, ready := true })).withPower
    { startPower with mainPower := true, phase := .up }).withRaces ⟨List.replicate 8 0, 0⟩

/-- Commands run one after another. -/
def after : List Instr → State → State
  | [], s => s
  | c :: rest, s =>
      match exec c s with
      | .next t => after rest t
      | _ => s

/-- The console link's response after one command. -/
def answerTo (c : Instr) (s : State) : Option Response := (after [c] s).links.console.response

/-- An EEPROM slot that was never written. -/
def erased : Vector Byte 192 := Vector.replicate 192 0xFF#8

/-! ### Well-formedness refuses ill-formed requests -/

theorem test_wf_setupGet_none : (Instr.setupGet .console 1 []).wf = false := by decide
theorem test_wf_setupGet_many : (Instr.setupGet .console 1 (List.replicate 45 0#8)).wf = false := by decide
theorem test_wf_dispOverlay : (Instr.dispOverlay .console 1 0 0 2 2 [1, 2, 3]).wf = false := by decide
theorem test_wf_dispPalette : (Instr.dispPalette .console 1 1 2 [(1, 2, 3)]).wf = false := by decide
theorem test_wf_good : (Instr.dispPalette .console 1 1 1 [(1, 2, 3)]).wf = true := by decide

/-! ### Frames, written out from the layouts of section 10.5 -/

theorem test_frame_setupSet :
    decodeFrame .remote [7#8, 0x12#8, 5#8, 0#8, 49#8, 7#8, 0#8, 0#8, 0#8] = some (.setupSet .remote 7 49 7#32) := by decide
theorem test_frame_recHeader :
    decodeFrame .console [9#8, 0x41#8, 7#8, 0#8, 3#8, 0#8, 0#8, 0#8, 2#8, 0#8, 4#8] =
      some (.recHeader .console 9 3#32 2#16 4) := by decide
theorem test_frame_batchCommit_unset :
    decodeFrame .console [1#8, 0x16#8, 0#8, 0#8] = some (.batchCommit .console 1 none) := by decide
theorem test_frame_kind_unknown : decodeFrame .console [1#8, 0x18#8, 0#8, 0#8] = none := by decide
theorem test_frame_short : decodeFrame .console [1#8, 0x30#8, 0#8] = none := by decide
theorem test_frame_length_wrong : decodeFrame .console [1#8, 0x30#8, 1#8, 0#8] = none := by decide

/-! ### Requests -/

theorem test_setupGet : answerTo (.setupGet .console 3 [32]) up = some ⟨3, .ok, .setupValues 1 [(.tbScale, 18, 1)]⟩ := by
  decide
theorem test_setupChanges_at_live : answerTo (.setupChanges .console 4 1) up = some ⟨4, .ok, .changes 1 []⟩ := by decide
theorem test_setupSet_clamps :
    answerTo (.setupSet .console 5 32 99) up = some ⟨5, .applied, .applied 2 true false⟩ := by decide
theorem test_setupSet_last_channel : answerTo (.setupSet .console 5 0 0) up = some ⟨5, .constraint, .nothing⟩ := by decide
theorem test_setupDefault_unchanged :
    answerTo (.setupDefault .console 5) up = some ⟨5, .unchanged, .installed 1 false⟩ := by decide
theorem test_batchStage_closed : answerTo (.batchStage .console 2 8 1) up = some ⟨2, .noBatch, .nothing⟩ := by decide
theorem test_batchCommit_empty :
    answerTo (.batchCommit .console 3 none) (after [.batchOpen .console 2] up) =
      some ⟨3, .unchanged, .installed 1 false⟩ := by decide
theorem test_panelTake_range : answerTo (.panelTake .console 2 33) up = some ⟨2, .invalid, .nothing⟩ := by decide
theorem test_panelQueueGet : answerTo (.panelQueueGet .console 2) up = some ⟨2, .ok, .queue .hold 1 20 0 0⟩ := by decide
theorem test_panelRouteGet :
    answerTo (.panelRouteGet .console 2 4) up =
      some ⟨2, .ok, .route ⟨true, .range, 3, 3, 1, .any, false, .edit, 42, 0, 4⟩⟩ := by decide
theorem test_lockoutSet_console : answerTo (.lockoutSet .console 2 1) up = some ⟨2, .notPermitted, .nothing⟩ := by decide
theorem test_acqForce_idle :
    answerTo (.acqForce .console 2) up = some ⟨2, .ignored, .acq .stopped .idle false false⟩ := by decide
theorem test_recList_none : answerTo (.recList .console 2) up = some ⟨2, .ok, .records [] 16 0 0⟩ := by decide
theorem test_recPin_gone : answerTo (.recPin .console 2 5) up = some ⟨2, .gone, .nothing⟩ := by decide
theorem test_dispOverlay_clipped :
    answerTo (.dispOverlay .console 2 (BitVec.ofInt 16 (-1)) 0 2 1 [7, 9]) up = some ⟨2, .truncated, .pixels 1⟩ := by decide
theorem test_dispOverlayFill_corner :
    memGet (after [.dispOverlayFill .console 2 799 479 5 5 6] up).disp.overlay.console (479 * 800 + 799) = 6#8 := by decide
theorem test_dispPalette_end :
    answerTo (.dispPalette .console 2 255 2 [(1, 2, 3), (4, 5, 6)]) up = some ⟨2, .truncated, .entries 1⟩ := by decide
theorem test_storeSave_scanning_slot0 :
    answerTo (.storeSave .console 2 0 (Vector.replicate 8 0x41#8)) up = some ⟨2, .notPermitted, .nothing⟩ := by decide
theorem test_storeResult_empty : answerTo (.storeResult .console 2) up = some ⟨2, .ignored, .nothing⟩ := by decide
theorem test_linkConfig_bit7 : answerTo (.linkConfig .console 2 1 128) up = some ⟨2, .invalid, .nothing⟩ := by decide

/-! ### Events -/

theorem test_key_bounce :
    (after [.keyLineChange 10 true, .keyLineChange 10 false, .debounceExpiry 10] up).queues.console.entries = [] := by decide
theorem test_key_press :
    (after [.keyLineChange 10 true, .debounceExpiry 10] up).queues.console.entries = [⟨10, .press, 0, 0, none⟩] := by decide
theorem test_encoder_turn :
    (after [.encoderLineChange 11 false true, .encoderLineChange 11 false false, .encoderLineChange 11 true false,
      .encoderLineChange 11 true true] up).queues.console.entries = [⟨75, .turn, 1, 0, none⟩] := by decide
theorem test_panel_edit :
    (after [.keyLineChange 3 true, .debounceExpiry 3] up).setup.live.get .trigMode = 1 := by decide
theorem test_link_reset :
    (after [.linkResetAssert .console] up).links.console =
      ⟨true, true, false, none, none, none, .hold, .empty, 0, 0⟩ := by decide
theorem test_display_lock :
    (after [.panelPresentChange true, .lockChange true] up).disp.link = .locked := by decide
theorem test_classify_erased : classify erased = .empty := by decide
theorem test_frame_finishes_transmission :
    (after [.frameEvent, .frameEvent] (up.withDisp { up.disp with frameTimer := some 1, link := .locked })).disp.sent = 1 := by
  decide

/-! ### Transfers, sampling instants, EEPROM accesses -/

theorem test_transfer_read_none :
    shiftedOut .console [0x5A#8, 0#8, 0#8, 0#8, 0#8, 0#8, 0#8] up = [0, 0, 0x1A, 0, 0, 0, 0] := by decide
theorem test_transfer_other_code : endTransfer .console [0x5B#8, 7#8, 0x30#8, 0#8, 0#8] up = .next up := rfl
theorem test_transfer_write :
    endTransfer .console [0xA5#8, 7#8, 0x34#8, 0#8, 0#8] up = exec (.acqStatus .console 7) up := rfl
theorem test_instants_one_channel : instantCores [.ch3] = [[0], [1], [2], [3]] := by decide
theorem test_instants_two_pairs : instantCores [.ch2, .ch3] = [[0, 2], [1, 3]] := by decide
theorem test_instants_two_partners : instantCores [.ch1, .ch2] = [[0, 1]] := by decide

/-- A record granted once core 1 has delivered begins with the instant of cores 2 and 4, and passes core 3's code over. -/
theorem test_front_aligned :
    alignFront [.ch1, .ch3] (coreDelivers [.ch1, .ch3] 0 startFront) =
      ⟨none, #v[true, false, false, false], .replicate 4 false, #v[false, false, true, false], 1, #v[[], [], [], []]⟩ := by decide

/-- R202, R203: one TURN record of control 64, with two entries left. -/
theorem test_answer_bytes :
    responseBytes ⟨9, .ok, .taken [⟨64, .turn, -1, 258, none⟩] 2 0⟩ =
      [9, 0, 12, 0, 1, 2, 0, 0, 64, 2, 255, 255, 2, 1, 0, 0] := by decide
theorem test_page_address : pageAddress 11 5 = 2976 := by decide

/-! ### Witnesses: states and operands that meet the hypotheses of each statement, clause by clause

Each names the statement it is for; `up` takes requests on both links. -/

/-- `up` with the lockout state REMOTE. -/
def lockedUp : State := up.withRouter { up.router with lockout := .remote }

/-- `up` with one link's record changed. -/
def upLink (k : LinkState) : State := up.withLinks (.both k)

/-- An opened link with READY high. -/
def openLinkState : LinkState := { startLink with opened := true, ready := true }

/-- `up` with the sequencer changed. -/
def upSeq (q : Sequencer) : State := up.withSeq q

/-- `up` in a power state. -/
def upPower (p : PowerState) : State := up.withPower { up.power with state := p }

/-- The header of record 1 of the factory setup with one completed segment of 10 points. -/
def header1 : Header :=
  { number := 1, gen := 1, setup := factorySetup, k := 0, points := 10, trigIndex := 5, planned := 1, completed := 1
    outcome := some .full, clip := .all false, segments := [⟨0, 5, false⟩], drawn := .undrawn, prior := .undrawn
    pins := .both false, released := .both false }

/-- `up` with these slots. -/
def slotted (slots : List Slot) : State := up.withStore { up.store with slots := slots }

/-- `up` with one COMPLETE and one FILLING record. -/
def stored : State := slotted [.complete header1, .filling { header1 with number := 2, outcome := none }, .free]

/-- `up` with record 1 pinned by both links. -/
def pinned : State :=
  up.withStore { up.store with slots := [.complete { header1 with pins := .both true }], pinsList := .both [1] }

/-- `up` with the Store Controller IDLE and its slots EMPTY, but slot 3 locked and slot 4 CORRUPT. -/
def storeUp : State :=
  up.withSaved { up.saved with
    ctrl := .idle
    directory := ((Vector.replicate 12 .empty).set 3 (.valid lastLabel true 1 1)).set 4 .corrupt }

/-- A record in progress with only CH1 enabled and 2 samples a bin. -/
def record1 : Record :=
  { slot := 0, number := 1, gen := 1, setup := factorySetup, plan := ⟨0, 1, 10, 5, 1, 16384⟩, lower := 128, upper := 128
    segment := 0, completed := 0, bin := 0, armed := ⟨0, 50, 10⟩, trigger := none, detectors := ⟨false, false, .unknown⟩
    bins := .all ⟨0, 0, 255, 0, 0⟩, marks := .all false, before := [], after := [] }

/-- `up` RUNNING in a capture state with a record in progress. -/
def fillingWith (c : CapState) (r : Record) : State :=
  upSeq { startSequencer with run := .running, cap := c, current := some r, auto := some 1 }

def filling (c : CapState) : State := fillingWith c record1

/-- R67, R68: codes of one channel that come in the order of their instants, the first from core 2, are taken in that order. -/
theorem test_stream_from_core_2 :
    (after [.sample 1 20, .sample 2 30, .sample 3 40, .sample 0 50] (filling .armed)).seq.current.map (fun r =>
      (r.before, r.bins.ch1)) = some ([⟨[40], [], [], []⟩, ⟨[20], [], [], []⟩], emptyBin) := by decide

/-- `up` with an operation of the console link in flight. -/
def opUp (kind : StoreKind) (phase : OpPhase) : State :=
  up.withSaved { storeUp.saved with
    ctrl := .busy
    op := some ⟨⟨some .console, kind, 3, true⟩, false, false, phase⟩
    limit := some 5 }

theorem taking_up : ∀ l, taking l up := by intro l; cases l <;> exact ⟨rfl, rfl, rfl⟩
theorem taking_lockedUp : ∀ l, taking l lockedUp := by intro l; cases l <;> exact ⟨rfl, rfl, rfl⟩
theorem taking_slotted : ∀ slots l, taking l (slotted slots) := by intro slots l; cases l <;> exact ⟨rfl, rfl, rfl⟩
theorem taking_stored : ∀ l, taking l stored := taking_slotted _
theorem taking_pinned : ∀ l, taking l pinned := by intro l; cases l <;> exact ⟨rfl, rfl, rfl⟩
theorem takingLong_storeUp : ∀ l, takingLong l storeUp := by intro l; cases l <;> exact ⟨⟨rfl, rfl, rfl⟩, rfl⟩
theorem taking_filling : ∀ c l, taking l (filling c) := by intro c l; cases l <;> exact ⟨rfl, rfl, rfl⟩
theorem peace_up : atPeace up := ⟨rfl, rfl⟩
theorem peace_filling : ∀ c, atPeace (filling c) := fun _ => ⟨rfl, rfl⟩
theorem ready_up : ∀ l, ready l up := by intro l; cases l <;> exact ⟨rfl, rfl⟩
theorem locked_out : ¬ permitted .console lockedUp := by rintro (h | h) <;> cases h
theorem permitted_remote : ∀ s, permitted .remote s := fun _ => .inl rfl

theorem witness_IdleStepTakesExpiryOrNanosecond :
    State.reset.pending = [] ∧ State.reset.power.phase = .noSupply ∧ up.pending = [] ∧ up.power.phase ≠ .noSupply ∧
    due accessLimit (up.withSaved { up.saved with limit := some 0 }) ∧ ∀ act, ¬ due act storeUp := by
  refine ⟨rfl, rfl, rfl, by decide, .inr (.inr (.inr (.inr (.inr (.inr (.inr ⟨rfl, rfl⟩)))))), ?_⟩
  rintro act (⟨k, h, -⟩ | ⟨l, h, -⟩ | ⟨l, h, -⟩ | ⟨h, -⟩ | ⟨h, -⟩ | ⟨h, -⟩ | ⟨h, -⟩ | ⟨h, -⟩)
  · exact absurd h (by revert k; decide)
  · cases l <;> cases h
  · cases l <;> cases h
  all_goals cases h
theorem witness_ExecLeavesWaitingCommands : ∃ t, exec (.batchOpen .console 1) up = .next t := ⟨_, rfl⟩
theorem witness_FrameReadsBackAsRequest :
    (Instr.batchStage .console 1 2 3).wf = true ∧
    encodeFrame (.batchStage .console 1 2 3) = some (.console, [1, 0x15, 5, 0, 2, 3, 0, 0, 0]) := by decide
theorem witness_LinkRefusesBeforeOwner :
    (payloadOf (.acqRun .remote 7) = some (.remote, 7, []) ∧ takesTransfers (State.reset.links.get .remote) = false ∧
      takesTransfers ((upLink { openLinkState with resetLine := true }).links.get .remote) = false) ∧
    (takesTransfers ((upLink { openLinkState with ready := false }).links.get .console) = true ∧
      ((upLink { openLinkState with ready := false }).links.get .console).ready = false) ∧
    (ready .console up ∧ decodeFrame .console [] = none ∧
      payloadOf (.setupGet .console 1 []) = some (.console, 1, []) ∧ (Instr.setupGet .console 1 []).wf = false) ∧
    ((Instr.acqRun .remote 7).wf = true ∧ kindOf (.acqRun .remote 7) ≠ some 0x70#8 ∧ ready .remote (upPower .standby) ∧
      (upPower .standby).power.state ≠ .active) ∧
    (payloadOf (.powerStandby .remote 7) = some (.remote, 7, []) ∧ kindOf (.powerStandby .remote 7) = some 0x78#8 ∧
      ready .remote (upLink { openLinkState with deferred := .outstanding 1 0x60 }) ∧
      ((upLink { openLinkState with deferred := .outstanding 1 0x60 }).links.get .remote).deferred ≠ .empty) :=
  ⟨by decide, by decide, ⟨ready_up _, by decide⟩, ⟨by decide, by decide, ⟨rfl, rfl⟩, by decide⟩,
    ⟨by decide, by decide, ⟨rfl, rfl⟩, by decide⟩⟩
theorem witness_TransferByItsCode :
    (0xA4#8 ≠ 0xA5#8 ∧ 0xA4#8 ≠ 0x5A#8 ∧ 0x5B#8 ≠ 0xA5#8 ∧ 0x5B#8 ≠ 0x5A#8) ∧
    takesTransfers (up.links.get .console) = true ∧ (up.links.get .console).response = none ∧
    takesTransfers (State.reset.links.get .console) = false ∧
    ((upLink { openLinkState with response := some ⟨1, .ok, .nothing⟩ }).links.get .console).response =
      some ⟨1, .ok, .nothing⟩ ∧
    (∃ r, ((upLink { openLinkState with ready := false, refusal := some r }).links.get .console).ready = false ∧
      ((upLink { openLinkState with ready := false, refusal := some r }).links.get .console).refusal = some r) ∧
    ((upLink { openLinkState with ready := false }).links.get .console).refusal = none :=
  ⟨by decide, rfl, rfl, rfl, rfl, ⟨⟨2, .busy, .nothing⟩, rfl, rfl⟩, rfl⟩
theorem witness_LinkResetLineTearsDownAndReopens :
    (stored.links.get .remote).resetLine = false ∧ stored.store.held = false ∧
    ((upLink { openLinkState with resetLine := true }).links.get .remote).resetLine = true := ⟨rfl, rfl, rfl⟩
theorem witness_SetupGetAndChangesRead :
    taking .console up ∧ allFields.length = 44 ∧ (∃ b ∈ [0#8, 6#8], fieldOfId b.toNat = none) ∧
    fieldOfId 60 = some .viewPan ∧ fieldOfId 61 = none := ⟨taking_up _, by decide⟩

/-- Requested values with one that offends, with the last channel switched off, and with one that is accepted. -/
theorem witness_CommitRefusesOffenceOrNoChannel :
    ([(Field.trigMode, (2 : Int))].map Prod.fst).Nodup ∧ judge factorySetup none [(.trigMode, 2)] = .invalid .trigMode ∧
    judge factorySetup none [(.chOn .ch1, 0)] = .constraint ∧
    judge factorySetup none [(.trigType, 1)] = .invalid .trigSlope := by decide
theorem witness_CommitBuildsAdjustedCandidate :
    setupLegal factorySetup = true ∧ ([(Field.tbScale, (32 : Int))].map Prod.fst).Nodup ∧
    judge factorySetup (some 20) [(.tbScale, 32)] = .candidate (factorySetup.put .tbScale 29) ∧
    judge factorySetup none [(.chOn .ch1, 0), (.chOn .ch3, 1)] =
      .candidate (((factorySetup.put (.chOn .ch1) 0).put (.chOn .ch3) 1).put .trigSource 3) ∧
    chanOfNumber (factorySetup.get .trigSource) = some .ch1 := by decide

/-- The outcomes of a judgement: an enumerated value outside its set, the last channel switched off, a value already live,
and a new one. -/
theorem witness_SetupSetAndDefaultCommit :
    (taking .console up ∧ atPeace up ∧ taking .console lockedUp ∧ ¬ permitted .console lockedUp ∧ permitted .console up) ∧
    (atPeace (filling .armed) ∧ (filling .armed).seq.run ≠ .stopped) ∧
    commits .console 1 (.setupDefault .console 1) (allFields.map (fun f => (f, factorySetup.get f))) ∧
    commits .console 1 (.setupSet .console 1 42 1) [(.trigMode, 1)] ∧ fieldOfId 6 = none ∧
    judge up.setup.live (timebaseWindow up) [(.trigMode, 2)] = .invalid .trigMode ∧
    judge up.setup.live (timebaseWindow up) [(.chOn .ch1, 0)] = .constraint ∧
    judge up.setup.live (timebaseWindow up) [(.trigMode, 0)] = .candidate up.setup.live ∧
    judge up.setup.live (timebaseWindow up) [(.trigMode, 1)] = .candidate (up.setup.live.put .trigMode 1) ∧
    up.setup.live.put .trigMode 1 ≠ up.setup.live :=
  ⟨⟨taking_up _, peace_up, taking_lockedUp _, locked_out, .inr rfl⟩, ⟨peace_filling _, by decide⟩, .inl ⟨rfl, rfl⟩,
    .inr ⟨42, 1, .trigMode, by decide, rfl, by decide⟩, by decide⟩

/-- A request of the remote link for one field. -/
def setTo (f : Field) (v : Word) : Instr := .setupSet .remote 1 (fieldByte f) v

theorem commits_setTo (f : Field) (v : Word) (h : fieldOfId (fieldByte f).toNat = some f) :
    commits .remote 1 (setTo f v) [(f, v.toInt)] := .inr ⟨_, _, f, h, rfl, rfl⟩

/-- A commit in each part of the statement: of no change handed on, of a view field with and without a COMPLETE record, of a
capture field under a record of an older generation, of the layout, and of the retention with a request held. -/
theorem witness_CommitHandsOn :
    (∀ s ∈ [up, stored, filling .armed, up.withStore { up.store with held := true }],
      taking .remote s ∧ atPeace s ∧ permitted .remote s ∧ s.raster.chosen = none) ∧
    (commits .remote 1 (setTo .trigMode 1) [(.trigMode, 1)] ∧ commits .remote 1 (setTo .viewPan 7) [(.viewPan, 7)] ∧
      commits .remote 1 (setTo .tbScale 5) [(.tbScale, 5)] ∧ commits .remote 1 (setTo .acqDepth 0) [(.acqDepth, 0)] ∧
      commits .remote 1 (setTo .acqRetain 1) [(.acqRetain, 1)]) ∧
    (judge up.setup.live (timebaseWindow up) [(.trigMode, 1)] = .candidate (up.setup.live.put .trigMode 1) ∧
      judge stored.setup.live (timebaseWindow stored) [(.viewPan, 7)] = .candidate (stored.setup.live.put .viewPan 7) ∧
      judge (filling .armed).setup.live (timebaseWindow (filling .armed)) [(.tbScale, 5)] =
        .candidate ((filling .armed).setup.live.put .tbScale 5) ∧
      judge up.setup.live (timebaseWindow up) [(.acqDepth, 0)] = .candidate (up.setup.live.put .acqDepth 0) ∧
      judge up.setup.live (timebaseWindow up) [(.acqRetain, 1)] = .candidate (up.setup.live.put .acqRetain 1)) ∧
    (fieldClass .trigMode = .arming ∧ fieldClass .viewPan = .view ∧ fieldClass .tbScale = .capture ∧
      atOrAbove record1.gen ((filling .armed).setup.gen + 1) = false ∧ atOrAbove 2 ((filling .armed).setup.gen + 1) = true ∧
      up.seq.run = .stopped ∧ up.seq.current = none ∧ up.raster.engine = .idle ∧ (filling .armed).store.held = false) ∧
    (∃ t, exec (setTo .trigMode 1) up = .next t) ∧ (∃ t, exec (setTo .viewPan 7) stored = .next t) ∧
    (∃ t, exec (setTo .tbScale 5) (filling .armed) = .next t) :=
  ⟨by
      intro s hs
      simp only [List.mem_cons, List.not_mem_nil, or_false] at hs
      rcases hs with rfl | rfl | rfl | rfl <;> exact ⟨⟨rfl, rfl, rfl⟩, ⟨rfl, rfl⟩, .inl rfl, rfl⟩,
    ⟨commits_setTo .trigMode 1 (by decide), commits_setTo .viewPan 7 (by decide), commits_setTo .tbScale 5 (by decide),
      commits_setTo .acqDepth 0 (by decide), commits_setTo .acqRetain 1 (by decide)⟩,
    by decide, by decide, ⟨_, rfl⟩, ⟨_, rfl⟩, ⟨_, rfl⟩⟩

/-- A batch with these pairs staged. -/
def batched (staged : List (Field × Int)) : State :=
  up.withSetup { up.setup with batches := .both (some ⟨1, staged⟩) }

/-- Sixteen staged pairs. -/
def sixteen : List (Field × Int) := (allFields.take 16).map (fun f => (f, 0))

theorem witness_BatchStageByField :
    (taking .console up ∧ taking .console (batched sixteen)) ∧ up.setup.batches.get .console = none ∧
    (∃ p ∈ [(Field.tbScale, (5 : Int))], p.1 = Field.tbScale) ∧ (∀ p ∈ sixteen, p.1 ≠ Field.viewPan) ∧
    (sixteen.take 15).length < 16 ∧ 16 ≤ sixteen.length := ⟨⟨taking_up _, ⟨rfl, rfl, rfl⟩⟩, by decide⟩
theorem witness_BatchOpensCommitsAndDrops :
    (taking .remote (batched [(.trigMode, 1)]) ∧ atPeace (batched [(.trigMode, 1)]) ∧ ¬ permitted .console lockedUp ∧
      permitted .remote (batched [(.trigMode, 1)])) ∧
    (batched [(.trigMode, 1)]).setup.batches.get .remote = some ⟨1, [(.trigMode, 1)]⟩ ∧
    newer (batched []).setup.changed[fieldIndex .trigMode] 1 = false ∧
    newer (batched []).setup.changed[fieldIndex .trigMode] 0 = true ∧ 1 < (2#8).toNat ∧
    judge (batched [(.trigMode, 1)]).setup.live (timebaseWindow (batched [(.trigMode, 1)])) [(.trigMode, 1)] =
      .candidate (up.setup.live.put .trigMode 1) :=
  ⟨⟨⟨rfl, rfl, rfl⟩, ⟨rfl, rfl⟩, locked_out, .inl rfl⟩, by decide⟩
theorem witness_LockedOutConsoleKeepsLiveSetup :
    payloadOf (.acqRun .console 7) = some (.console, 7, []) ∧ lockedUp.router.lockout ≠ .localControl ∧
    (after [.acqRun .console 7] lockedUp).links.console.response = some ⟨7, .locked, .nothing⟩ := by decide
theorem witness_LiveSetupStaysLegal : setupLegal up.setup.live = true ∧ ∃ t, step up = .next t := ⟨by decide, _, rfl⟩
theorem witness_BuffersStayCanonical :
    buffersCanonical (up.withPending [.dispClear .console 1]) = true ∧
    ∃ t, step (up.withPending [.dispClear .console 1]) = .next t := ⟨by decide, _, rfl⟩
theorem witness_QueuesPinsAndSelectionsStayLegal :
    queuesLegal (up.withPending [.frameEvent]) = true ∧ pinsLegal (up.withPending [.frameEvent]) = true ∧
    (up.withPending [.frameEvent]).raster.chosen = none ∧ ∃ t, step (up.withPending [.frameEvent]) = .next t :=
  ⟨by decide, by decide, rfl, _, rfl⟩

/-- An LED that shows whether the run is on, lit, as ACQ.STOP comes. -/
def indicating : State :=
  evalLeds (((filling .armed).withRouter { up.router with
    leds := up.router.leds.set 0 ⟨.runState 6#3, false⟩ }).withPending [.acqStop .remote 1])

theorem witness_LedsFollowEveryChange :
    ledsFollow indicating ∧ indicating.router.lit[(0 : Fin 32)] = true ∧ indicating.power.phase = .up ∧
    ∃ t, step indicating = .next t ∧ t.router.lit[(0 : Fin 32)] = false := by
  unfold ledsFollow; exact ⟨by decide, by decide, rfl, _, rfl, by decide⟩

/-- A key, pressed on its line, with its debounce timer running. -/
def keyUp (key : Fin 64) (line settled : Bool) : State :=
  up.withPanel { up.panel with keys := up.panel.keys.set key ⟨line, settled, some 5, 7⟩ }

theorem witness_PanelLinesGiveEvents :
    (up.power.phase = .up ∧ up.power.state ≠ .standby ∧ up.panel.keys[(0 : Fin 64)].line ≠ true ∧
      up.panel.keys[(0 : Fin 64)].timer = none ∧ (keyUp 63 true false).panel.keys[(63 : Fin 64)].line ≠ false ∧
      (keyUp 63 true false).panel.keys[(63 : Fin 64)].timer ≠ none) ∧
    ((keyUp 63 true true).panel.keys[(63 : Fin 64)].line = (keyUp 63 true true).panel.keys[(63 : Fin 64)].settled ∧
      (keyUp 0 false true).panel.keys[(0 : Fin 64)].line ≠ (keyUp 0 false true).panel.keys[(0 : Fin 64)].settled) ∧
    up.panel.encs[(11 : Fin 12)] = ⟨true, true, true, true, 0, true⟩ := by decide
theorem witness_PanelLinesGiveEvents_power :
    ((keyUp 63 true false).withPower { up.power with state := .standby }).power.state = .standby ∧
    (keyUp 63 true false).panel.keys[(63 : Fin 64)].line = true ∧
    (keyUp 63 true false).panel.keys[(63 : Fin 64)].settled = false ∧
    (keyUp 63 false true).panel.keys[(63 : Fin 64)].line = false ∧
    (keyUp 63 false true).panel.keys[(63 : Fin 64)].timer ≠ none := by decide
theorem witness_FirstMatchingEntryWins :
    wins 4 ⟨3, .press, 0, 0, none⟩ up ∧ (∀ i : Fin 24, ¬ wins i ⟨10, .press, 0, 0, none⟩ up) ∧
    (∀ i : Fin 24, ¬ wins i ⟨3, .press, 0, 0, none⟩ lockedUp) ∧ lockedUp.router.lockout ≠ .localControl ∧
    (upPower .standby).power.state ≠ .active ∧ (75 : Nat) < 128 := by
  unfold wins; decide

/-- An entry that takes every PRESS, RELEASE and TURN, and is considered under lockout. -/
def anyEntry (action : Action) (f : Field) (step : Byte) : RouteEntry :=
  ⟨true, .range, 0, 75, 7, .any, true, action, fieldByte f, 0, step⟩

/-- A state whose first entry is that. -/
def routed (action : Action) (f : Field) (step : Byte) (s : State) : State :=
  s.withRouter { s.router with routes := s.router.routes.set 0 (anyEntry action f step) }

theorem routed_entry (action : Action) (f : Field) (step : Byte) (s : State) :
    (routed action f step s).router.routes[(0 : Fin 24)] = anyEntry action f step := by
  simp [routed, State.withRouter]

theorem routed_wins (action : Action) (f : Field) (step : Byte) (s : State) {ev : PanelEvent} (h : ev.control ≤ 75) :
    wins 0 ev (routed action f step s) := by
  rw [wins, routed_entry]
  refine ⟨.inr rfl, ?_, fun j hj => absurd hj (Fin.not_lt_zero j)⟩
  have hk : (anyEntry action f step).kinds.getLsbD (eventKindCode ev.kind) = true := by
    cases ev.kind <;> simp [anyEntry, eventKindCode]
  have hc : matchesControl (anyEntry action f step) ev.control = true := by simp [matchesControl, anyEntry, h]
  show ((anyEntry action f step).enabled && matchesControl (anyEntry action f step) ev.control &&
    (anyEntry action f step).kinds.getLsbD (eventKindCode ev.kind) && true) = true
  rw [hk, hc]; rfl

/-- A value for each step kind, and an event on which a step does not act. -/
theorem witness_DirectEditCommitsOneField :
    (∀ f step, wins 0 ⟨75, .turn, 1, 0, none⟩ (routed .edit f step up) ∧
      (routed .edit f step up).router.routes[(0 : Fin 24)].action = .edit) ∧
    fieldOfId (editedId (anyEntry .edit .trigMode 4) 75) = some .trigMode ∧
    (handsValue (anyEntry .edit .tbScale 0) ⟨75, .turn, 1, 0, none⟩ factorySetup .tbScale (factorySetup.get .tbScale + 1) ∧
      handsValue (anyEntry .edit .trigLevel 1) ⟨75, .turn, 1, 0, none⟩ factorySetup .trigLevel
        (factorySetup.get .trigLevel + 1 * (scaleUv (factorySetup.get (.chScale .ch1)) / 25)) ∧
      handsValue (anyEntry .edit .viewPan 2) ⟨75, .turn, 1, 0, none⟩ factorySetup .viewPan (factorySetup.get .viewPan + 10 * 1) ∧
      handsValue (anyEntry .edit (.chOn .ch1) 3) ⟨75, .press, 0, 0, none⟩ factorySetup (.chOn .ch1) (1 - factorySetup.get (.chOn .ch1)) ∧
      handsValue (anyEntry .edit .trigMode 4) ⟨75, .press, 0, 0, none⟩ factorySetup .trigMode 1 ∧
      handsValue (anyEntry .edit .trigMode 4) ⟨75, .press, 0, 0, none⟩ (factorySetup.put .trigMode 1) .trigMode 0) ∧
    stepIdle (anyEntry .edit .tbScale 2) ⟨75, .press, 0, 0, none⟩ ∧
    stepIdle (anyEntry .edit .trigMode 3) ⟨75, .release, 0, 0, none⟩ ∧ up.power.state = .active ∧ up.seq.standbyStop = false :=
  ⟨fun f step => ⟨routed_wins _ _ _ _ (by decide), by rw [routed_entry]; rfl⟩, by decide,
    ⟨.inl ⟨rfl, rfl, rfl⟩, .inr (.inl ⟨rfl, rfl, .inr ⟨.inl rfl, .ch1, by decide, rfl⟩⟩), .inr (.inr (.inl ⟨rfl, rfl, rfl⟩)),
      .inr (.inr (.inr (.inl ⟨rfl, rfl, rfl⟩))), .inr (.inr (.inr (.inr ⟨rfl, rfl, by decide, by decide, by decide⟩))),
      .inr (.inr (.inr (.inr ⟨rfl, rfl, by decide, by decide, by decide⟩)))⟩,
    .inl ⟨by decide, by decide⟩, .inr ⟨by decide, by decide, by decide⟩, rfl, rfl⟩
theorem witness_RoutedActionsTakeEffect :
    (∀ a, (routed a .trigMode 0 up).power.state = .active ∧ (routed a .trigMode 0 up).seq.standbyStop = false ∧
      wins 0 ⟨0, .press, 0, 0, none⟩ (routed a .trigMode 0 up) ∧
      (routed a .trigMode 0 up).router.routes[(0 : Fin 24)].action = a) ∧
    (routed .runStop .trigMode 0 up).seq.run = .stopped ∧ (routed .runStop .trigMode 0 (filling .armed)).seq.run ≠ .stopped ∧
    (routed .localRelease .trigMode 0 lockedUp).router.lockout = .remote ∧
    wins 0 ⟨0, .press, 0, 0, none⟩ (routed .localRelease .trigMode 0 lockedUp) :=
  ⟨fun a => ⟨rfl, rfl, routed_wins _ _ _ _ (by decide), by rw [routed_entry]; rfl⟩, rfl, by decide, rfl, routed_wins _ _ _ _ (by decide)⟩

/-- `up` with the entries of its queues given. -/
def queued (es : List PanelEvent) (mode : QueueMode) : State :=
  up.withQueues (.both { startQueue with entries := es, mode := mode })

theorem witness_EventQueueTakesRecord :
    (up.queues.get .console).entries = [] ∧ EventKind.press ≠ .turn ∧
    ((queued [⟨64, .turn, 126, 0, none⟩] .hold).queues.get .console).entries = [] ++ [⟨64, .turn, 126, 0, none⟩] ∧
    (126 : Int) + -126 = 0 ∧ (126 : Int) + 1 ≤ 127 ∧ (127 : Int) < 126 + 2 ∧ (-127 : Int) + -1 < -127 ∧
    ((queued (List.replicate 31 ⟨5, .press, 0, 0, none⟩) .hold).queues.get .console).entries.length < 32 ∧
    32 ≤ ((queued (List.replicate 32 ⟨5, .press, 0, 0, none⟩) .hold).queues.get .console).entries.length ∧
    ((queued (List.replicate 32 ⟨5, .press, 0, 0, none⟩) .overwrite).queues.get .console).mode = .overwrite := by decide
theorem witness_PanelTakeRemovesOldest :
    taking .console (queued [⟨5, .press, 0, 0, none⟩] .hold) ∧ 1 ≤ (1#8).toNat ∧ (32#8).toNat ≤ 32 ∧ 32 < (33#8).toNat :=
  ⟨⟨rfl, rfl, rfl⟩, by decide⟩
theorem witness_PanelSettingsSetAndGet_queue :
    taking .console up ∧ (1#8).toNat ≤ 1 ∧ (32#8).toNat ≤ 32 ∧ 1 ≤ (255#8).toNat ∧ 1 < (2#8).toNat ∧ 32 < (33#8).toNat :=
  ⟨taking_up _, by decide⟩
theorem witness_PanelSettingsSetAndGet :
    taking .console up ∧ routePasses 1 0 3 3 1 0 0 3 42 0 4 ∧ routePasses 0 2 127 127 7 2 1 9 0 0 9 ∧
    ¬ routePasses 2 0 3 3 1 0 0 3 42 0 4 ∧ (23#8).toNat < 24 ∧ 24 ≤ (24#8).toNat ∧ (3#8).toNat ∉ [0, 1, 2, 9] := by
  refine ⟨taking_up _, ⟨by decide, by decide, by decide, by decide, by decide, by decide, by decide, by decide, by decide,
    fun _ => ⟨by decide, by decide, fun _ c _ _ => ⟨.trigMode, ?_, .inr (.inr (.inr ⟨rfl, _, rfl⟩))⟩,
      fun h => absurd rfl h⟩⟩, ⟨by decide, by decide, by decide, by decide, by decide, by decide, by decide, by decide,
    by decide, fun h => absurd h (by decide)⟩, fun h => absurd h.1 (by decide), by decide⟩
  show 42 = 42 + (c - 3) * 0
  omega
theorem witness_LedsAndLockoutAreSet :
    taking .console up ∧ up.power.phase = .up ∧ (31#8).toNat < 32 ∧ 32 ≤ (32#8).toNat ∧ 1 < (2#8).toNat ∧ 6 < (7#8).toNat ∧
    fieldOfId (60#8).toNat = some .viewPan ∧ fieldOfId (61#8).toNat = none ∧ (7#8).toNat < 8 ∧ 8 ≤ (8#8).toNat ∧
    (31#8).toNat < 32 ∧ (upPower .standby).power.state = .standby := ⟨taking_up _, by decide⟩
theorem witness_LedsAndLockoutAreSet_lockout :
    (taking .console up ∧ taking .remote up) ∧ 2 < (3#8).toNat ∧ (2#8).toNat = lockoutCode .remoteHard ∧
    up.router.lockout ≠ .remoteHard ∧ up.router.lockout = .localControl := ⟨⟨taking_up _, taking_up _⟩, by decide⟩

theorem witness_RunControlRequests :
    (taking .console up ∧ atPeace up ∧ taking .console (filling .armed) ∧ atPeace (filling .armed)) ∧
    (taking .console lockedUp ∧ atPeace lockedUp ∧ ¬ permitted .console lockedUp ∧ permitted .console up) ∧
    up.seq.run = .stopped ∧ setupLegal up.setup.live = true ∧ (filling .armed).seq.run ≠ .stopped :=
  ⟨⟨taking_up _, peace_up, taking_filling _ _, peace_filling _⟩, ⟨taking_lockedUp _, ⟨rfl, rfl⟩, locked_out, .inr rfl⟩,
    by decide⟩

/-- `filling` with its record in slot 0, none and one of its segments complete. -/
def closing (completed : Nat) : State :=
  (fillingWith .armed { record1 with completed := completed }).withStore
    { startStore with slots := [.filling { header1 with outcome := none, completed := completed }] }

theorem witness_RunControlRequests_stop :
    (taking .console up ∧ atPeace up ∧ ∀ c, taking .console (filling c) ∧ atPeace (filling c)) ∧
    up.seq.cap = .idle ∧ (filling .postfill).seq.cap = .postfill ∧ (filling .waitSlot).seq.cap = .waitSlot ∧
    (closing 0).seq.cap = .armed ∧ (closing 1).seq.current = some { record1 with completed := 1 } ∧
    (closing 1).store.held = false ∧ isFilling record1.number (closing 1).store = true ∧
    isFilling record1.number (closing 0).store = true :=
  ⟨⟨taking_up _, peace_up, fun _ => ⟨taking_filling _ _, peace_filling _⟩⟩, by decide⟩
theorem witness_RunControlRequests_force :
    (taking .console (filling .armed) ∧ atPeace (filling .armed)) ∧ (filling .armed).seq.cap = .armed ∧
    (filling .armed).seq.current = some record1 ∧ (filling .prefill).seq.cap = .prefill :=
  ⟨⟨taking_filling _ _, peace_filling _⟩, by decide⟩

/-- A FREE slot; two COMPLETE records, the older of which may be reused; and none that may be. -/
theorem witness_RecordStartTakesSlot :
    chosenSlot 2 stored ∧ chosenSlot 1 (slotted [.complete { header1 with number := 2 }, .complete header1]) ∧
    (∀ sl ∈ pinned.store.slots, sl ≠ .free ∧
      ∀ h, sl = .complete h → ¬ reusable (pinned.setup.live.get .acqRetain == 1) pinned.store.sub h) := by
  refine ⟨.inl ⟨rfl, ?_⟩, .inr ⟨by decide, header1, rfl, ⟨fun l => by cases l <;> rfl, by decide, fun h => absurd h (by decide)⟩, ?_⟩, ?_⟩
  · intro m hm
    match m, hm with
    | 0, _ => decide
    | 1, _ => decide
  · intro m x hm hx _
    match m, hm, hx with
    | 0, _, hx =>
      cases hx
      decide
    | m + 2, _, hx => cases hx
  · intro sl hsl
    simp only [pinned, State.withStore, List.mem_singleton] at hsl
    subst hsl
    refine ⟨by decide, fun h hh hr => ?_⟩
    cases hh
    exact absurd (hr.1 .console) (by decide)

theorem witness_RecListAndNotices :
    taking .remote stored ∧ numbersDistinct stored ∧
    (∃ base : Word, ∀ h, Slot.complete h ∈ stored.store.slots → (h.number - base).toNat < 2147483648) ∧
    1 ≤ (1#8).toNat ∧ (16#8).toNat ≤ 16 ∧ (1000#16).toNat ≤ 1000 ∧ 16 < (17#8).toNat ∧ 1000 < (1001#16).toNat := by
  refine ⟨taking_stored _, by unfold numbersDistinct; decide, ⟨1, ?_⟩, by decide⟩
  intro h hh
  simp [stored, slotted, State.withStore] at hh
  subst hh
  decide
theorem witness_RecHeaderAndReadAnswer :
    taking .console stored ∧ (∀ sl ∈ stored.store.slots, ∀ h, slotHeader sl = some h → h.number ≠ 9) ∧
    nameRecord stored.store.slots 2 = .filling { header1 with number := 2, outcome := none } ∧
    nameRecord stored.store.slots 1 = .complete 0 header1 ∧ 64 < (65#8).toNat ∧ (64#8).toNat ≤ 64 ∧
    header1.setup.get (.chOn .ch4) ≠ 1 ∧ header1.completed ≤ (1#16).toNat ∧ header1.points ≤ (10#32).toNat ∧
    2048 < (2049#16).toNat ∧ 1 < (2#8).toNat ∧
    chanNumber .ch1 = (1#8).toNat ∧ header1.setup.get (.chOn .ch1) = 1 ∧ (0#16).toNat < header1.completed ∧
    (9#32).toNat < header1.points ∧ 1 ≤ (1#16).toNat ∧ (2048#16).toNat ≤ 2048 ∧
    regionFits 0 stored.store.recordBytes header1.setup 0 header1.points = true :=
  ⟨taking_stored _, by simp [stored, slotted, State.withStore, slotHeader, header1], by decide⟩
theorem witness_RecPinsAndReleases :
    (taking .console stored ∧ taking .console pinned) ∧ nameRecord stored.store.slots 9 = .gone ∧
    nameRecord stored.store.slots 2 = .filling { header1 with number := 2, outcome := none } ∧
    nameRecord stored.store.slots 1 = .complete 0 header1 ∧ header1.pins.get .console = false ∧
    (stored.store.pinsList.get .console).length < 2 ∧ 2 ≤ ([4, 5] : List Word).length ∧
    nameRecord pinned.store.slots 1 = .complete 0 { header1 with pins := .both true } ∧ pinned.store.held = false ∧
    stored.store.held = false ∧ stored.store.sub.get .console = false ∧ 1 < (2#8).toNat :=
  ⟨⟨taking_stored _, taking_pinned _⟩, by decide⟩

/-- `slotted` with a slot request held and record 1 pinned by the console link, its subscription on. -/
def heldUp : State :=
  let s := slotted [.complete { header1 with pins := ⟨true, false⟩ }]
  (s.withStore { s.store with held := true, pinsList := ⟨[1], []⟩, sub := ⟨true, false⟩ }).withSeq
    { startSequencer with run := .running, cap := .waitSlot }

theorem witness_ReleasesJudgeHeldRequestAgain :
    (heldUp.store.held = true ∧ taking .console heldUp ∧ (heldUp.links.get .console).resetLine = false ∧
      nameRecord heldUp.store.slots 1 = .complete 0 { header1 with pins := ⟨true, false⟩ } ∧
      heldUp.store.sub.get .console = true ∧ heldUp.store.sub.get .remote = false ∧ taking .remote heldUp) ∧
    ((after [.recUnpin .console 1 1] heldUp).seq.current.map Record.slot) = some 0 ∧
    (after [.recRelease .console 1 1] heldUp).seq.cap = .waitSlot ∧
    ((after [.linkResetAssert .console] heldUp).seq.current.map Record.slot) = some 0 :=
  ⟨⟨rfl, ⟨rfl, rfl, rfl⟩, rfl, rfl, rfl, rfl, ⟨rfl, rfl, rfl⟩⟩, by decide, by decide, by decide⟩

/-- A draw of record 1 in flight, its first pass to come. -/
def draw1 : Draw :=
  ⟨1, { header1 with setup := factorySetup.put (.chOn .ch2) 1 }, .first, takeView factorySetup, 0, .ch1⟩

/-- `stored` in RENDERING. -/
def drawing : State := stored.withRaster { startRaster with engine := .rendering, draw := some draw1, mark := some 1 }

theorem witness_DispClearAndStatus :
    taking .console drawing ∧ drawing.raster.engine = .rendering ∧ drawing.raster.draw = some draw1 :=
  ⟨⟨rfl, rfl, rfl⟩, by decide⟩
theorem witness_OverlayAndPaletteWrites :
    taking .console up ∧ memWf (up.disp.overlay.get .console) = true ∧ suitsOverlay 2 1 [7, 9] = true ∧
    suitsOverlay 0 5 [] = true ∧ (64#16).toNat * (64#16).toNat ≤ 4096 ∧ 4096 < (4097#16).toNat * (1#16).toNat :=
  ⟨taking_up _, by decide⟩
theorem witness_OverlayAndPaletteWrites_palette :
    taking .console up ∧ [(1#8, 2#8, 3#8)].length = (1#8).toNat ∧ 0 < (255#8).toNat ∧
    ([] : List (Byte × Byte × Byte)).length = (0#8).toNat := ⟨taking_up _, by decide⟩

/-- `storeUp` with every entry EMPTY but slot 0, which is not known. -/
def unknown : State := storeUp.withSaved { storeUp.saved with directory := storeUp.saved.directory.set 2 .unread }

theorem witness_StoreRequestsArriveAndAreServed :
    (∀ l, takingLong l storeUp ∧ takingLong l (storeUp.withSaved { storeUp.saved with cancelled := true }) ∧
      takingLong l (storeUp.withSaved { storeUp.saved with ctrl := .absent }) ∧ takingLong l unknown ∧
      takingLong l (opUp .recall .reading)) ∧
    (takingLong .console (lockedUp.withSaved storeUp.saved) ∧ ¬ permitted .console (lockedUp.withSaved storeUp.saved)) ∧
    (storeUp.saved.cancelled = false ∧ storeUp.saved.ctrl = .idle ∧ storeUp.saved.queue = [] ∧ storeUp.saved.op = none ∧
      12 ≤ (12#8).toNat ∧ (11#8).toNat < 12 ∧ (0#8).toNat = 0 ∧ (11#8).toNat ≠ 0 ∧ StoreKind.erase ≠ .recall ∧
      1 < (2#8).toNat ∧ 0x7E < (0x7F#8).toNat ∧ (0x1F#8).toNat < 0x20 ∧
      (∀ b ∈ lastLabel.toList, ¬ (b.toNat < 0x20 ∨ 0x7E < b.toNat))) ∧
    (storeUp.saved.directory[(3#8).toNat]'(by decide) = .valid lastLabel true 1 1 ∧
      storeUp.saved.directory[(11#8).toNat]'(by decide) = .empty ∧ storeUp.saved.directory[(4#8).toNat]'(by decide) = .corrupt ∧
      unknown.saved.directory[(2#8).toNat]'(by decide) = .unread) ∧
    ((opUp .recall .reading).saved.op.map (·.req.source)) = some (some .console) ∧ (storeUp.links.get .console).style = .hold :=
  ⟨fun l => by cases l <;> exact ⟨⟨⟨rfl, rfl, rfl⟩, rfl⟩, ⟨⟨rfl, rfl, rfl⟩, rfl⟩, ⟨⟨rfl, rfl, rfl⟩, rfl⟩, ⟨⟨rfl, rfl, rfl⟩, rfl⟩,
      ⟨⟨rfl, rfl, rfl⟩, rfl⟩⟩,
    ⟨⟨⟨rfl, rfl, rfl⟩, rfl⟩, by rintro (h | h) <;> cases h⟩, by decide, by decide, by decide, rfl⟩

/-- A queued request of the console link in DEFER style behind one of the remote link in flight. -/
def queuedUp : State :=
  (upLink { openLinkState with style := .defer, deferred := .outstanding 9 0x61 }).withSaved { storeUp.saved with
    ctrl := .busy
    op := some ⟨⟨some .remote, .recall, 3, false⟩, false, false, .reading⟩
    queue := [⟨some .console, .recall, 4, false⟩] }

theorem witness_StoreListCancelResult :
    (taking .console queuedUp ∧ taking .console (opUp .recall .reading)) ∧ queuedUp.saved.ctrl ≠ .absent ∧
    (queuedUp.saved.queue = [] ++ ⟨some .console, .recall, 4, false⟩ :: [] ∧
      (queuedUp.links.get .console).deferred = .outstanding 9 0x61) ∧
    ((opUp .recall .reading).saved.queue = [] ∧
      ((opUp .recall .reading).saved.op.map (·.req.source)) = some (some .console)) ∧
    (up.links.get .console).deferred = .empty ∧
    ((upLink { openLinkState with deferred := .ready 9 0x61 .applied .nothing }).links.get .console).deferred =
      .ready 9 0x61 .applied .nothing := ⟨⟨⟨rfl, rfl, rfl⟩, ⟨rfl, rfl, rfl⟩⟩, by decide⟩
theorem witness_SavedImageGivesSetupBack :
    (∀ f ∈ allFields, -2147483648 ≤ factorySetup.get f ∧ factorySetup.get f ≤ 2147483647) ∧
    classify (snapshotImage (some .remote) lastLabel startSetup) = .valid lastLabel false 2 1 := ⟨by decide, by decide +kernel⟩
theorem witness_LinkStatusConfigClear :
    ready .console up ∧ up.power.state = .active ∧ ready .console (upPower .standby) ∧ (1#8).toNat ≤ 1 ∧ (127#8).toNat < 128 ∧
    1 < (2#8).toNat ∧ 128 ≤ (128#8).toNat := ⟨ready_up _, rfl, ⟨rfl, rfl⟩, by decide⟩

/-- `storeUp` with slot 0 of the live generation: nothing to autosave. -/
def evenUp : State := storeUp.withSaved { storeUp.saved with slot0Gen := storeUp.setup.gen }

/-- An entry into standby that waits for an operation in flight, and one that nothing holds up. -/
theorem witness_PowerStandbyMakesEntry :
    (takingLong .remote (opUp .recall .reading) ∧ takingLong .remote evenUp) ∧
    (∀ r ∈ (opUp .recall .reading).saved.queue, r.source ≠ some .remote) ∧
    (after [.powerStandby .remote 7] (opUp .recall .reading)).power.state = .standbyPending ∧
    (after [.powerStandby .remote 7] evenUp).power.state = .standby ∧
    (takingLong .remote storeUp ∧ takingLong .remote (filling .postfill) ∧ takingLong .remote (filling .armed)) ∧
    (storeUp.store.held = false ∧ storeUp.saved.finalAsked = false ∧ storeUp.saved.op = none ∧ storeUp.saved.ctrl ≠ .absent ∧
      storeUp.setup.gen ≠ storeUp.saved.slot0Gen ∧ (filling .postfill).seq.cap = .postfill) :=
  ⟨⟨⟨⟨rfl, rfl, rfl⟩, rfl⟩, ⟨⟨rfl, rfl, rfl⟩, rfl⟩⟩, by decide, by decide, by decide,
    ⟨takingLong_storeUp _, ⟨taking_filling _ _, rfl⟩, ⟨taking_filling _ _, rfl⟩⟩, by decide⟩

/-- STANDBY_PENDING with the sequencer and the engine reported and this operation in flight, the final autosave asked or not. -/
def pendingUp (asked : Bool) (kind : StoreKind) (source : Option Link) (phase : OpPhase) : State :=
  ((opUp kind phase).withPower { up.power with state := .standbyPending, idleReport := true, haltReport := true }).withSaved
    { (opUp kind phase).saved with
      cancelled := true, finalAsked := asked, slot0Gen := if asked then 0 else 1, op := some ⟨⟨source, kind, 3, true⟩, false, false, phase⟩ }

/-- STANDBY_PENDING with the store reported and the segment in POSTFILL at its last bin. -/
def pendingSegment : State :=
  ((((fillingWith .postfill { record1 with trigger := some ⟨5, 0, false⟩, bin := 9 }).withSeq
    { (fillingWith .postfill { record1 with trigger := some ⟨5, 0, false⟩, bin := 9 }).seq with
      standbyStop := true, stopPending := true }).withRaster { startRaster with engine := .halted }).withPower
    { up.power with state := .standbyPending, savedReport := true, haltReport := true })

theorem witness_ReportsEnterStandby :
    (∀ asked kind source phase, (pendingUp asked kind source phase).power.state = .standbyPending ∧
      (pendingUp asked kind source phase).power.phase = .up ∧ (pendingUp asked kind source phase).saved.scanSlot = none ∧
      (pendingUp asked kind source phase).saved.queue = [] ∧ (pendingUp asked kind source phase).saved.ctrl = .busy ∧
      (pendingUp asked kind source phase).saved.cancelled = true ∧
      (pendingUp asked kind source phase).saved.finalAsked = asked ∧
      (pendingUp asked kind source phase).saved.op = some ⟨⟨source, kind, 3, true⟩, false, false, phase⟩) ∧
    (after [.pageWriteComplete] (pendingUp false .erase (some .console) .erasing)).power.state = .standby ∧
    (after [.eepromAccessFault] (pendingUp true .autosave none .resolving)).power.state = .standby ∧
    (after [.eepromReadComplete erased] (pendingUp false .recall (some .console) .reading)).power.state = .standby ∧
    (after [.pageWriteComplete] (pendingUp false .autosave none (.writing erased 1 5))).power.state = .standby ∧
    (up.seq.cap = .idle ∧ up.store.held = false ∧ judge up.setup.live (timebaseWindow up)
      (allFields.map (fun f => (f, (factorySetup.put .trigMode 1).get f))) = .candidate (factorySetup.put .trigMode 1)) ∧
    (pendingSegment.power.state = .standbyPending ∧ pendingSegment.seq.standbyStop = true ∧
      pendingSegment.raster.engine = .halted ∧ pendingSegment.seq.cap = .postfill ∧ pendingSegment.seq.stopPending = true) ∧
    (closeBin pendingSegment).power.state = .standby ∧
    (pendingSegment.seq.current.map (fun r => decide (5 + (r.plan.points - r.plan.trigIndex) ≤ r.bin + 1))) = some true :=
  ⟨fun _ _ _ _ => ⟨rfl, rfl, rfl, rfl, rfl, rfl, rfl, rfl⟩, by decide, by decide, by decide, by decide,
    ⟨rfl, rfl, by decide +kernel⟩, by decide, by decide, by decide⟩

/-- Every timer running. -/
def timed : State :=
  ((((filling .armed).withQueues (.both { startQueue with timer := some 1 })).withStore
    { startStore with notice := .both { startNotice with timer := some 1 } }).withSetup
    { startSetup with quiet := some 1 }).withSaved storeUp.saved

/-- `timed` with slot 0 not known. -/
def unknown0 : State := timed.withSaved { timed.saved with directory := timed.saved.directory.set 0 .unread }

theorem witness_TimerExpiries :
    ((timed.queues.get .console).timer ≠ none ∧ (timed.store.notice.get .console).timer ≠ none ∧ timed.seq.auto ≠ none ∧
      timed.seq.cap = .armed ∧ timed.seq.current = some record1 ∧ timed.setup.quiet ≠ none ∧ timed.saved.ctrl = .idle ∧
      timed.saved.cancelled = false ∧ timed.setup.gen ≠ timed.saved.slot0Gen ∧ timed.saved.queue = [] ∧
      timed.saved.op = none ∧ timed.saved.directory[(0 : Fin 12)] ≠ .unread ∧
      (upSeq { startSequencer with holdoff := some 1 }).seq.holdoff ≠ none ∧
      (timed.withSaved { storeUp.saved with ctrl := .absent }).saved.ctrl = .absent) ∧
    (unknown0.saved.directory[(0 : Fin 12)] = .unread ∧ unknown0.saved.op = none ∧
      ((opUp .recall .reading).saved.op.map (·.req.source)) = some (some .console) ∧ (opUp .recall .reading).saved.ctrl = .busy ∧
      (opUp .recall .reading).saved.cancelled = false ∧ (opUp .recall .reading).setup.gen ≠ (opUp .recall .reading).saved.slot0Gen) ∧
    ((up.queues.get .console).timer = none ∧ (up.store.notice.get .console).timer = none ∧ up.seq.holdoff = none ∧
      up.seq.auto = none ∧ up.setup.quiet = none) := by decide

/-- `record1` with two channels of different pairs. -/
def record13 : Record := { record1 with setup := factorySetup.put (.chOn .ch3) 1 }

/-- A code of core 1 waits for that of core 3. -/
def waiting13 : State :=
  (fillingWith .armed record13).withSeq { (fillingWith .armed record13).seq with
    front := { startFront with routing := some [.ch1, .ch3], waiting := #v[[9#8], [], [], []] } }

/-- R67, R68: codes of CH1 and CH3 in the order of their instants, the first from core 3 after core 1's of that instant: it is passed
over, and CH1 has the codes of cores 2 and 1 in that order, CH3 those of 4 and 3. -/
theorem test_stream_from_core_3 :
    (after [.sample 2 10, .sample 1 20, .sample 3 30, .sample 0 40, .sample 2 50] (fillingWith .armed record13)).seq.current.map
      (fun r => r.before) = some [⟨[20], [], [30], []⟩] := by decide

/-- R67: the codes of {CH1}, then of {CH1, CH2} from cores that serve neither, then of {CH1} again: the last routing has its streams
followed afresh, in the order of the cores. -/
theorem test_streams_routed_anew :
    (after [.sample 0 1, .sample 1 2, setTo (.chOn .ch2) 1, .sample 2 3, .sample 3 4, setTo (.chOn .ch2) 0]
      (up.withSetup { up.setup with outputs := some (presentOutputs up.setup.live) })).seq.front = startFront ∧
    (after [.sample 0 50, .sample 1 60, .sample 2 70, .sample 3 80] (filling .armed)).seq.current.map (fun r => r.before) =
      some [⟨[70], [], [], []⟩, ⟨[50], [], [], []⟩] := by decide +kernel

theorem witness_SamplesJoinTheirInstant :
    (currentFits (filling .armed) = true ∧ currentFits waiting13 = true ∧ up.seq.current = none ∧
      (filling .waitSlot).seq.cap = .waitSlot ∧ (filling .armed).seq.current = some record1) ∧
    (enabledChans record1.setup = [.ch1] ∧ enabledChans record13.setup = [.ch1, .ch3] ∧
      coreChan [.ch1, .ch2, .ch3] 3 = none) ∧
    (instantOf [.ch1, .ch3] 0 [0, 2] ∧ instantOf [.ch1, .ch3] 1 [1, 3] ∧ instantOf [.ch1] 3 [3] ∧
      instantOf [.ch1, .ch2] 0 [0, 1]) ∧
    (waiting13.seq.front.next = 0 ∧ waiting13.seq.front.skip[(2 : Fin 4)] = false ∧
      waiting13.seq.front.waiting[(2 : Fin 4)] = [] ∧ waiting13.seq.front.waiting[(1 : Fin 4)] = [] ∧
      (coreChan [.ch1, .ch3] 1).isSome = true ∧ waiting13.seq.front.routing = some [.ch1, .ch3] ∧
      (filling .armed).seq.front.routing ≠ some [.ch1] ∧ waiting13.seq.front.got[(2 : Fin 4)] = false) ∧
    ∀ k : Fin 4, k ≠ 2 → waiting13.seq.front.waiting[k] = if k ∈ ([0, 2] : List (Fin 4)) then [9#8] else [] :=
  ⟨by decide, by decide, ⟨.inr (.inl ⟨by decide, .inl ⟨rfl, rfl⟩⟩), .inr (.inl ⟨by decide, .inr ⟨rfl, rfl⟩⟩),
    .inl ⟨.ch1, rfl, 3, rfl, rfl⟩, .inr (.inr ⟨by decide, by decide, rfl, by decide⟩)⟩, by decide, by decide⟩
theorem witness_InstantIsTakenWhole :
    (filling .armed).seq.current = some record1 ∧ (enabledChans record1.setup).head? = some .ch1 ∧
    sourceChan record1.setup = .ch1 ∧ (filling .armed).seq.holdoff = none ∧
    (detect record1.setup 128 128 ⟨true, false, .unknown⟩ 200).2 = true ∧
    (detect record1.setup 128 128 record1.detectors 200).2 = false := by decide
theorem witness_DetectorsFireOnEdgesAndZones :
    1 ≤ (factorySetup.put .trigHyst 1).get .trigHyst ∧ factorySetup.get .trigType = 0 ∧ factorySetup.get .trigSlope = 0 ∧
    (factorySetup.put .trigType 1).get .trigType = 1 ∧ (factorySetup.put .trigSlope 4).get .trigSlope = 4 := by decide
theorem witness_ClosingBinGivesPoints :
    gathered [7#8, 9#8] (binAdd (binAdd emptyBin 7) 9) ∧ (binAdd (binAdd emptyBin 7) 9).sum ≤ 255 * 2 ^ 1 ∧
    (filling .prefill).seq.current = some record1 ∧ (filling .prefill).seq.cap = .prefill ∧
    record1.bin + 1 ≠ record1.plan.trigIndex ∧ { record1 with bin := 4 }.bin + 1 = record1.plan.trigIndex ∧
    (fillingWith .postfill { record1 with trigger := some ⟨5, 0, false⟩, bin := 8 }).seq.cap = .postfill ∧
    8 + 1 < 5 + (record1.plan.points - record1.plan.trigIndex) := by
  refine ⟨⟨rfl, rfl, by decide, by decide, by decide, by decide, rfl⟩, by decide⟩

/-- A segment at its last bin: five points before the trigger and four after it. -/
def lastBin (segments : Nat) : State :=
  (fillingWith .postfill { record1 with
    plan := { record1.plan with segments := segments }
    trigger := some ⟨5, 0, false⟩
    bin := 9
    before := List.replicate 5 ⟨[1], [], [], []⟩
    after := List.replicate 4 ⟨[2], [], [], []⟩ }).withStore
    { startStore with slots := [.filling { header1 with outcome := none, completed := 0, segments := [] }] }

theorem witness_LastBinCompletesSegment :
    (∃ r, (lastBin 1).seq.current = some r ∧ r.trigger = some ⟨5, 0, false⟩ ∧
      5 + (r.plan.points - r.plan.trigIndex) ≤ r.bin + 1 ∧ r.number = header1.number ∧ r.slot = 0 ∧ r.completed = 0 ∧
      r.plan.segments ≤ r.segment + 1 ∧ r.before.length + r.after.length + 1 = r.plan.points ∧
      regionFits 0 (lastBin 1).store.recordBytes r.setup r.segment r.plan.points = true ∧
      ∀ q ∈ r.before ++ ⟨[3], [], [], []⟩ :: r.after, ∀ c, r.setup.get (.chOn c) = 1 →
        (q.get c).length = if r.setup.get .acqMode = 0 then 1 else 2) ∧
    ((lastBin 1).seq.cap = .postfill ∧ atPeace (lastBin 1) ∧ (lastBin 1).store.held = false ∧
      numbersDistinct (lastBin 1) ∧ memWf (lastBin 1).store.mem = true ∧ (lastBin 1).seq.stopPending = false ∧
      (lastBin 1).seq.run = .running) ∧
    (∃ r, (lastBin 2).seq.current = some r ∧ r.segment + 1 < r.plan.segments) := by
  refine ⟨⟨_, rfl, rfl, by decide, rfl, rfl, rfl, by decide, by decide, by decide, ?_⟩,
    ⟨rfl, ⟨rfl, rfl⟩, rfl, by unfold numbersDistinct; decide, rfl, rfl, rfl⟩, ⟨_, rfl, by decide⟩⟩
  intro q hq c
  cases c <;> first | (intro h; exact absurd h (by decide)) | skip
  intro _
  revert q
  decide
theorem witness_PointsMapToRowsAndColumns : 9 < header1.points ∧ header1.setup.get .acqMode = 0 := by decide
theorem witness_SpansFollowPoints :
    699 < 700 ∧ (∀ p ∈ [Mapped.mk (-3) 100 120 110, ⟨800, -5, 500, 200⟩], p.lo ≤ p.hi) ∧
    lastLeft [⟨-3, 100, 120, 110⟩, ⟨800, -5, 500, 200⟩] 5 ⟨-3, 100, 120, 110⟩ ∧
    firstRight [⟨-3, 100, 120, 110⟩, ⟨800, -5, 500, 200⟩] 5 ⟨800, -5, 500, 200⟩ :=
  ⟨by decide, by decide, ⟨[], [⟨800, -5, 500, 200⟩], rfl, by decide, by decide⟩,
    ⟨[⟨-3, 100, 120, 110⟩], [], rfl, by decide, by decide⟩⟩
theorem witness_SpanPassAddsHits :
    drawing.raster.engine = .rendering ∧ drawing.raster.draw = some draw1 ∧
    findComplete drawing.store.slots draw1.number = some (0, header1) ∧
    regionFits 0 drawing.store.recordBytes draw1.header.setup draw1.segment draw1.header.points = true ∧
    followsPass draw1 0 .ch2 ∧ lastPass { draw1 with chan := .ch2 } ∧
    memWf (drawing.raster.planes.get draw1.chan) = true ∧ drawing.store.held = false := by
  unfold followsPass lastPass; decide

/-- `slotted` with one COMPLETE record, a redraw pending or not. -/
def undrawn (redraw : Bool) (h : Header) : State :=
  (slotted [.complete h]).withRaster { startRaster with redraw := redraw }

theorem newest_undrawn (redraw : Bool) (h : Header) : newestOf 0 h (undrawn redraw h).store.slots := by
  refine ⟨rfl, fun m x hm hx => ?_⟩
  cases m with
  | zero => exact absurd rfl hm
  | succ m => simp [undrawn, slotted, State.withStore, State.withRaster] at hx

/-- A record in view and one out of it, for a redraw and for a first draw; and a record named that is gone. -/
theorem witness_SelectionBeginsDraw :
    (∀ b h, numbersDistinct (undrawn b h) ∧ (undrawn b h).raster.chosen = none ∧ (undrawn b h).raster.engine = .idle ∧
      (undrawn b h).store.held = false ∧ (undrawn b h).raster.redraw = b ∧ newestOf 0 h (undrawn b h).store.slots) ∧
    oldestOf (toDraw (undrawn false header1)) 0 header1 (undrawn false header1).store.slots ∧
    (enabledChans header1.setup ≠ [] ∧ inView header1 up ∧
      ¬ inView { header1 with setup := factorySetup.put .tbScale 28 } up ∧
      inView { header1 with setup := factorySetup.put .tbScale 27 } up) ∧
    numbersDistinct drawing ∧ drawing.raster.engine ≠ .idle ∧
    (∀ h, Slot.complete h ∈ (undrawn false header1).store.slots → h.number ≠ 9) :=
  ⟨fun b h => ⟨by simp [numbersDistinct, undrawn, slotted, State.withStore, State.withRaster, slotNumber, slotHeader],
      rfl, rfl, rfl, rfl, newest_undrawn b h⟩,
    ⟨rfl, ⟨rfl, fun m hm => by cases hm⟩, fun m x hm hx _ => (newest_undrawn false header1).2 m x hm hx |> fun h => by
      cases m with
      | zero => exact absurd rfl hm
      | succ m => simp [undrawn, slotted, State.withStore, State.withRaster] at hx⟩,
    ⟨by decide, by unfold inView; decide, by unfold inView; decide, by unfold inView; decide⟩,
    by unfold numbersDistinct; decide, by decide, by
      intro h hh
      simp [undrawn, slotted, State.withStore, State.withRaster] at hh
      subst hh
      decide⟩
theorem witness_FrameEventDecaysPlanes :
    (up.withDisp { up.disp with frameTimer := some 1, framePhase := 2, link := .locked }).disp.frameTimer ≠ none ∧
    memWf (up.raster.planes.get .ch1) = true ∧
    (factorySetup.put .dispPersist 7).get .dispPersist ≤ 7 ∧ 7 < (factorySetup.put .dispPersist 8).get .dispPersist ∧
    factorySetup.get .dispPersist < 1 := by decide

/-- A frame with a hit at a corner of the waveform area and overlay pixels at two corners of the frame. -/
def frame1 : Frame :=
  ⟨⟨[], [(0, 3)], [], []⟩, ⟨[(383999, 255)], [(0, 1)]⟩, factoryPalette, 64, 0⟩

theorem witness_FramePixelsAreComposed :
    (1 ≤ frame1.grade ∧ frame1.grade ≤ 64) ∧ (memGet frame1.overlay.remote (0 * 800 + 0)).toNat = 0 + 1 ∧
    (memGet frame1.overlay.remote (479 * 800 + 799)).toNat = 0 ∧
    (memGet frame1.overlay.console (479 * 800 + 799)).toNat = 254 + 1 ∧
    (memGet (frame1.planes.get .ch2) (0 * 700 + 0)).toNat ≠ 0 ∧ memGet (frame1.planes.get .ch1) (0 * 700 + 0) = 0 ∧
    (∀ e, memGet (frame1.planes.get e) (399 * 700 + 699) = 0#8) ∧ 749 = 50 + 699 ∧ 40 + 399 = 439 ∧ 439 + 0 = 439 := by
  refine ⟨by decide, by decide, by decide, by decide, by decide, by decide, fun e => by cases e <;> decide, by decide⟩

/-- `up` with the lines and the link of the panel given. -/
def panelUp (present lock : Bool) (link : DispLink) : State :=
  up.withDisp { up.disp with present := present, lock := lock, link := link }

theorem witness_DisplayLinesMoveLink :
    up.power.phase = .up ∧ (panelUp false true .absent).disp.link = .absent ∧ (panelUp false true .absent).disp.lock = true ∧
    (panelUp false false .absent).disp.lock = false ∧ (panelUp true false .training).disp.present = true ∧
    (panelUp true true .locked).disp.link = .locked ∧ (panelUp true false .training).disp.lock = false ∧
    (after [.frameEvent] (up.withDisp { up.disp with frameTimer := some 1, link := .locked })).disp.sending.isSome = true := by
  decide

theorem witness_EepromAccessAndItsLimit :
    ((after [.powerOn 2] State.reset).saved.scanSlot = some 0 ∧ storeUp.saved.scanSlot = none ∧ storeUp.saved.op = none) ∧
    (∀ kind phase, (opUp kind phase).saved.scanSlot = none ∧ (opUp kind phase).saved.limit ≠ none ∧
      (opUp kind phase).saved.polling = false ∧ ((opUp kind phase).saved.op.map Op.phase) = some phase) ∧
    (∃ a b, accessInHand (opUp .erase .erasing).saved = some (.write a b)) ∧
    accessInHand (opUp .recall .reading).saved = some (.read 768 192) ∧
    (([0] : List Nat).headD 0 % 2 = 0 ∧ ([1] : List Nat).headD 0 % 2 = 1) :=
  ⟨by decide, fun kind phase => ⟨rfl, by simp [opUp, State.withSaved], rfl, rfl⟩, ⟨_, _, rfl⟩, rfl, by decide⟩
theorem alone_opUp (kind : StoreKind) (phase : OpPhase) :
    aloneInFlight ⟨⟨some .console, kind, 3, true⟩, false, false, phase⟩ (opUp kind phase) := ⟨rfl, rfl, rfl, rfl, rfl⟩

/-- A payload of each kind that the statement tells, with an entry. -/
theorem witness_AnswersAreCarriedAsBytes :
    (payloadBytes (.taken [⟨64, .turn, -1, 258, some 3⟩] 2 0)).length < 65536 ∧
    [(⟨7, 5, true⟩ : SegEntry)][0]? = some ⟨7, 5, true⟩ ∧ captureFields[30]?.isSome = true ∧
    (payloadBytes (.points 2 [-3])).length = 2 := by decide

/-- Images of each class, the last of a setup that differs from the live one. -/
theorem witness_EepromReadsEnd :
    (∀ kind phase, aloneInFlight ⟨⟨some .console, kind, 3, true⟩, false, false, phase⟩ (opUp kind phase) ∧
      atPeace (opUp kind phase)) ∧
    classify erased = .empty ∧ classify (Vector.replicate 192 0#8) = .corrupt ∧
    classify (snapshotImage (some .console) lastLabel startSetup) = .valid lastLabel false 1 1 ∧
    classify (lockImage (snapshotImage (some .console) lastLabel startSetup) true) = .valid lastLabel true 1 1 ∧
    imageSetup (snapshotImage (some .console) lastLabel { startSetup with live := factorySetup.put .trigMode 1 }) =
      factorySetup.put .trigMode 1 ∧
    judge factorySetup none (allFields.map (fun f => (f, factorySetup.get f))) = .candidate factorySetup ∧
    judge factorySetup none (allFields.map (fun f => (f, (factorySetup.put .trigMode 1).get f))) =
      .candidate (factorySetup.put .trigMode 1) :=
  ⟨fun kind phase => ⟨alone_opUp kind phase, ⟨rfl, rfl⟩⟩, by decide +kernel⟩
theorem witness_EepromWritesAndFaultsEnd :
    (∀ kind phase, aloneInFlight ⟨⟨some .console, kind, 3, true⟩, false, false, phase⟩ (opUp kind phase)) ∧
    aloneInFlight ⟨⟨none, .autosave, 0, false⟩, false, false, .writing erased 1 5⟩
      (up.withSaved { storeUp.saved with
        ctrl := .busy, op := some ⟨⟨none, .autosave, 0, false⟩, false, false, .writing erased 1 5⟩ }) :=
  ⟨alone_opUp, ⟨rfl, rfl, rfl, rfl, rfl⟩⟩
theorem witness_StartUpScansAndStarts :
    (after [.powerOn 2] State.reset).saved.scanSlot = some 0 ∧
    ((after [.powerOn 2] State.reset).withSaved { startSaved with scanSlot := some 11 }).saved.scanSlot.map Fin.val = some 11 ∧
    judge State.reset.setup.live none (allFields.map (fun f => (f, if f = .viewPan then 500 else factorySetup.get f))) =
      .candidate factorySetup := by
  decide

end Sys2Proof.Tests
end

section
/-! PROOFS. BATCH.STAGE (R18): what staging a pair does to a batch, what the owner does with it, and the answer as the link
gives it. -/

namespace Sys2Proof.Machine

/-! ### Staging a pair -/

/-- A field has a requested value just when some pair of the list names it. -/
theorem requested_isSome_iff (req : List (Field × Int)) (f : Field) :
    (requested req f).isSome = true ↔ ∃ p ∈ req, p.1 = f := by
  simp [requested]

/-- A field in the staged list has its value replaced in its place. -/
theorem stage_of_mem {f : Field} {b : Batch} (v : Int) (h : ∃ p ∈ b.staged, p.1 = f) :
    stage f v b = some { b with staged := restage f v b.staged } :=
  if_pos ((requested_isSome_iff b.staged f).2 h)

/-- A new field is appended while there is room, and refused when there is none. -/
theorem stage_of_new {f : Field} {b : Batch} (v : Int) (h : ∀ p ∈ b.staged, p.1 ≠ f) :
    stage f v b =
      if b.staged.length < batchCapacity then some { b with staged := b.staged ++ [(f, v)] } else none := by
  refine if_neg fun hs => ?_
  obtain ⟨p, hp, hf⟩ := (requested_isSome_iff b.staged f).1 hs
  exact h p hp hf

/-! ### The owner of BATCH.STAGE, its request in work -/

@[simp] theorem working_setup (l : Link) (tag kind : Byte) (s : State) : (working l tag kind s).setup = s.setup := rfl

/-- A link's batch set while its request is in work, and the request then answered. -/
theorem answer_setBatch_working (l : Link) (tag kind : Byte) (status : Status) (payload : Payload) (b : Option Batch)
    (s : State) :
    answer l status payload (setBatch l b (working l tag kind s)) = replied l tag status payload (setBatch l b s) :=
  answer_of_working status payload rfl

theorem ownBatchStage_closed {l : Link} {s : State} (tag kind id : Byte) (value : Word)
    (hb : s.setup.batches.get l = none) :
    ownBatchStage l id value (working l tag kind s) = replied l tag .noBatch .nothing s := by
  simp [ownBatchStage, hb, answer_working]

section
variable {l : Link} {s : State} {b : Batch} {id : Byte} (tag kind : Byte) (value : Word)
  (hb : s.setup.batches.get l = some b)
include hb

theorem ownBatchStage_no_field (hf : fieldOfId id.toNat = none) :
    ownBatchStage l id value (working l tag kind s) = replied l tag .invalid .nothing s := by
  simp [ownBatchStage, hb, hf, answer_working]

theorem ownBatchStage_of_stage {f : Field} {b1 : Batch} (hf : fieldOfId id.toNat = some f)
    (hs : stage f value.toInt b = some b1) :
    ownBatchStage l id value (working l tag kind s) = replied l tag .ok .nothing (setBatch l (some b1) s) := by
  simp [ownBatchStage, hb, hf, hs, answer_setBatch_working]

theorem ownBatchStage_of_full {f : Field} (hf : fieldOfId id.toNat = some f) (hs : stage f value.toInt b = none) :
    ownBatchStage l id value (working l tag kind s) = replied l tag .full .nothing s := by
  simp [ownBatchStage, hb, hf, hs, answer_working]

end

/-! ### The request on its link -/

/-- A taking link hands BATCH.STAGE to its owner, whatever the lockout. -/
theorem exec_batchStage_taking {l : Link} {s : State} (tag id : Byte) (value : Word) (h : taking l s) :
    exec (.batchStage l tag id value) s = .next (ownBatchStage l id value (working l tag 0x15#8 s)) :=
  request_taking tag _ h rfl

/-- Settles O14: whether the batch is open, the ID names a field, the field is staged already and the list has room decides
what the owner answers. -/
theorem batchStageByField : Obligations.BatchStageByField := by
  intro l tag id value s h
  rw [exec_batchStage_taking tag id value h]
  refine ⟨fun hb => ?closed, fun b hb => ⟨fun hf => ?noField, fun f hf => ⟨fun hm => ?replaced, fun hn hr => ?appended,
    fun hn hr => ?full⟩⟩⟩
  case closed => rw [ownBatchStage_closed _ _ id value hb]
  case noField => rw [ownBatchStage_no_field _ _ value hb hf]
  case replaced =>
    rw [ownBatchStage_of_stage _ _ value hb hf (stage_of_mem _ hm)]
    rfl
  case appended =>
    have hs := (stage_of_new value.toInt hn).trans (if_pos hr)
    rw [ownBatchStage_of_stage _ _ value hb hf hs]
    rfl
  case full =>
    have hs := (stage_of_new value.toInt hn).trans (if_neg (Nat.not_lt.2 hr))
    rw [ownBatchStage_of_full _ _ value hb hf hs]

end Sys2Proof.Machine
end

section
/-! PROOFS. PANEL.TAKE (R54): what taking leaves of a queue, what the owner answers for a number in and out of range, and the
answer as the link gives it. -/

namespace Sys2Proof.Machine

/-! ### Taking the oldest entries -/

/-- Taking empties the queue, and so stops its timer, just when it is asked for as many entries as there are. -/
theorem takeEntries_eq (m : Nat) (q : EventQueue) :
    takeEntries m q =
      { q with entries := q.entries.drop m, timer := if q.entries.length ≤ m then none else q.timer } := by
  simp only [takeEntries, List.drop_eq_nil_iff]

/-! ### The owner of PANEL.TAKE, its request in work -/

@[simp] theorem working_queues (l : Link) (tag kind : Byte) (s : State) : (working l tag kind s).queues = s.queues := rfl

/-- A link's queue set while its request is in work, and the request then answered. -/
theorem answer_setQueue_working (l : Link) (tag kind : Byte) (status : Status) (payload : Payload) (q : EventQueue)
    (s : State) :
    answer l status payload (setQueue l q (working l tag kind s)) = replied l tag status payload (setQueue l q s) :=
  answer_of_working status payload rfl

theorem ownPanelTake_in_range (l : Link) (tag kind : Byte) {m : Byte} (s : State) (h1 : 1 ≤ m.toNat)
    (h32 : m.toNat ≤ queueCapacity) :
    ownPanelTake l m (working l tag kind s) = replied l tag .ok
      (.taken ((s.queues.get l).entries.take m.toNat) ((s.queues.get l).entries.length - m.toNat) (s.queues.get l).lost)
      (setQueue l (takeEntries m.toNat (s.queues.get l)) s) := by
  have hleft : (takeEntries m.toNat (s.queues.get l)).entries.length = (s.queues.get l).entries.length - m.toNat :=
    List.length_drop
  rw [ownPanelTake, if_pos ⟨h1, h32⟩]
  simp only [working_queues, answer_setQueue_working, hleft]

theorem ownPanelTake_out_of_range (l : Link) (tag kind : Byte) {m : Byte} (s : State)
    (h : m.toNat = 0 ∨ queueCapacity < m.toNat) :
    ownPanelTake l m (working l tag kind s) = replied l tag .invalid .nothing s := by
  rw [ownPanelTake, if_neg (by omega), answer_working]

/-! ### The request on its link -/

/-- A taking link hands PANEL.TAKE to its owner, whatever the lockout. -/
theorem exec_panelTake_taking {l : Link} {s : State} (tag m : Byte) (h : taking l s) :
    exec (.panelTake l tag m) s = .next (ownPanelTake l m (working l tag 0x20#8 s)) :=
  request_taking tag _ h rfl

/-- Settles O27: whether m is in range decides the owner's answer, and in range the queue left is `takeEntries_eq`'s. -/
theorem panelTakeRemovesOldest : Obligations.PanelTakeRemovesOldest := by
  intro l tag m s h
  rw [exec_panelTake_taking tag m h]
  refine ⟨fun h1 h32 => ?inRange, fun hm => ?outOfRange⟩
  case inRange =>
    rw [ownPanelTake_in_range l tag _ s h1 h32, takeEntries_eq]
    rfl
  case outOfRange => rw [ownPanelTake_out_of_range l tag _ s hm]

end Sys2Proof.Machine
end

section
/-! PROOFS. DISP.CLEAR (R147) and DISP.STATUS (R164): what clearing leaves of the engine, what the owners answer, and the
answers as the link gives them. -/

namespace Sys2Proof.Machine

/-! ### Clearing the planes -/

theorem memGet_nil (a : Nat) : memGet [] a = 0#8 := rfl

theorem clearPlanes_cell (r : RasterEngine) (c : Chan) (a : Nat) :
    memGet ((clearPlanes r).planes.get c) a = 0#8 :=
  (congrArg (memGet · a) (PerChan.all_get [] c)).trans (memGet_nil a)

@[simp] theorem clearPlanes_engine (r : RasterEngine) : (clearPlanes r).engine = r.engine := rfl
@[simp] theorem clearPlanes_redraw (r : RasterEngine) : (clearPlanes r).redraw = r.redraw := rfl
@[simp] theorem clearPlanes_mark (r : RasterEngine) : (clearPlanes r).mark = r.mark := rfl
@[simp] theorem clearPlanes_chosen (r : RasterEngine) : (clearPlanes r).chosen = r.chosen := rfl

/-- Outside RENDERING no draw moves. -/
theorem clearPlanes_draw_of_not_rendering {r : RasterEngine} (h : r.engine ≠ .rendering) :
    (clearPlanes r).draw = r.draw := by
  simp [clearPlanes, h]

/-- In RENDERING the draw starts over at the first span pass of its record. -/
theorem clearPlanes_draw_of_rendering {r : RasterEngine} {d : Draw} (h : r.engine = .rendering) (hd : r.draw = some d) :
    (clearPlanes r).draw = some { d with segment := 0, chan := firstChan d.header } := by
  simp [clearPlanes, h, hd]

/-! ### The owners, their request in work -/

/-- The engine replaced while a link's request is in work, and the request then answered. -/
theorem answer_withRaster_working (l : Link) (tag kind : Byte) (status : Status) (payload : Payload) (r : RasterEngine)
    (s : State) :
    answer l status payload ((working l tag kind s).withRaster r) = replied l tag status payload (s.withRaster r) :=
  answer_of_working status payload rfl

theorem ownDispClear_working (l : Link) (tag kind : Byte) (s : State) :
    ownDispClear l (working l tag kind s) =
      replied l tag .ok (.cleared s.raster.engine (drawnNumber s.raster)) (s.withRaster (clearPlanes s.raster)) :=
  answer_withRaster_working l tag kind .ok _ (clearPlanes s.raster) s

theorem ownDispStatus_working (l : Link) (tag kind : Byte) (s : State) :
    ownDispStatus l (working l tag kind s) =
      replied l tag .ok (.display s.disp.link s.disp.present s.disp.lock s.disp.frames s.disp.sent
        s.disp.sending.isSome s.raster.engine (drawnNumber s.raster) s.raster.redraw) s :=
  answer_working l tag kind .ok _ s

/-! ### The requests on their link -/

/-- A taking link hands DISP.CLEAR to its owner, whatever the lockout. -/
theorem exec_dispClear_taking {l : Link} {s : State} (tag : Byte) (h : taking l s) :
    exec (.dispClear l tag) s = .next (ownDispClear l (working l tag 0x51#8 s)) :=
  request_taking tag _ h rfl

/-- A taking link hands DISP.STATUS to its owner, whatever the lockout. -/
theorem exec_dispStatus_taking {l : Link} {s : State} (tag : Byte) (h : taking l s) :
    exec (.dispStatus l tag) s = .next (ownDispStatus l (working l tag 0x50#8 s)) :=
  request_taking tag _ h rfl

/-- Settles O36: DISP.CLEAR replaces the engine alone, by `clearPlanes` of it, and whether the engine is RENDERING decides
what becomes of the draw; DISP.STATUS replaces nothing. -/
theorem dispClearAndStatus : Obligations.DispClearAndStatus := by
  intro l tag s h
  rw [exec_dispClear_taking tag h, ownDispClear_working, exec_dispStatus_taking tag h, ownDispStatus_working]
  refine ⟨⟨s.withRaster (clearPlanes s.raster), rfl, ?frame, ?cells, ?engine, ?redraw, ?mark, ?chosen, ?drawKept,
    ?drawRestarts⟩, rfl⟩
  case frame => rw [State.withRaster_raster]
  case cells => exact clearPlanes_cell s.raster
  case engine => exact clearPlanes_engine s.raster
  case redraw => exact clearPlanes_redraw s.raster
  case mark => exact clearPlanes_mark s.raster
  case chosen => exact clearPlanes_chosen s.raster
  case drawKept => exact clearPlanes_draw_of_not_rendering
  case drawRestarts => exact fun d => clearPlanes_draw_of_rendering

end Sys2Proof.Machine
end

section
/-! PROOFS. What a command keeps, said once (R16, R48, R57, R58, R108, R117, R130, R150): the waiting commands, a legal live
setup, legal queues and pins, canonical buffers and LEDs that follow their sources. -/

namespace Sys2Proof.Machine

/-! ### The relation -/

/-- What t keeps of s, LEDs aside. -/
structure KeepsDark (s t : State) : Prop where
  pending : t.pending = s.pending
  live : setupLegal s.setup.live = true → setupLegal t.setup.live = true
  queues : ∀ l, queueLegal (s.queues.get l) = true → queueLegal (t.queues.get l) = true
  pins : ∀ l, (s.store.pinsList.get l).length ≤ 2 → (t.store.pinsList.get l).length ≤ 2
  mem : memWf s.store.mem = true → memWf t.store.mem = true
  planes : ∀ c, memWf (s.raster.planes.get c) = true → memWf (t.raster.planes.get c) = true
  overlay : ∀ l, memWf (s.disp.overlay.get l) = true → memWf (t.disp.overlay.get l) = true

/-- What t keeps of s, LEDs that follow their sources among it. -/
structure Keeps (s t : State) : Prop extends KeepsDark s t where
  leds : ledsFollow s → ledsFollow t

/-- t keeps what `Keeps` names, and has no record named for drawing where s has none. -/
structure Settles (s t : State) : Prop extends Keeps s t where
  chosen : s.raster.chosen = none → t.raster.chosen = none

theorem KeepsDark.refl (s : State) : KeepsDark s s := ⟨rfl, id, fun _ => id, fun _ => id, id, fun _ => id, fun _ => id⟩

theorem KeepsDark.trans {s t u : State} (h : KeepsDark s t) (k : KeepsDark t u) : KeepsDark s u :=
  ⟨k.pending.trans h.pending, k.live ∘ h.live, fun l => k.queues l ∘ h.queues l, fun l => k.pins l ∘ h.pins l, k.mem ∘ h.mem,
    fun c => k.planes c ∘ h.planes c, fun l => k.overlay l ∘ h.overlay l⟩

theorem Keeps.refl (s : State) : Keeps s s := ⟨.refl s, id⟩

theorem Keeps.trans {s t u : State} (h : Keeps s t) (k : Keeps t u) : Keeps s u :=
  ⟨h.toKeepsDark.trans k.toKeepsDark, k.leds ∘ h.leds⟩

theorem Settles.refl (s : State) : Settles s s := ⟨.refl s, id⟩

theorem Settles.trans {s t u : State} (h : Settles s t) (k : Settles t u) : Settles s u :=
  ⟨h.toKeeps.trans k.toKeeps, k.chosen ∘ h.chosen⟩

/-- A change of nothing that the LEDs depend on keeps them following. -/
theorem KeepsDark.lit {s t : State} (h : KeepsDark s t) (hv : ledView t = ledView s) : Keeps s t :=
  ⟨h, ledsFollow_of_view hv⟩

/-- A change that leaves the record named for drawing. -/
theorem Keeps.settles {s t : State} (h : Keeps s t) (hc : t.raster.chosen = s.raster.chosen) : Settles s t :=
  ⟨h, fun hs => hc.trans hs⟩

/-! ### Replacing one block -/

theorem KeepsDark.of_eq {s t : State} (hp : t.pending = s.pending) (hl : t.setup.live = s.setup.live)
    (hq : t.queues = s.queues) (hs : t.store = s.store) (hr : t.raster.planes = s.raster.planes)
    (ho : t.disp.overlay = s.disp.overlay) : KeepsDark s t :=
  ⟨hp, fun h => hl ▸ h, fun _ h => hq ▸ h, fun _ h => hs ▸ h, fun h => hs ▸ h, fun _ h => hr ▸ h, fun _ h => ho ▸ h⟩

/-- A change of none of the parts that the relations speak of. -/
theorem Settles.of_eq {s t : State} (hp : t.pending = s.pending) (hl : t.setup.live = s.setup.live)
    (hq : t.queues = s.queues) (hs : t.store = s.store) (hr : t.raster = s.raster)
    (ho : t.disp.overlay = s.disp.overlay) (hv : ledView t = ledView s) : Settles s t :=
  ⟨(KeepsDark.of_eq hp hl hq hs (hr ▸ rfl) ho).lit hv, fun h => hr ▸ h⟩

section
variable (s : State)

theorem settles_withRaces (x : Races) : Settles s (s.withRaces x) := .of_eq rfl rfl rfl rfl rfl rfl rfl
theorem settles_withLinks (x : PerLink LinkState) : Settles s (s.withLinks x) := .of_eq rfl rfl rfl rfl rfl rfl rfl
theorem settles_withSaved (x : SavedStore) : Settles s (s.withSaved x) := .of_eq rfl rfl rfl rfl rfl rfl rfl
theorem settles_withPanel (x : PanelScanner) : Settles s (s.withPanel x) := .of_eq rfl rfl rfl rfl rfl rfl rfl
theorem settles_withSubMs (x : Nat) : Settles s (s.withSubMs x) := .of_eq rfl rfl rfl rfl rfl rfl rfl

theorem keepsDark_withRouter (x : Router) : KeepsDark s (s.withRouter x) := .of_eq rfl rfl rfl rfl rfl rfl
theorem keepsDark_withPower (x : Power) : KeepsDark s (s.withPower x) := .of_eq rfl rfl rfl rfl rfl rfl
theorem keepsDark_withSeq (x : Sequencer) : KeepsDark s (s.withSeq x) := .of_eq rfl rfl rfl rfl rfl rfl

theorem keepsDark_withSetup {x : SetupBlock} (h : setupLegal s.setup.live = true → setupLegal x.live = true) :
    KeepsDark s (s.withSetup x) := ⟨rfl, h, fun _ => id, fun _ => id, id, fun _ => id, fun _ => id⟩

variable {s}

/-- The live setup left alone. -/
theorem settles_withSetup {x : SetupBlock} (h : x.live = s.setup.live := by rfl) : Settles s (s.withSetup x) :=
  .of_eq rfl h rfl rfl rfl rfl (by simp [ledView, h])

/-- Run state and capture state left alone. -/
theorem settles_withSeq {x : Sequencer} (hr : x.run = s.seq.run := by rfl) (hc : x.cap = s.seq.cap := by rfl) :
    Settles s (s.withSeq x) :=
  .of_eq rfl rfl rfl rfl rfl rfl (by simp [ledView, hr, hc])

/-- Power state and phase left alone. -/
theorem settles_withPower {x : Power} (hp : x.state = s.power.state := by rfl)
    (hf : x.phase = s.power.phase := by rfl) : Settles s (s.withPower x) :=
  .of_eq rfl rfl rfl rfl rfl rfl (by simp [ledView, hp, hf])

/-- LED table, LEDs and lockout state left alone. -/
theorem settles_withRouter {x : Router} (hk : x.lockout = s.router.lockout := by rfl)
    (he : x.leds = s.router.leds := by rfl) (hl : x.lit = s.router.lit := by rfl) : Settles s (s.withRouter x) :=
  .of_eq rfl rfl rfl rfl rfl rfl (by simp [ledView, hk, he, hl])

theorem settles_withQueues {x : PerLink EventQueue}
    (h : ∀ l, queueLegal (s.queues.get l) = true → queueLegal (x.get l) = true) : Settles s (s.withQueues x) :=
  ⟨⟨⟨rfl, id, h, fun _ => id, id, fun _ => id, fun _ => id⟩, ledsFollow_of_view rfl⟩, id⟩

/-- Acquisition memory canonical, and at most two pins on each link. -/
theorem settles_withStore {x : RecordStore} (hm : memWf s.store.mem = true → memWf x.mem = true)
    (hp : ∀ l, (s.store.pinsList.get l).length ≤ 2 → (x.pinsList.get l).length ≤ 2) : Settles s (s.withStore x) :=
  ⟨⟨⟨rfl, id, fun _ => id, hp, hm, fun _ => id, fun _ => id⟩, ledsFollow_of_view rfl⟩, id⟩

/-- Acquisition memory and pins left alone. -/
theorem settles_withStore_same {x : RecordStore} (hm : x.mem = s.store.mem := by rfl)
    (hp : x.pinsList = s.store.pinsList := by rfl) : Settles s (s.withStore x) :=
  settles_withStore (fun h => hm ▸ h) (fun _ h => hp ▸ h)

theorem keeps_withRaster {x : RasterEngine}
    (h : ∀ c, memWf (s.raster.planes.get c) = true → memWf (x.planes.get c) = true := by exact fun _ => id) :
    Keeps s (s.withRaster x) :=
  ⟨⟨rfl, id, fun _ => id, fun _ => id, id, h, fun _ => id⟩, ledsFollow_of_view rfl⟩

/-- The planes and the record named left alone. -/
theorem settles_withRaster {x : RasterEngine} (hp : x.planes = s.raster.planes := by rfl)
    (hc : x.chosen = s.raster.chosen := by rfl) : Settles s (s.withRaster x) :=
  (keeps_withRaster fun _ h => hp ▸ h).settles hc

theorem settles_withDisp {x : Composer}
    (h : ∀ l, memWf (s.disp.overlay.get l) = true → memWf (x.overlay.get l) = true) : Settles s (s.withDisp x) :=
  ⟨⟨⟨rfl, id, fun _ => id, fun _ => id, id, fun _ => id, h⟩, ledsFollow_of_view rfl⟩, id⟩

/-- The overlay layers left alone. -/
theorem settles_withDisp_same {x : Composer} (h : x.overlay = s.disp.overlay := by rfl) : Settles s (s.withDisp x) :=
  settles_withDisp fun _ hs => h ▸ hs

end

/-- An evaluation of the LEDs replaces what they show, and nothing else. -/
theorem evalLeds_eq (s : State) : ∃ lit, evalLeds s = s.withRouter { s.router with lit := lit } := by
  unfold evalLeds; split
  · exact ⟨_, rfl⟩
  · exact ⟨s.router.lit, rfl⟩

theorem keepsDark_evalLeds (s : State) : KeepsDark s (evalLeds s) := by
  obtain ⟨lit, h⟩ := evalLeds_eq s
  exact h ▸ keepsDark_withRouter s _

@[simp] theorem evalLeds_raster (s : State) : (evalLeds s).raster = s.raster := by
  obtain ⟨lit, h⟩ := evalLeds_eq s
  rw [h, State.withRouter_raster]

/-- An evaluation of the LEDs makes up for any change of what they depend on. -/
theorem KeepsDark.relit {s t : State} (h : KeepsDark s t)
    (hc : s.raster.chosen = none → t.raster.chosen = none := by exact id) : Settles s (evalLeds t) :=
  ⟨⟨h.trans (keepsDark_evalLeds t), fun _ => evalLeds_follows t⟩,
    fun hs => (congrArg RasterEngine.chosen (evalLeds_raster t)).trans (hc hs)⟩

/-! ### Links -/

theorem settles_setLink (l : Link) (k : LinkState) (s : State) : Settles s (setLink l k s) := settles_withLinks s _
theorem settles_notify (l : Link) (n : Notice) (s : State) : Settles s (notify l n s) := settles_withLinks s _
theorem settles_notifyBoth (n : Notice) (s : State) : Settles s (notifyBoth n s) :=
  (settles_notify _ n s).trans (settles_notify _ n _)
theorem settles_answer (l : Link) (st : Status) (p : Payload) (s : State) : Settles s (answer l st p s) :=
  settles_withLinks s _
theorem settles_beginRequest (l : Link) (t k : Byte) (s : State) : Settles s (beginRequest l t k s) :=
  settles_withLinks s _
theorem settles_refuseBusy (l : Link) (t : Byte) (s : State) : Settles s (refuseBusy l t s) := settles_withLinks s _

theorem settles_acceptLong (l : Link) (t k : Byte) (s : State) : Settles s (acceptLong l t k s) := by
  unfold acceptLong; split
  · exact .refl s
  · exact (settles_answer ..).trans (settles_setLink ..)

theorem settles_finalStatus (l : Link) (held : Bool) (st : Status) (p : Payload) (s : State) :
    Settles s (finalStatus l held st p s) := by
  unfold finalStatus; split
  · exact settles_answer ..
  · dsimp only; split
    · exact (settles_setLink ..).trans (settles_notify ..)
    · exact .refl s

/-! ### Segments (chapter 5) -/

theorem settles_setCap (c : CapState) (s : State) : Settles s (setCap c s) := by
  unfold setCap; split
  · exact .refl s
  · exact (keepsDark_withSeq s _).relit

theorem settles_setRun (r : RunState) (s : State) : Settles s (setRun r s) := by
  unfold setRun; split
  · exact .refl s
  · exact (keepsDark_withSeq s _).relit

theorem settles_setCurrent (r : Option Record) (s : State) : Settles s (setCurrent r s) := settles_withSeq

theorem settles_setFront (f : Front) (s : State) : Settles s (setFront f s) := settles_withSeq

theorem settles_takeTrigger (t : Trigger) (r : Record) (s : State) : Settles s (takeTrigger t r s) := by
  unfold takeTrigger
  exact (settles_withSeq).trans (settles_setCap _ _)

theorem settles_forcedTrigger (s : State) : Settles s (forcedTrigger s) := by
  unfold forcedTrigger; split
  · exact .refl s
  · exact settles_takeTrigger ..

theorem settles_arm (s : State) : Settles s (arm s) := by
  unfold arm; split
  · exact .refl s
  · have h := fun r => (settles_setCurrent r s).trans (settles_setCap .armed _)
    dsimp only; split
    · exact (h _).trans ((settles_withSeq).trans (settles_forcedTrigger _))
    · split
      · exact (h _).trans (settles_withSeq)
      · exact h _

theorem settles_segmentStart (s : State) : Settles s (segmentStart s) := by
  unfold segmentStart; split
  · exact .refl s
  · have h := fun r => (settles_setCurrent r s).trans (settles_setCap .prefill _)
    dsimp only; split
    · exact (h _).trans (settles_arm _)
    · exact h _

/-! ### Records (chapter 6) -/

theorem settles_grantSlot (n : Nat) (s : State) : Settles s (grantSlot n s) := by
  obtain ⟨hm, -, hp, -⟩ := countReuse_kept (s.store.slots.getD n .free) s.store
  unfold grantSlot
  exact ((settles_withStore_same (by exact hm) (by exact hp)).trans settles_withSeq).trans
    ((settles_setCurrent _ _).trans (settles_segmentStart _))

theorem settles_requestSlot (s : State) : Settles s (requestSlot s) := by
  unfold requestSlot; split
  · exact settles_grantSlot _ s
  · exact (settles_withStore_same).trans (settles_setCap ..)

theorem settles_reevaluate (s : State) : Settles s (reevaluate s) := by
  unfold reevaluate; split
  · split
    · exact settles_grantSlot _ s
    · exact .refl s
  · exact .refl s

theorem settles_countCompletionOn (l : Link) (s : State) : Settles s (countCompletionOn l s) := by
  unfold countCompletionOn; dsimp only; split
  · exact (settles_withStore_same).trans (settles_notify ..)
  · exact settles_withStore_same

/-! ### Drawing (section 7.4) -/

theorem settles_dropDraw (s : State) : Settles s (dropDraw s) := settles_withRaster

theorem settles_finishDraw (n : Word) (d : Drawn) (s : State) : Settles s (finishDraw n d s) :=
  ((settles_withStore_same).trans (settles_dropDraw _)).trans (settles_reevaluate _)

theorem memWf_clearOthers (h : Header) (planes : PerChan Memory) (c : Chan) (hw : memWf (planes.get c) = true) :
    memWf ((clearOthers h planes).get c) = true := by
  unfold clearOthers; rw [perChan_get]; split
  · exact hw
  · rfl

theorem settles_beginDraw (k : DrawKind) (h : Header) (s : State) : Settles s (beginDraw k h s) := by
  have begun : ∀ (x : RecordStore) (y : RasterEngine), x.mem = s.store.mem → x.pinsList = s.store.pinsList →
      y.chosen = s.raster.chosen → (∀ c, memWf (s.raster.planes.get c) = true → memWf (y.planes.get c) = true) →
      Settles s ((s.withStore x).withRaster y) := fun x y hm hp hc hy =>
    (settles_withStore_same hm hp).trans ((keeps_withRaster (s := s.withStore x) hy).settles hc)
  unfold beginDraw
  dsimp only
  split
  · refine (begun _ _ ?_ ?_ ?_ ?_).trans (settles_finishDraw ..)
    any_goals rfl
    intro c hw
    dsimp only
    split
    · exact memWf_clearOthers h _ c hw
    · exact hw
  · refine begun _ _ ?_ ?_ ?_ ?_
    any_goals rfl
    intro c hw
    dsimp only
    split
    · exact memWf_clearOthers h _ c hw
    · exact hw

theorem keeps_choose (c : Option (DrawKind × Word)) (s : State) : Keeps s (choose c s) := keeps_withRaster

theorem keeps_askDraw (s : State) : Keeps s (askDraw s) := by
  unfold askDraw; split
  · exact .refl s
  · split
    · refine (keeps_withRaster ?_).trans (keeps_choose _ _)
      exact fun c _ => (PerChan.all_get [] c).symm ▸ rfl
    · exact keeps_choose _ s

theorem keeps_startDraw (n : Nat) (s : State) : Keeps s (startDraw n s) := by
  induction n generalizing s with
  | zero => exact keeps_choose _ s
  | succ n ih =>
      unfold startDraw; split
      · exact .refl s
      · split
        · exact keeps_choose _ s
        · have h := fun t => (keeps_askDraw t).trans (ih _)
          split
          · exact (keeps_choose _ s).trans ((settles_beginDraw ..).toKeeps.trans (h _))
          · exact (keeps_choose _ s).trans (h _)

/-- The draw start of the record named leaves none named: it is drawn or refused (R142). -/
theorem startDraw_chosen (n : Nat) (s : State) : (startDraw n s).raster.chosen = none := by
  induction n generalizing s with
  | zero => rfl
  | succ n ih =>
      unfold startDraw; split
      · assumption
      · split
        · rfl
        · split <;> exact ih _

theorem settleDraw_chosen (s : State) : (settleDraw s).raster.chosen = none := startDraw_chosen _ s

theorem settles_settleDraw (s : State) : Settles s (settleDraw s) := ⟨keeps_startDraw _ s, fun _ => settleDraw_chosen s⟩

theorem settles_selectDraw (s : State) : Settles s (selectDraw s) :=
  ⟨(keeps_askDraw s).trans (settles_settleDraw _).toKeeps, fun _ => settleDraw_chosen _⟩

/-! ### Reactions taken in any order (log 5) -/

/-- How many turns a reaction may need: one when it leaves no record named, else one more for the draw start. -/
noncomputable def turns (act : State → State) : Nat :=
  open Classical in if ∀ s, (act s).raster.chosen = none then 1 else 2

theorem turns_le_two (act : State → State) : turns act ≤ 2 := by unfold turns; split <;> omega

theorem turns_pos (act : State → State) : 1 ≤ turns act := by unfold turns; split <;> omega

theorem turns_settleDraw : turns settleDraw = 1 := if_pos settleDraw_chosen

theorem sum_turns_le (acts : List (State → State)) : (acts.map turns).sum ≤ 2 * acts.length := by
  induction acts with
  | nil => simp
  | cons a rest ih => have := turns_le_two a; simp; omega

/-- A reaction taken uses up at least one turn, its draw start counted. -/
theorem turns_lateStart (act : State → State) (s : State) :
    ((interleave.lateStart (act s)).map turns).sum + 1 ≤ turns act := by
  by_cases h : (act s).raster.chosen = none
  · have hp := turns_pos act
    simpa [interleave.lateStart, h] using hp
  · have ht : turns act = 2 := if_neg fun hn => h (hn s)
    simp [interleave.lateStart, Option.isSome_iff_ne_none.2 h, turns_settleDraw, ht]

theorem sum_map_eraseIdx {α : Type} (f : α → Nat) (l : List α) {i : Nat} (h : i < l.length) :
    ((l.eraseIdx i).map f).sum + f l[i] = (l.map f).sum := by
  induction l generalizing i with
  | nil => simp at h
  | cons a rest ih =>
      cases i with
      | zero => simp; omega
      | succ i => have := ih (Nat.lt_of_succ_lt_succ h); simp; omega

/-- With turns enough, reactions leave no record named where none was, or where a reaction has been taken. -/
theorem interleave_chosen (n : Nat) (acts : List (State → State)) (s : State) (hn : (acts.map turns).sum ≤ n)
    (hs : acts = [] → s.raster.chosen = none) : (interleave n acts s).raster.chosen = none := by
  have late : ∀ (t : State) (rest : List (State → State)), interleave.lateStart t ++ rest = [] → t.raster.chosen = none := by
    intro t rest h
    unfold interleave.lateStart at h
    split at h
    · simp at h
    · exact Option.not_isSome_iff_eq_none.1 ‹_›
  induction n generalizing acts s with
  | zero =>
      cases acts with
      | nil => exact hs rfl
      | cons a rest => have := turns_pos a; simp at hn; omega
  | succ n ih =>
      unfold interleave
      split
      · exact hs rfl
      · next act =>
          refine ih _ _ ?_ (fun h => late _ [] (by simpa using h))
          have := turns_lateStart act s
          simp at hn; omega
      · next hne _ =>
          dsimp only
          have hpos : 0 < acts.length := List.length_pos_iff.2 hne
          generalize hi : s.races.head % acts.length = i
          have hlt : i < acts.length := hi ▸ Nat.mod_lt _ hpos
          rw [List.getD_eq_getElem _ _ hlt]
          refine ih _ _ ?_ (late _ _)
          have h1 := turns_lateStart acts[i] (s.withRaces s.races.tail)
          have h2 := sum_map_eraseIdx turns acts hlt
          simp only [List.map_append, List.sum_append]
          omega

/-- Reactions that each keep what `Keeps` names keep it together, and leave no record named where none was. -/
theorem settles_takeAll (acts : List (State → State)) (h : ∀ act ∈ acts, ∀ s, Keeps s (act s)) (s : State) :
    Settles s (takeAll acts s) := by
  refine ⟨takeAll_keeps (P := Keeps s) (fun t x ht => ht.trans (settles_withRaces t x).toKeeps)
    (fun t ht => ht.trans (settles_settleDraw t).toKeeps) acts (fun act ha t ht => ht.trans (h act ha t)) s (.refl s),
    fun hs => ?_⟩
  exact interleave_chosen _ acts s (sum_turns_le acts) fun _ => hs

theorem keeps_redrawRequest (s : State) : Keeps s (redrawRequest s) :=
  (keeps_withRaster).trans (keeps_askDraw _)

theorem settles_drawFreed (n : Word) (s : State) : Settles s (drawFreed n s) := by
  unfold drawFreed; split
  · split
    · exact (settles_dropDraw s).trans (settles_selectDraw _)
    · exact .refl s
  · exact .refl s

theorem settles_closeRecord {next : State → State} (h : ∀ s, Settles s (next s)) (s : State) :
    Settles s (closeRecord next s) := by
  unfold closeRecord; split
  · exact h s
  · have closed := fun r : Record => (settles_withStore_same (s := s) (x := closeSlot r.number r.completed s.store)).trans
      (settles_setCurrent none _)
    dsimp only; split
    · refine (closed _).trans (((settles_countCompletionOn ..).trans (settles_countCompletionOn ..)).trans
        (settles_takeAll _ ?_ _))
      simp only [List.mem_cons, List.not_mem_nil, or_false, forall_eq_or_imp, forall_eq]
      exact ⟨keeps_askDraw, fun t => (h t).toKeeps⟩
    · exact (closed _).trans (h _)

theorem settles_spanPassAt (slot : Nat) (d : Draw) (s : State) : Settles s (spanPassAt slot d s) := by
  have pass : ∀ old new : Memory, (memWf (s.raster.planes.get d.chan) = true → memWf old = true) →
      (memWf old = true → memWf new = true) →
      Settles s (s.withRaster { s.raster with planes := s.raster.planes.set d.chan new }) := by
    intro old new ho hn
    refine (keeps_withRaster fun c hw => ?_).settles rfl
    by_cases hd : c = d.chan
    · subst hd
      rw [PerChan.get_set_same]
      exact hn (ho hw)
    · rw [PerChan.get_set_other _ _ hd]; exact hw
  have old : memWf (s.raster.planes.get d.chan) = true →
      memWf (if d.kind = .first ∧ d.view.persist = 0 ∧ d.segment = 0 then [] else s.raster.planes.get d.chan) = true := by
    intro hw
    split
    · rfl
    · exact hw
  unfold spanPassAt
  dsimp only
  split
  · exact (pass _ _ old (memWf_addSpans _ _)).trans settles_withRaster
  · exact (pass _ _ old (memWf_addSpans _ _)).trans ((settles_finishDraw ..).trans (settles_selectDraw _))

/-! ### Standby (section 11.2) -/

theorem settles_setDispLink (d : DispLink) (s : State) : Settles s (setDispLink d s) := by
  unfold setDispLink; dsimp only; split
  · exact settles_withDisp_same
  · exact (settles_withDisp_same).trans (settles_notifyBoth ..)

theorem settles_composerStop (s : State) : Settles s (composerStop s) := by
  unfold composerStop; dsimp only; split
  · exact (settles_withDisp_same).trans ((settles_withDisp_same).trans (settles_notifyBoth ..))
  · exact (settles_withDisp_same).trans (settles_withDisp_same)

theorem settles_enterStandby (s : State) : Settles s (enterStandby s) := by
  have lit : ∀ p : Power, Settles s (evalLeds (((composerStop ((s.withPower p).withSetup
      { s.setup with outputs := none }))).withPanel (stopKeyTimers
        (composerStop ((s.withPower p).withSetup { s.setup with outputs := none })).panel))) := fun p => by
    have h := ((settles_withSetup (s := s.withPower p) (x := { s.setup with outputs := none })).trans
      (settles_composerStop _)).trans (settles_withPanel _ (stopKeyTimers
        (composerStop ((s.withPower p).withSetup { s.setup with outputs := none })).panel))
    exact ((keepsDark_withPower s p).trans h.toKeepsDark).relit h.chosen
  unfold enterStandby
  dsimp only
  split
  · exact (lit _).trans (settles_finalStatus ..)
  · exact lit _

theorem settles_tryStandby (s : State) : Settles s (tryStandby s) := by
  unfold tryStandby; split
  · exact settles_enterStandby s
  · exact .refl s

theorem settles_reportIdle (s : State) : Settles s (reportIdle s) := by
  unfold reportIdle; split
  · exact (settles_withPower).trans (settles_tryStandby _)
  · exact .refl s

theorem settles_enterIdle (s : State) : Settles s (enterIdle s) :=
  ((settles_withSeq).trans ((settles_setCap ..).trans (settles_setRun ..))).trans (settles_reportIdle _)

theorem settles_reportHalt (s : State) : Settles s (reportHalt s) :=
  (settles_withPower).trans (settles_tryStandby _)

theorem settles_abandonDraw (s : State) : Settles s (abandonDraw s) := by
  unfold abandonDraw; split
  · exact (settles_withStore_same).trans (settles_reevaluate _)
  · exact .refl s

theorem settles_haltRaster (s : State) : Settles s (haltRaster s) := by
  unfold haltRaster
  exact ((settles_abandonDraw s).trans ⟨keeps_withRaster, fun _ => rfl⟩).trans (settles_reportHalt _)

/-! ### The sequence (chapter 5) -/

theorem settles_abandonSegment (s : State) : Settles s (abandonSegment s) := settles_withSeq

theorem settles_afterLostRecord (s : State) : Settles s (afterLostRecord s) := by
  unfold afterLostRecord; split
  · exact settles_enterIdle s
  · exact settles_requestSlot s

theorem settles_captureChange (g : Word) (s : State) : Settles s (captureChange g s) := by
  unfold captureChange; split
  · exact .refl s
  · split
    · exact (settles_abandonSegment s).trans (settles_closeRecord settles_afterLostRecord _)
    · exact .refl s

theorem settles_withdrawal (n : Word) (s : State) : Settles s (withdrawal n s) := by
  unfold withdrawal; split
  · exact .refl s
  · split
    · exact ((settles_abandonSegment s).trans (settles_setCurrent ..)).trans (settles_afterLostRecord _)
    · exact .refl s

theorem settles_layoutChange (s : State) : Settles s (layoutChange s) := by
  unfold layoutChange
  dsimp only
  refine Settles.trans ?_ (settles_reevaluate _)
  have h : Settles s (s.withStore { s.store with
    slots := List.replicate (slotCount (recordBytesOf s.setup.live)) .free
    recordBytes := recordBytesOf s.setup.live
    pinsList := .both [] }) := settles_withStore id fun l _ => by simp
  split <;> split
  · exact (h.trans (settles_withdrawal ..)).trans (settles_drawFreed ..)
  · exact h.trans (settles_drawFreed ..)
  · exact h.trans (settles_withdrawal ..)
  · exact h

theorem settles_acqStop (s : State) : Settles s (acqStop s) := by
  have closed := (settles_abandonSegment s).trans (settles_closeRecord settles_enterIdle _)
  unfold acqStop; split
  · exact .refl s
  · exact (settles_withStore_same).trans (settles_enterIdle _)
  · exact closed
  · exact closed
  · exact settles_withSeq

theorem settles_acqForce (s : State) : Settles s (acqForce s) := by
  unfold acqForce; split
  · exact settles_forcedTrigger s
  · exact settles_withSeq
  · exact .refl s

theorem settles_standbyStop (s : State) : Settles s (standbyStop s) := by
  unfold standbyStop; dsimp only; split
  · exact (settles_withSeq).trans (settles_reportIdle _)
  · exact (settles_withSeq).trans (settles_acqStop _)

theorem settles_completeSegment (r : Record) (t : Trigger) (s : State) : Settles s (completeSegment r t s) := by
  have h := fun x => (settles_withStore (s := s) (x := { segmentEntry r.number (segmentEntryOf t) r.marks s.store with
    mem := writeSegment s.store.recordBytes r s.store.mem }) (memWf_writeSegment _ r) (fun _ => id)).trans
      (settles_setCurrent x _)
  unfold completeSegment
  dsimp only
  split
  · exact (h _).trans (settles_closeRecord settles_enterIdle _)
  · split
    · exact (h _).trans ((settles_setCurrent ..).trans (settles_segmentStart _))
    · split
      · exact (h _).trans (settles_closeRecord settles_requestSlot _)
      · exact (h _).trans (settles_closeRecord settles_enterIdle _)

theorem settles_closeBin (s : State) : Settles s (closeBin s) := by
  unfold closeBin; split
  · exact .refl s
  · dsimp only; split
    · split
      · exact (settles_setCurrent ..).trans (settles_arm _)
      · exact settles_setCurrent ..
    · exact settles_setCurrent ..
    · split
      · split
        · exact settles_completeSegment ..
        · exact settles_setCurrent ..
      · exact settles_setCurrent ..
    · exact .refl s

theorem settles_takeInstant (codes : PerChan Byte) (r : Record) (s : State) : Settles s (takeInstant codes r s) := by
  have trig : ∀ (c : Prop) [Decidable c] (t : Trigger) (r1 : Record) (u : State),
      Settles u (if c then takeTrigger t r1 u else u) := by
    intro c _ t r1 u
    split
    · exact settles_takeTrigger ..
    · exact .refl u
  unfold takeInstant
  dsimp only
  split
  · exact (settles_setCurrent ..).trans ((trig ..).trans (settles_closeBin _))
  · exact (settles_setCurrent ..).trans (trig ..)

theorem settles_takeInstants (n : Nat) (s : State) : Settles s (takeInstants n s) := by
  induction n generalizing s with
  | zero => exact .refl s
  | succ n ih =>
      unfold takeInstants; split
      · exact .refl s
      · dsimp only; split
        · exact (settles_setFront ..).trans ((settles_takeInstant ..).trans (ih _))
        · exact .refl s

theorem settles_followStreams (en : List Chan) (core : Fin 4) (s : State) : Settles s (followStreams en core s) := by
  unfold followStreams; split
  · exact .refl s
  · exact (settles_withRaces s _).trans (settles_setFront ..)

theorem settles_takeCode (en : List Chan) (core : Fin 4) (code : Byte) (s : State) :
    Settles s (takeCode en core code s) := by
  unfold takeCode; dsimp only; split
  · exact (settles_setFront ..).trans (settles_takeInstants ..)
  · exact settles_setFront ..

theorem settles_takeSample (core : Fin 4) (code : Byte) (s : State) : Settles s (takeSample core code s) := by
  unfold takeSample; split
  · exact .refl s
  · split
    · exact (settles_followStreams ..).trans (settles_takeCode ..)
    · exact .refl s

end Sys2Proof.Machine
end

section
/-! PROOFS. The fields of a setup through a commit (R10 to R16): reading after writing, what step 3 builds, what each adjustment
leaves, and that a candidate of a legal live setup is legal. -/

namespace Sys2Proof.Machine

/-! ### Fields and their places -/

theorem allFields_fieldIndex (f : Field) : allFields[(fieldIndex f).val]? = some f := by
  cases f with
  | chOn c | chScale c | chOffset c | chCoupling c | chBwl c | chInvert c => cases c <;> rfl
  | _ => rfl

theorem fieldIndex_inj {f g : Field} (h : fieldIndex f = fieldIndex g) : f = g := by
  have hf := allFields_fieldIndex f
  rw [h, allFields_fieldIndex g] at hf
  exact (Option.some.inj hf).symm

theorem mem_allFields (f : Field) : f ∈ allFields := List.mem_of_getElem? (allFields_fieldIndex f)

@[simp] theorem Setup.get_put_same (st : Setup) (f : Field) (v : Int) : (st.put f v).get f = v := by
  simp [Setup.get, Setup.put]

theorem Setup.get_put_other (st : Setup) {f g : Field} (v : Int) (h : g ≠ f) : (st.put f v).get g = st.get g := by
  have hne : (fieldIndex f).val ≠ (fieldIndex g).val := fun he => h (fieldIndex_inj (Fin.ext he.symm))
  simp [Setup.get, Setup.put, Vector.getElem_set_ne _ _ hne]

theorem fieldIndex_surj (i : Fin 44) : ∃ f, fieldIndex f = i :=
  have all : ∀ i : Fin 44, fieldIndex (allFields.getD i.val .viewPan) = i := by decide
  ⟨_, all i⟩

/-- Two setups with the same fields are equal. -/
theorem Setup.ext_get {a b : Setup} (h : ∀ f, a.get f = b.get f) : a = b := by
  obtain ⟨x⟩ := a
  obtain ⟨y⟩ := b
  congr 1
  ext i hi
  obtain ⟨f, hf⟩ := fieldIndex_surj ⟨i, hi⟩
  have := h f
  simpa [Setup.get, hf] using this

/-! ### Step 3 -/

/-- The candidate of step 3 holds the requested value after step 2, else the live one. -/
theorem buildCandidate_get (live : Setup) (w : Option Int) (req : List (Field × Int)) (f : Field) :
    (buildCandidate live w req).get f = ((requested req f).map (clampValue w f)).getD (live.get f) := by
  induction req with
  | nil => rfl
  | cons p rest ih =>
      have hb : buildCandidate live w (p :: rest) = (buildCandidate live w rest).put p.1 (clampValue w p.1 p.2) := rfl
      rw [hb]
      by_cases h : p.1 = f
      · subst h; simp [requested]
      · rw [Setup.get_put_other _ _ (Ne.symm h), ih]; simp [requested, h]

theorem clampInt_bounds {lo hi : Int} (h : lo ≤ hi) (v : Int) : lo ≤ clampInt lo hi v ∧ clampInt lo hi v ≤ hi := by
  unfold clampInt; omega

theorem clampInt_of_mem {lo hi v : Int} (h1 : lo ≤ v) (h2 : v ≤ hi) : clampInt lo hi v = v := by
  unfold clampInt; omega

/-- The value of a numeric field after step 2 lies within its fixed bounds. -/
theorem clampValue_bounds (w : Option Int) {f : Field} {lo hi : Int} (h : handling f = .clamp lo hi) (v : Int) :
    lo ≤ clampValue w f v ∧ clampValue w f v ≤ hi := by
  have hle : lo ≤ hi := by cases f <;> simp [handling] at h <;> omega
  unfold clampValue
  rw [h]
  dsimp only
  split
  · simp only [handling, Handling.clamp.injEq] at h
    obtain ⟨rfl, rfl⟩ := h
    exact clampInt_bounds hle _
  · exact clampInt_bounds hle v

theorem clampValue_enum (w : Option Int) {f : Field} {set : List Int} (h : handling f = .enum set) (v : Int) :
    clampValue w f v = v := by unfold clampValue; rw [h]

/-! ### Step 4 -/

/-- The channels of a list that are on, in its order, are those of any setup with the same channels on. -/
theorem enabledChans_congr {a b : Setup} (h : ∀ c, a.get (.chOn c) = b.get (.chOn c)) : enabledChans a = enabledChans b := by
  simp only [enabledChans, h]

theorem mem_enabledChans {st : Setup} {c : Chan} : c ∈ enabledChans st ↔ st.get (.chOn c) = 1 := by
  have : c ∈ Config.chans := by cases c <;> simp [Config.chans]
  simp [enabledChans, this]

theorem enabledChans_length_le (st : Setup) : (enabledChans st).length ≤ 4 := List.length_filter_le _ Config.chans

theorem sourceChan_congr {a b : Setup} (h : a.get .trigSource = b.get .trigSource) : sourceChan a = sourceChan b := by
  simp only [sourceChan, h]

@[simp] theorem chanOfNumber_chanNumber (c : Chan) : chanOfNumber (chanNumber c) = some c := by cases c <;> rfl

theorem adjustOffset_get_other (st : Setup) (c : Chan) {f : Field} (h : f ≠ .chOffset c) :
    (adjustOffset st c).get f = st.get f := Setup.get_put_other _ _ h

theorem adjust1_get_other (st : Setup) {f : Field} (h : ∀ c, f ≠ .chOffset c) : (adjust1 st).get f = st.get f := by
  simp only [adjust1, Config.chans, List.foldl, adjustOffset_get_other _ _ (h _)]

theorem adjust1_get_offset (st : Setup) (c : Chan) :
    (adjust1 st).get (.chOffset c) =
      clampInt (-offsetBound (st.get (.chScale c))) (offsetBound (st.get (.chScale c))) (st.get (.chOffset c)) := by
  cases c <;> simp [adjust1, Config.chans, adjustOffset, Setup.get_put_other]

theorem adjust2_get_other (st : Setup) {f : Field} (h : f ≠ .trigSource) : (adjust2 st).get f = st.get f := by
  unfold adjust2; split
  · rfl
  · split
    · rfl
    · exact Setup.get_put_other _ _ h

/-- The source after adjustment 2: kept while its channel is on, else the lowest channel that is. -/
theorem adjust2_get_source (st : Setup) :
    (adjust2 st).get .trigSource =
      if st.get (.chOn (sourceChan st)) = 1 then st.get .trigSource
      else ((enabledChans st).head?.map chanNumber).getD (st.get .trigSource) := by
  unfold adjust2; split
  · rfl
  · split
    · next h => simp [h]
    · next h => simp [h]

theorem adjust3_get_other (st : Setup) {f : Field} (h : f ≠ .trigLevel) (h' : f ≠ .trigUpper) :
    (adjust3 st).get f = st.get f := by
  unfold adjust3; simp [Setup.get_put_other, h, h']

theorem adjust3_get_level (st : Setup) :
    (adjust3 st).get .trigLevel = clampInt (levelRange st).1 (levelRange st).2 (st.get .trigLevel) := by
  unfold adjust3; simp [Setup.get_put_other]

theorem adjust3_get_upper (st : Setup) :
    (adjust3 st).get .trigUpper =
      if st.get .trigType = 1 ∧
          clampInt (levelRange st).1 (levelRange st).2 (st.get .trigUpper) <
            clampInt (levelRange st).1 (levelRange st).2 (st.get .trigLevel) then
        clampInt (levelRange st).1 (levelRange st).2 (st.get .trigLevel)
      else clampInt (levelRange st).1 (levelRange st).2 (st.get .trigUpper) := by
  unfold adjust3; simp

theorem adjust4_get_other (st : Setup) {f : Field} (h : f ≠ .acqDepth) : (adjust4 st).get f = st.get f :=
  Setup.get_put_other _ _ h

theorem adjust4_get_depth (st : Setup) :
    (adjust4 st).get .acqDepth = (fitDepth (enabledChans st).length (st.get .acqDepth).toNat : Nat) :=
  Setup.get_put_same ..

theorem adjust5_get_other (st : Setup) {f : Field} (h : f ≠ .acqSegments) : (adjust5 st).get f = st.get f :=
  Setup.get_put_other _ _ h

theorem adjust5_get_segments (st : Setup) :
    (adjust5 st).get .acqSegments = min (st.get .acqSegments) (2 * st.get .acqDepth) :=
  Setup.get_put_same ..

/-- The level range is that of the source, its scale and its offset. -/
theorem levelRange_congr {a b : Setup} (hs : a.get .trigSource = b.get .trigSource)
    (hc : ∀ c, a.get (.chScale c) = b.get (.chScale c)) (ho : ∀ c, a.get (.chOffset c) = b.get (.chOffset c)) :
    levelRange a = levelRange b := by
  simp only [levelRange, sourceChan_congr hs, hc, ho]

/-- What the five adjustments make of the candidate of step 3, field by field (R13, R14). -/
structure Adjusted (b st : Setup) : Prop where
  other : ∀ f, (∀ c, f ≠ .chOffset c) → f ∉ [Field.trigSource, .trigLevel, .trigUpper, .acqDepth, .acqSegments] →
    st.get f = b.get f
  offset : ∀ c, st.get (.chOffset c) =
    clampInt (-offsetBound (st.get (.chScale c))) (offsetBound (st.get (.chScale c))) (b.get (.chOffset c))
  source : st.get .trigSource =
    if b.get (.chOn (sourceChan b)) = 1 then b.get .trigSource
    else ((enabledChans b).head?.map chanNumber).getD (b.get .trigSource)
  level : st.get .trigLevel = clampInt (levelRange st).1 (levelRange st).2 (b.get .trigLevel)
  upper : st.get .trigUpper =
    if b.get .trigType = 1 ∧
        clampInt (levelRange st).1 (levelRange st).2 (b.get .trigUpper) <
          clampInt (levelRange st).1 (levelRange st).2 (b.get .trigLevel) then
      clampInt (levelRange st).1 (levelRange st).2 (b.get .trigLevel)
    else clampInt (levelRange st).1 (levelRange st).2 (b.get .trigUpper)
  depth : st.get .acqDepth = (fitDepth (enabledChans st).length (b.get .acqDepth).toNat : Nat)
  segments : st.get .acqSegments = min (b.get .acqSegments) (2 * st.get .acqDepth)

theorem adjusted_adjustAll (b : Setup) : Adjusted b (adjustAll b) := by
  have h3 : ∀ f, f ∉ [Field.acqDepth, .acqSegments] → (adjustAll b).get f = (adjust3 (adjust2 (adjust1 b))).get f := by
    intro f hf
    simp only [List.mem_cons, List.not_mem_nil, or_false, not_or] at hf
    rw [adjustAll, adjust5_get_other _ hf.2, adjust4_get_other _ hf.1]
  have h2 : ∀ f, f ∉ [Field.trigLevel, .trigUpper, .acqDepth, .acqSegments] →
      (adjustAll b).get f = (adjust2 (adjust1 b)).get f := by
    intro f hf
    simp only [List.mem_cons, List.not_mem_nil, or_false, not_or] at hf
    obtain ⟨hl, hu, hd, hs⟩ := hf
    rw [h3 f (by simp [hd, hs]), adjust3_get_other _ hl hu]
  have h1 : ∀ f, f ∉ [Field.trigSource, .trigLevel, .trigUpper, .acqDepth, .acqSegments] →
      (adjustAll b).get f = (adjust1 b).get f := by
    intro f hf
    simp only [List.mem_cons, List.not_mem_nil, or_false, not_or] at hf
    obtain ⟨hr, hl, hu, hd, hs⟩ := hf
    rw [h2 f (by simp [hl, hu, hd, hs]), adjust2_get_other _ hr]
  have other : ∀ f, (∀ c, f ≠ .chOffset c) → f ∉ [Field.trigSource, .trigLevel, .trigUpper, .acqDepth, .acqSegments] →
      (adjustAll b).get f = b.get f := fun f hc hf => (h1 f hf).trans (adjust1_get_other b hc)
  have on1 : enabledChans (adjust1 b) = enabledChans b := enabledChans_congr fun c => adjust1_get_other b (by simp)
  have src1 : sourceChan (adjust1 b) = sourceChan b := sourceChan_congr (adjust1_get_other b (by simp))
  have range : levelRange (adjust2 (adjust1 b)) = levelRange (adjustAll b) :=
    levelRange_congr (h2 _ (by simp)).symm (fun c => (h2 _ (by simp)).symm) (fun c => (h2 _ (by simp)).symm)
  have raw : ∀ f ∈ [Field.trigLevel, .trigUpper, .trigType, .acqDepth, .acqSegments], (adjust2 (adjust1 b)).get f = b.get f := by
    intro f hf
    rw [adjust2_get_other _ (by rintro rfl; simp at hf), adjust1_get_other _ (by rintro c rfl; simp at hf)]
  refine ⟨other, fun c => ?_, ?_, ?_, ?_, ?_, ?_⟩
  · rw [h1 _ (by simp), adjust1_get_offset, other (.chScale c) (by simp) (by simp)]
  · rw [h2 _ (by simp), adjust2_get_source, on1, src1, adjust1_get_other b (by simp), adjust1_get_other b (by simp)]
  · rw [h3 _ (by simp), adjust3_get_level, range, raw _ (by simp)]
  · rw [h3 _ (by simp), adjust3_get_upper, range, raw _ (by simp), raw _ (by simp), raw _ (by simp)]
  · have hon : enabledChans (adjust3 (adjust2 (adjust1 b))) = enabledChans (adjustAll b) :=
      enabledChans_congr fun c => (h3 _ (by simp)).symm
    rw [adjustAll, adjust5_get_other _ (by simp), adjust4_get_depth, hon, adjust3_get_other _ (by simp) (by simp),
      raw _ (by simp), adjustAll]
  · rw [adjustAll, adjust5_get_segments, adjust5_get_other _ (by simp), adjust4_get_other _ (by simp),
      adjust3_get_other _ (by simp) (by simp), raw _ (by simp)]

theorem Adjusted.enabled {b st : Setup} (h : Adjusted b st) : enabledChans st = enabledChans b :=
  enabledChans_congr fun _ => h.other _ (by simp) (by simp)

/-- The source of the candidate names a channel that is on, when the one built names a channel and some channel is on. -/
theorem Adjusted.source_on {b st : Setup} (h : Adjusted b st) (hs : ∃ c, chanOfNumber (b.get .trigSource) = some c)
    (hon : enabledChans b ≠ []) : ∃ c, st.get .trigSource = chanNumber c ∧ st.get (.chOn c) = 1 := by
  obtain ⟨c, hc⟩ := hs
  have hsrc : sourceChan b = c := by simp [sourceChan, hc]
  have hnum : b.get .trigSource = chanNumber c := by
    generalize b.get .trigSource = v at hc
    unfold chanOfNumber at hc
    split at hc <;> cases hc <;> rfl
  have on : ∀ d, st.get (.chOn d) = b.get (.chOn d) := fun d => h.other _ (by simp) (by simp)
  have hh := h.source
  by_cases hb : b.get (.chOn c) = 1
  · refine ⟨c, ?_, (on c).trans hb⟩
    rw [hh, hsrc, if_pos hb, hnum]
  · obtain ⟨d, rest, hd⟩ := List.exists_cons_of_ne_nil hon
    refine ⟨d, ?_, (on d).trans (mem_enabledChans.1 (hd ▸ List.mem_cons_self ..))⟩
    rw [hh, hsrc, if_neg hb, hd]
    rfl

/-! ### The depth that fits (R14) -/

theorem depthSamples_natCast (d : Nat) : depthSamples (d : Int) = 1024 * 4 ^ d := by simp [depthSamples]

theorem fitDepth_le (c d : Nat) : fitDepth c d ≤ d := by
  induction d with
  | zero => exact Nat.le_refl 0
  | succ d ih => unfold fitDepth; split <;> omega

/-- With at most four channels the depth chosen fits. -/
theorem fitDepth_fits {c : Nat} (hc : c ≤ 4) (d : Nat) : 1024 * 4 ^ fitDepth c d * c ≤ Config.maxRecordSamples := by
  induction d with
  | zero => simp [fitDepth, Config.maxRecordSamples]; omega
  | succ d ih =>
      unfold fitDepth
      split
      · next h => rwa [depthSamples_natCast] at h
      · exact ih

/-- No depth between the one chosen and the one asked for fits. -/
theorem fitDepth_max {c d e : Nat} (h1 : fitDepth c d < e) (h2 : e ≤ d) : Config.maxRecordSamples < 1024 * 4 ^ e * c := by
  induction d with
  | zero => simp [fitDepth] at h1; omega
  | succ d ih =>
      unfold fitDepth at h1
      split at h1
      · omega
      · next h =>
          rw [depthSamples_natCast] at h
          by_cases he : e = d + 1
          · subst he; omega
          · exact ih h1 (by omega)

/-! ### Legality (R16) -/

theorem offsetBound_range (i : Int) : 0 ≤ offsetBound i ∧ offsetBound i ≤ 100000000 := by
  unfold offsetBound; split
  · omega
  · split <;> omega

theorem scaleUv_range (i : Int) : 1000 ≤ scaleUv i ∧ scaleUv i ≤ 10000000 := by
  unfold scaleUv
  generalize i.toNat = n
  by_cases h : n < 12
  · have all : ∀ n : Fin 12, 1000 ≤ ([1000, 2000, 5000, 10000, 20000, 50000, 100000, 200000, 500000, 1000000, 2000000,
        5000000] : List Int).getD n.val 10000000 ∧
      ([1000, 2000, 5000, 10000, 20000, 50000, 100000, 200000, 500000, 1000000, 2000000, 5000000] : List Int).getD n.val
        10000000 ≤ 10000000 := by decide
    exact all ⟨n, h⟩
  · rw [List.getD_eq_default _ _ (by simp; omega)]; omega

/-- A setup that passes the catalogue, with a legal slope and a channel on, is legal once it is adjusted. -/
theorem Adjusted.legal {b st : Setup} (h : Adjusted b st) (hb : ∀ f, inCatalogue f (b.get f) = true)
    (hslope : slopeLegal b = true) (hon : enabledChans b ≠ []) : setupLegal st = true := by
  have source : ∃ c, chanOfNumber (b.get .trigSource) = some c := by
    have := hb .trigSource
    simp only [inCatalogue, handling, List.contains_iff_mem, List.mem_cons, List.not_mem_nil, or_false] at this
    rcases this with h1 | h1 | h1 | h1 <;> rw [h1] <;> exact ⟨_, rfl⟩
  obtain ⟨c, hc, hcon⟩ := h.source_on source hon
  have hsrc : sourceChan st = c := by simp [sourceChan, hc]
  have range : (levelRange st).1 = -st.get (.chOffset c) - 5 * scaleUv (st.get (.chScale c)) ∧
      (levelRange st).2 = -st.get (.chOffset c) + 5 * scaleUv (st.get (.chScale c)) := by simp [levelRange, hsrc]
  have hscale := scaleUv_range (st.get (.chScale c))
  have hle : (levelRange st).1 ≤ (levelRange st).2 := by omega
  have offset : ∀ d, -offsetBound (st.get (.chScale d)) ≤ st.get (.chOffset d) ∧
      st.get (.chOffset d) ≤ offsetBound (st.get (.chScale d)) := fun d => by
    rw [h.offset]
    have := offsetBound_range (st.get (.chScale d))
    exact clampInt_bounds (by omega) _
  have level : (levelRange st).1 ≤ st.get .trigLevel ∧ st.get .trigLevel ≤ (levelRange st).2 := by
    rw [h.level]; exact clampInt_bounds hle _
  have upper : (levelRange st).1 ≤ st.get .trigUpper ∧ st.get .trigUpper ≤ (levelRange st).2 := by
    rw [h.upper]; split <;> exact clampInt_bounds hle _
  have wide : -150000000 ≤ (levelRange st).1 ∧ (levelRange st).2 ≤ 150000000 := by
    have := offset c
    have := offsetBound_range (st.get (.chScale c))
    omega
  have bdepth : 0 ≤ b.get .acqDepth ∧ b.get .acqDepth ≤ 7 := by simpa [inCatalogue, handling] using hb .acqDepth
  have bseg : 0 ≤ b.get .acqSegments ∧ b.get .acqSegments ≤ 10 := by simpa [inCatalogue, handling] using hb .acqSegments
  have depth := fitDepth_le (enabledChans st).length (b.get .acqDepth).toNat
  rw [← Int.ofNat_le, ← h.depth] at depth
  have depth0 : 0 ≤ st.get .acqDepth := by rw [h.depth]; omega
  have seg := h.segments
  have catalogue : ∀ f, inCatalogue f (st.get f) = true := by
    intro f
    by_cases ho : ∃ d, f = .chOffset d
    · obtain ⟨d, rfl⟩ := ho
      have := offset d
      have := offsetBound_range (st.get (.chScale d))
      simp only [inCatalogue, handling, Bool.and_eq_true, decide_eq_true_eq]
      omega
    · by_cases hf : f ∈ [Field.trigSource, .trigLevel, .trigUpper, .acqDepth, .acqSegments]
      · simp only [List.mem_cons, List.not_mem_nil, or_false] at hf
        rcases hf with rfl | rfl | rfl | rfl | rfl
        · rw [hc]; cases c <;> rfl
        all_goals
          simp only [inCatalogue, handling, Bool.and_eq_true, decide_eq_true_eq]
          omega
      · rw [h.other f (fun d hd => ho ⟨d, hd⟩) hf]; exact hb f
  have slope : slopeLegal st = true := by
    unfold slopeLegal
    rw [h.other .trigType (by simp) (by simp), h.other .trigSlope (by simp) (by simp)]
    exact hslope
  have order : st.get .trigType = 0 ∨ st.get .trigLevel ≤ st.get .trigUpper := by
    have htype : st.get .trigType = b.get .trigType := h.other _ (by simp) (by simp)
    have hb2 := hb .trigType
    simp only [inCatalogue, handling, List.contains_iff_mem, List.mem_cons, List.not_mem_nil, or_false] at hb2
    rw [h.level, h.upper, htype]
    by_cases ht : b.get .trigType = 1
    · right
      simp only [ht, true_and]
      split <;> omega
    · left; omega
  have memory : 1024 * 4 ^ (st.get .acqDepth).toNat * (enabledChans st).length ≤ Config.maxRecordSamples := by
    rw [h.depth, Int.toNat_natCast]
    exact fitDepth_fits (enabledChans_length_le st) _
  have segments : 1024 * 2 ^ (st.get .acqSegments).toNat ≤ 1024 * 4 ^ (st.get .acqDepth).toNat := by
    have h4 : (4 : Nat) ^ (st.get .acqDepth).toNat = 2 ^ (2 * (st.get .acqDepth).toNat) := by rw [Nat.pow_mul]
    rw [h4]
    exact Nat.mul_le_mul_left _ (Nat.pow_le_pow_right (by omega) (by omega))
  have on : enabledChans st ≠ [] := h.enabled ▸ hon
  simp only [setupLegal, Bool.and_eq_true, List.all_eq_true, Bool.not_eq_true', List.isEmpty_eq_false_iff, beq_iff_eq]
  refine ⟨⟨⟨⟨⟨⟨fun f _ => catalogue f, slope⟩, ?_⟩, on⟩, hsrc ▸ hcon⟩, ?_⟩, ?_⟩
  · simp only [offsetsLegal, List.all_eq_true, Bool.and_eq_true, decide_eq_true_eq]
    exact fun d _ => offset d
  · simp only [levelsLegal, Bool.and_eq_true, Bool.or_eq_true, decide_eq_true_eq]
    exact ⟨⟨⟨⟨level.1, level.2⟩, upper.1⟩, upper.2⟩, order⟩
  · exact Bool.and_eq_true_iff.2 ⟨decide_eq_true memory, decide_eq_true segments⟩

/-- What a legal setup gives of one field. -/
theorem inCatalogue_of_legal {st : Setup} (h : setupLegal st = true) (f : Field) : inCatalogue f (st.get f) = true := by
  simp only [setupLegal, Bool.and_eq_true, List.all_eq_true] at h
  exact h.1.1.1.1.1.1 f (mem_allFields f)

/-- With no offence, the candidate of step 3 passes the catalogue where the live setup does. -/
theorem buildCandidate_inCatalogue {live : Setup} {req : List (Field × Int)} (w : Option Int)
    (ho : firstOffence live req = none) {f : Field} (hl : requested req f = none → inCatalogue f (live.get f) = true) :
    inCatalogue f ((buildCandidate live w req).get f) = true := by
  have hf : offends live req f = false := by
    simpa using List.find?_eq_none.1 ho f (mem_allFields f)
  rw [buildCandidate_get]
  cases hr : requested req f with
  | none => exact hl hr
  | some v =>
      simp only [Option.map_some, Option.getD_some]
      unfold inCatalogue
      cases hh : handling f with
      | enum set =>
          rw [clampValue_enum w hh]
          simp only [offends, hr, hh, Bool.or_eq_false_iff, Bool.not_eq_false'] at hf
          exact hf.1
      | clamp lo hi => simpa using clampValue_bounds w hh v

/-- With no offence, the slope of the candidate of step 3 suits its type. -/
theorem buildCandidate_slopeLegal {live : Setup} {req : List (Field × Int)} (w : Option Int)
    (ho : firstOffence live req = none) : slopeLegal (buildCandidate live w req) = true := by
  have hf : offends live req .trigSlope = false := by
    simpa using List.find?_eq_none.1 ho .trigSlope (mem_allFields _)
  have plain : ∀ f set, handling f = .enum set →
      (buildCandidate live w req).get f = (requested req f).getD (live.get f) := by
    intro f set hh
    rw [buildCandidate_get]
    cases requested req f with
    | none => rfl
    | some v => simp [clampValue_enum w hh]
  simp only [offends, Bool.or_eq_false_iff, beq_self_eq_true, Bool.true_and, Bool.not_eq_false'] at hf
  rw [slopeLegal, plain .trigType _ rfl, plain .trigSlope _ rfl]
  exact hf.2

/-- A candidate is legal, as the live setup is or as every field is requested. -/
theorem judge_legal {live : Setup} {w : Option Int} {req : List (Field × Int)} {st : Setup}
    (h : judge live w req = .candidate st)
    (hl : ∀ f, requested req f = none → inCatalogue f (live.get f) = true) : setupLegal st = true := by
  obtain ⟨ho, rfl, hne⟩ := judge_candidate h
  have hadj := adjusted_adjustAll (buildCandidate live w req)
  exact hadj.legal (fun f => buildCandidate_inCatalogue w ho (hl f)) (buildCandidate_slopeLegal w ho)
    (hadj.enabled ▸ hne)

theorem requested_setupRequest (st : Setup) (f : Field) : requested (setupRequest st) f = some (st.get f) := by
  have key : ∀ fs : List Field, f ∈ fs →
      (fs.map fun g => (g, st.get g)).find? (fun r => r.1 == f) = some (f, st.get f) := by
    intro fs hf
    induction fs with
    | nil => cases hf
    | cons g rest ih =>
        by_cases hg : g = f
        · subst hg; simp
        · rw [List.map_cons, List.find?_cons_of_neg (by simpa using hg)]
          exact ih ((List.mem_cons.1 hf).resolve_left (Ne.symm hg))
  unfold requested setupRequest
  rw [key allFields (mem_allFields f)]
  rfl

end Sys2Proof.Machine
end

section
/-! PROOFS. What every command keeps (R16, R48, R57, R58, R117, R142): commits, the Store Controller, start-up, the event queues,
the router and the requests, and from them the invariants of every step. -/

namespace Sys2Proof.Machine

/-! ### Commits -/

theorem settles_notifySource (src : Source) (s : State) : Settles s (notifySource src s) := by
  unfold notifySource; split
  · exact settles_notify ..
  · exact settles_notify ..
  · exact settles_notifyBoth ..
  · exact settles_notifyBoth ..
  · exact settles_notifyBoth ..

theorem settles_routeStreams (old new : Setup) (s : State) : Settles s (routeStreams old new s) := by
  unfold routeStreams; split
  · exact .refl s
  · exact settles_setFront ..

theorem keeps_reaction {old new : Setup} {gen : Word} {stopped : Bool} {act : State → State}
    (h : act ∈ reactions old new gen stopped) (s : State) : Keeps s (act s) := by
  rcases mem_reactions h with rfl | rfl | rfl | rfl
  · exact (settles_captureChange gen s).toKeeps
  · exact (settles_layoutChange s).toKeeps
  · exact (settles_reevaluate s).toKeeps
  · exact keeps_redrawRequest s

theorem settles_installAndHandOn (src : Source) {new : Setup} {s : State}
    (h : setupLegal s.setup.live = true → setupLegal new = true) : Settles s (installAndHandOn src new s) := by
  have quiet := (settles_routeStreams s.setup.live new (installSetup new s)).trans (settles_notifySource src _)
  have dark : KeepsDark s (installSetup new s) := keepsDark_withSetup s h
  exact ((dark.trans quiet.toKeepsDark).relit quiet.chosen).trans
    (settles_takeAll _ (fun act ha t => keeps_reaction ha t) _)

theorem settles_commit (src : Source) (req : List (Field × Int)) (s : State) : Settles s (commit src req s).1 := by
  rcases commit_cases src req s with ⟨h, -⟩ | ⟨st, hj, -, h⟩
  · rw [h]; exact .refl s
  · rw [h]
    exact settles_installAndHandOn src fun hl => judge_legal hj fun f _ => inCatalogue_of_legal hl f

theorem settles_acqStart (target : RunState) (s : State) : Settles s (acqStart target s) := by
  unfold acqStart; split
  · exact (settles_setRun ..).trans ((settles_commit ..).trans (settles_requestSlot _))
  · exact (settles_withSeq).trans (settles_setRun ..)

/-! ### The Store Controller (chapter 9) -/

theorem settles_setEntry (n : Fin 12) (e : DirEntry) (s : State) : Settles s (setEntry n e s) := settles_withSaved s _
theorem settles_setOp (op : Option Op) (s : State) : Settles s (setOp op s) := settles_withSaved s _

theorem settles_deliver (op : Op) (st : Status) (p : Payload) (s : State) : Settles s (deliver op st p s) := by
  unfold deliver; split
  · exact .refl s
  · split
    · exact .refl s
    · exact settles_finalStatus ..

theorem settles_serviceKnown (op : Op) (s : State) : Settles s (serviceKnown op s).1 := by
  have write := fun o e => (settles_setEntry op.req.slot e s).trans (settles_setOp o _)
  unfold serviceKnown; dsimp only
  split
  · split
    · exact .refl s
    · exact write _ _
  · exact write _ _
  · split
    · exact .refl s
    · exact settles_setOp ..
  · split
    · exact .refl s
    · exact write _ _
  · split
    · exact .refl s
    · split
      · exact .refl s
      · exact settles_setOp ..
    · exact settles_setOp ..

theorem settles_beginService (op : Op) (s : State) : Settles s (beginService op s).1 := by
  unfold beginService; split
  · exact settles_setOp ..
  · exact settles_serviceKnown op s

theorem settles_of_beginService {op : Op} {s t : State} {r : Option (Status × Payload)}
    (h : beginService op s = (t, r)) : Settles s t := by
  have := settles_beginService op s
  rw [h] at this
  exact this

theorem settles_of_serviceKnown {op : Op} {s t : State} {r : Option (Status × Payload)}
    (h : serviceKnown op s = (t, r)) : Settles s t := by
  have := settles_serviceKnown op s
  rw [h] at this
  exact this

theorem settles_savedReport (s : State) : Settles s (savedReport s) := (settles_withPower).trans (settles_tryStandby _)

theorem settles_finalAutosave (s : State) : Settles s (finalAutosave s) := by
  unfold finalAutosave
  dsimp only
  split
  · exact (settles_withSaved s _).trans (settles_savedReport _)
  · split
    · next h => exact ((settles_withSaved s _).trans (settles_withSaved _ _)).trans (settles_of_beginService h)
    · next h =>
        exact (((settles_withSaved s _).trans (settles_withSaved _ _)).trans (settles_of_beginService h)).trans
          (settles_savedReport _)

theorem settles_storeAtRest (s : State) : Settles s (storeAtRest s) := by
  have h : Settles s (if s.saved.ctrl = .busy then s.withSaved { s.saved with ctrl := .idle } else s) := by
    split
    · exact settles_withSaved s _
    · exact .refl s
  unfold storeAtRest
  dsimp only
  generalize (if s.saved.ctrl = .busy then s.withSaved { s.saved with ctrl := .idle } else s) = t at h ⊢
  split
  · split
    · exact h.trans (settles_savedReport t)
    · exact h.trans (settles_finalAutosave t)
  · exact h

theorem settles_serveQueue (n : Nat) (s : State) : Settles s (serveQueue n s) := by
  induction n generalizing s with
  | zero => exact .refl s
  | succ n ih =>
      unfold serveQueue
      split
      · exact .refl s
      · exact settles_storeAtRest s
      · next req rest _ _ =>
          split
          · next h => exact (settles_withSaved s _).trans (settles_of_beginService h)
          · next h =>
              exact ((settles_withSaved s _).trans (settles_of_beginService h)).trans
                ((settles_setOp none _).trans ((settles_deliver ..).trans (ih _)))

theorem settles_serveNext (s : State) : Settles s (serveNext s) := settles_serveQueue _ s

theorem settles_endOp (op : Op) (st : Status) (p : Payload) (s : State) : Settles s (endOp op st p s) :=
  (settles_setOp none s).trans ((settles_deliver ..).trans (settles_serveNext _))

theorem settles_storeRequest (l : Link) (t k : Byte) (kind : StoreKind) (ok : Bool) (slot : Byte) (s : State) :
    Settles s (storeRequest l t k kind ok slot s) := by
  unfold storeRequest; split
  · exact settles_answer ..
  · exact (settles_acceptLong ..).trans ((settles_withSaved _ _).trans (settles_serveNext _))
  · exact settles_answer ..

theorem settles_recallRead (op : Op) (img : Image) (s : State) : Settles s (recallRead op img s) := by
  have h := settles_setEntry op.req.slot (classify img) s
  unfold recallRead; dsimp only; split
  · exact h.trans (settles_endOp ..)
  · exact h.trans ((settles_commit ..).trans (settles_endOp ..))
  · exact h.trans (settles_endOp ..)

theorem settles_lockRead (op : Op) (on : Bool) (img : Image) (s : State) : Settles s (lockRead op on img s) := by
  have h := fun e => settles_setEntry op.req.slot e s
  unfold lockRead; split
  · exact (h _).trans (settles_endOp ..)
  · split
    · exact (h _).trans (settles_endOp ..)
    · exact (h _).trans (settles_setOp ..)
  · exact (h _).trans (settles_endOp ..)

theorem settles_opRead (img : Image) (s : State) : Settles s (opRead img s) := by
  unfold opRead; split
  · exact .refl s
  · next op _ =>
      split
      · split
        · next h => exact (settles_setEntry ..).trans (settles_of_serviceKnown h)
        · next h => exact ((settles_setEntry ..).trans (settles_of_serviceKnown h)).trans (settles_endOp ..)
      · split
        · exact settles_lockRead ..
        · exact settles_recallRead ..
      · exact .refl s

theorem settles_writeEnds (op : Op) (img : Image) (g : Word) (s : State) : Settles s (writeEnds op img g s) := by
  have h := settles_setEntry op.req.slot (classify img) s
  unfold writeEnds; dsimp only; split
  · exact h.trans ((settles_withSaved _ _).trans (settles_endOp ..))
  · exact h.trans (settles_endOp ..)

theorem settles_opPage (s : State) : Settles s (opPage s) := by
  have h := fun (op : Op) e => settles_setEntry op.req.slot e s
  unfold opPage; split
  · exact .refl s
  · split
    · split
      · exact settles_setOp ..
      · exact settles_writeEnds ..
    · exact (h _ _).trans (settles_endOp ..)
    · exact (h _ _).trans (settles_endOp ..)
    · exact .refl s

theorem settles_opFault (s : State) : Settles s (opFault s) := by
  unfold opFault; split
  · exact .refl s
  · split
    · exact (settles_withSaved s _).trans (settles_endOp ..)
    · exact settles_endOp ..
    · exact settles_endOp ..

theorem settles_autosaveOffer (s : State) : Settles s (autosaveOffer s) := by
  unfold autosaveOffer
  dsimp only
  generalize (s.saved.queue.any _ || _) = inHand
  split
  · exact .refl s
  · exact (settles_withSaved s _).trans (settles_serveNext _)

theorem settles_cancelRequest (l : Link) (s : State) : Settles s (cancelRequest l s) := by
  unfold cancelRequest; split
  · exact (settles_withSaved s _).trans ((settles_deliver ..).trans (settles_answer ..))
  · split
    · split
      · exact (settles_withSaved s _).trans (settles_answer ..)
      · exact settles_answer ..
    · exact settles_answer ..

theorem settles_cancelStore (s : State) : Settles s (cancelStore s) := by
  have all : ∀ (q : List StoreReq) (t : State),
      Settles t (q.foldl (fun t req => deliver (opOf req) .cancelled .nothing t) t) := by
    intro q
    induction q with
    | nil => exact .refl
    | cons r rest ih => exact fun t => (settles_deliver ..).trans (ih _)
  have h := (settles_withSaved s { s.saved with queue := [], cancelled := true }).trans (all s.saved.queue _)
  unfold cancelStore
  dsimp only
  split
  · exact h.trans (settles_storeAtRest _)
  · exact h

/-! ### Standby requests (R206) -/

theorem settles_standbyRequest (s : State) : Settles s (standbyRequest s) := by
  unfold standbyRequest; split
  · refine Settles.trans ?_ (settles_takeAll _ ?_ _)
    · have closed : ∀ u : State, Settles u (u.withSetup (closeForStandby u.setup)) := fun u => settles_withSetup
      have h := (settles_notifyBoth .standby (s.withPower { s.power with state := .standbyPending })).trans (closed _)
      exact ((keepsDark_withPower s _).trans h.toKeepsDark).relit h.chosen
    · simp only [List.mem_cons, List.not_mem_nil, or_false, forall_eq_or_imp, forall_eq]
      exact ⟨fun t => (settles_standbyStop t).toKeeps, fun t => (settles_cancelStore t).toKeeps,
        fun t => (settles_haltRaster t).toKeeps⟩
  · exact .refl s

/-! ### Start-up (section 11.4) -/

theorem factorySetup_legal : setupLegal factorySetup = true := by decide

/-- Start-up leaves nothing of a block but what the invariants allow, and every LED dark until its end. -/
theorem keepsDark_beginStartUp (device : BitVec 7) (s : State) : KeepsDark s (beginStartUp device s) :=
  ⟨rfl, fun _ => factorySetup_legal, fun l _ => by cases l <;> rfl, fun l _ => by cases l <;> exact Nat.zero_le 2,
    fun _ => rfl, fun c _ => by cases c <;> rfl, fun l _ => by cases l <;> rfl⟩

theorem settles_startUpPowerOn (straps : BitVec 2) (s : State) : Settles s (startUpPowerOn straps s) :=
  ⟨⟨keepsDark_beginStartUp _ s, fun _ h => nomatch h⟩, fun _ => rfl⟩

theorem settles_wake (s : State) : Settles s (wake s) :=
  ⟨⟨(keepsDark_beginStartUp _ s).trans (keepsDark_withRouter _ _), fun _ h => nomatch h⟩, fun _ => rfl⟩

theorem startUpSetup_legal (s : State) : setupLegal (startUpSetup s).1 = true := by
  unfold startUpSetup; split
  · exact factorySetup_legal
  · next st _ =>
      split
      · next c h => exact judge_legal h fun f hf => by rw [requested_setupRequest] at hf; cases hf
      · exact factorySetup_legal

theorem keepsDark_installStartUp (s : State) : KeepsDark s (installStartUp s) := by
  have stored : ∀ (u : State) (slots : List Slot) (n : Nat),
      Settles u (u.withStore { u.store with slots := slots, recordBytes := n }) := fun u _ _ => settles_withStore_same
  have installed : KeepsDark s (s.withSetup { s.setup with
      live := (startUpSetup s).1
      gen := 1#32
      changed := Vector.replicate 44 1#32
      outputs := some (presentOutputs (startUpSetup s).1) }) := keepsDark_withSetup s fun _ => startUpSetup_legal s
  unfold installStartUp
  exact installed.trans ((settles_withSaved _ _).trans (stored _ _ _)).toKeepsDark

/-- The end of start-up evaluates every LED. -/
theorem settles_finishStartUp {s t : State} (h : KeepsDark s t) (hc : t.raster.chosen = s.raster.chosen) :
    Settles s (finishStartUp t) := by
  have blocks : ∀ u : State, Settles u ((((u.withPanel (beginScanning u.panel)).withDisp (startComposing u.disp)).withLinks
      ⟨openLink u.links.console, openLink u.links.remote⟩).withSetup { u.setup with quiet := some Config.quietTime }) :=
    fun u => ((settles_withPanel u _).trans (settles_withDisp_same (x := startComposing u.disp))).trans
      ((settles_withLinks _ _).trans settles_withSetup)
  have quiet := blocks (t.withPower { t.power with phase := .up })
  unfold finishStartUp
  exact (((h.trans (keepsDark_withPower t _)).trans quiet.toKeepsDark).relit fun hs => quiet.chosen (hc.trans hs)).trans
    ((settles_setRun ..).trans (settles_requestSlot _))

theorem settles_endScan (ctrl : StoreState) (s : State) : Settles s (endScan ctrl s) :=
  settles_finishStartUp ((settles_withSaved s _).toKeepsDark.trans (keepsDark_installStartUp _)) rfl

theorem settles_scanOn (n : Fin 12) (s : State) : Settles s (scanOn n s) := by
  unfold scanOn; split
  · exact settles_withSaved s _
  · exact settles_endScan ..

theorem settles_scanRead (n : Fin 12) (img : Image) (s : State) : Settles s (scanRead n img s) := by
  unfold scanRead; dsimp only; split
  · exact (settles_setEntry ..).trans ((settles_withSaved _ _).trans (settles_scanOn ..))
  · exact (settles_setEntry ..).trans (settles_scanOn ..)

theorem settles_scanFault (n : Fin 12) (s : State) : Settles s (scanFault n s) := by
  unfold scanFault; split
  · exact settles_endScan ..
  · exact settles_scanOn ..

/-! ### Event queues (section 3.1) -/

theorem newer_asymm {a b : Word} (h : newer a b = true) : newer b a = false := by
  simp only [newer, Bool.and_eq_true, decide_eq_true_eq, Bool.and_eq_false_iff, decide_eq_false_iff_not] at h ⊢
  bv_omega

theorem inTimeOrder_cons {x : PanelEvent} {es : List PanelEvent} :
    inTimeOrder (x :: es) = true ↔ (∀ y, es.head? = some y → newer x.time y.time = false) ∧ inTimeOrder es = true := by
  cases es with
  | nil => simp [inTimeOrder]
  | cons y rest => simp [inTimeOrder]

/-- A record placed by its time keeps the order. -/
theorem inTimeOrder_insertByTime (e : PanelEvent) {es : List PanelEvent} (h : inTimeOrder es = true) :
    inTimeOrder (insertByTime e es) = true := by
  induction es with
  | nil => rfl
  | cons x rest ih =>
      obtain ⟨hx, hr⟩ := inTimeOrder_cons.1 h
      unfold insertByTime
      split
      · next hn => exact inTimeOrder_cons.2 ⟨fun y hy => by cases hy; exact newer_asymm hn, h⟩
      · next hn =>
          refine inTimeOrder_cons.2 ⟨fun y hy => ?_, ih hr⟩
          cases rest with
          | nil => cases hy; simpa using hn
          | cons =>
              unfold insertByTime at hy
              split at hy <;> cases hy
              · simpa using hn
              · exact hx _ rfl

theorem inTimeOrder_tail {es : List PanelEvent} (h : inTimeOrder es = true) : inTimeOrder es.tail = true := by
  cases es with
  | nil => rfl
  | cons x rest => exact (inTimeOrder_cons.1 h).2

/-- The newest entry replaced by one of its time, and the newest entry removed. -/
theorem inTimeOrder_dropLast {es : List PanelEvent} (h : inTimeOrder es = true) {n m : PanelEvent}
    (hl : es.getLast? = some n) (ht : m.time = n.time) :
    inTimeOrder es.dropLast = true ∧ inTimeOrder (es.dropLast ++ [m]) = true := by
  induction es with
  | nil => cases hl
  | cons x rest ih =>
      obtain ⟨hx, hr⟩ := inTimeOrder_cons.1 h
      cases rest with
      | nil => exact ⟨rfl, rfl⟩
      | cons y zs =>
          obtain ⟨h1, h2⟩ := ih hr (by simpa using hl)
          have hy := hx y rfl
          rw [List.dropLast_cons_cons] at *
          cases zs with
          | nil =>
              have : n = y := by simpa [eq_comm] using hl
              subst this
              exact ⟨rfl, inTimeOrder_cons.2 ⟨fun w hw => by cases hw; rwa [ht], rfl⟩⟩
          | cons z zs =>
              refine ⟨inTimeOrder_cons.2 ⟨fun w hw => ?_, h1⟩, inTimeOrder_cons.2 ⟨fun w hw => ?_, h2⟩⟩
              · cases hw; exact hy
              · cases hw; exact hy

theorem queueLegal_iff (q : EventQueue) : queueLegal q = true ↔
    q.entries.length ≤ 32 ∧ (∀ e ∈ q.entries, detentsLegal e = true) ∧ inTimeOrder q.entries = true := by
  simp [queueLegal, and_assoc]

theorem settles_setQueue {l : Link} {q : EventQueue} {s : State}
    (h : queueLegal (s.queues.get l) = true → queueLegal q = true) : Settles s (setQueue l q s) := by
  refine settles_withQueues fun m hm => ?_
  by_cases hml : m = l
  · subst hml; rw [PerLink.get_set_same]; exact h hm
  · rw [PerLink.get_set_other _ _ hml]; exact hm

/-- A change of a queue's timer, counts and settings alone. -/
theorem settles_setQueue_same {l : Link} {q : EventQueue} {s : State} (h : q.entries = (s.queues.get l).entries := by rfl) :
    Settles s (setQueue l q s) := settles_setQueue fun hq => by simpa [queueLegal, h] using hq

theorem Settles.of_touches {s t : State} (h : TouchesQueues s t)
    (hq : ∀ l, queueLegal (s.queues.get l) = true → queueLegal (t.queues.get l) = true) : Settles s t := by
  obtain ⟨q, k, rfl⟩ := h
  exact (settles_withQueues hq).trans (settles_withLinks _ k)

theorem thresholdCheck_entries (l : Link) (s : State) :
    ((thresholdCheck l s).queues.get l).entries = (s.queues.get l).entries := by
  unfold thresholdCheck; dsimp only; split
  · cases l <;> rfl
  · rfl

@[simp] theorem setQueue_get (l : Link) (q : EventQueue) (s : State) : (setQueue l q s).queues.get l = q :=
  PerLink.get_set_same ..

theorem setQueue_get_other {l m : Link} (q : EventQueue) (s : State) (h : m ≠ l) :
    (setQueue l q s).queues.get m = s.queues.get m := PerLink.get_set_other _ _ h

theorem thresholdCheck_other {l m : Link} (s : State) (h : m ≠ l) :
    (thresholdCheck l s).queues.get m = s.queues.get m := by
  unfold thresholdCheck; dsimp only; split
  · exact setQueue_get_other _ s h
  · rfl

theorem enterEntry_other {l m : Link} (e : PanelEvent) (s : State) (h : m ≠ l) :
    (enterEntry l e s).queues.get m = s.queues.get m := by
  unfold enterEntry; dsimp only; split
  · rw [thresholdCheck_other _ h, setQueue_get_other _ _ h]
  · split
    · exact setQueue_get_other _ s h
    · rw [thresholdCheck_other _ h, setQueue_get_other _ _ h]

/-- A record handed to one link's queue leaves the other's. -/
theorem handOver_other {l m : Link} (e : PanelEvent) (s : State) (h : m ≠ l) :
    (handOver l e s).queues.get m = s.queues.get m := by
  unfold handOver; split
  · unfold merge; dsimp only; split
    · exact setQueue_get_other _ s h
    · split
      · rw [enterEntry_other _ _ h, setQueue_get_other _ _ h]
      · split
        · rw [enterEntry_other _ _ h, setQueue_get_other _ _ h]
        · exact setQueue_get_other _ s h
  · exact enterEntry_other _ _ h

theorem queueLegal_congr {p q : EventQueue} (h : p.entries = q.entries) : queueLegal p = queueLegal q := by
  simp [queueLegal, h]

theorem enterEntry_legal {l : Link} {e : PanelEvent} {s : State} (hq : queueLegal (s.queues.get l) = true)
    (he : detentsLegal e = true) : queueLegal ((enterEntry l e s).queues.get l) = true := by
  obtain ⟨hl, hd, ho⟩ := (queueLegal_iff _).1 hq
  have hd' : ∀ x ∈ insertByTime e (s.queues.get l).entries, detentsLegal x = true := fun x hx =>
    ((mem_insertByTime ..).1 hx).elim (fun h => h ▸ he) (hd x)
  have ho' := inTimeOrder_insertByTime e ho
  have hlen := insertByTime_length e (s.queues.get l).entries
  unfold enterEntry; dsimp only; split
  · next hlt =>
      rw [queueLegal_congr (thresholdCheck_entries ..), setQueue_get]
      exact (queueLegal_iff _).2 ⟨hlen ▸ hlt, hd', ho'⟩
  · split
    · rwa [setQueue_get]
    · rw [queueLegal_congr (thresholdCheck_entries ..), setQueue_get]
      refine (queueLegal_iff _).2 ⟨?_, fun x hx => hd' x (List.mem_of_mem_tail hx), inTimeOrder_tail ho'⟩
      rw [List.length_tail, hlen]; exact hl

theorem detentsLegal_of_turn {e : PanelEvent} (hk : e.kind = .turn) :
    detentsLegal e = true ↔ e.detents ≠ 0 ∧ -127 ≤ e.detents ∧ e.detents ≤ 127 := by
  simp [detentsLegal, hk, and_assoc]

/-- A TURN with its detents replaced. -/
theorem detentsLegal_detents {e : PanelEvent} (hk : e.kind = .turn) {d : Int} (h : d ≠ 0 ∧ -127 ≤ d ∧ d ≤ 127) :
    detentsLegal { e with detents := d } = true :=
  (detentsLegal_of_turn (e := { e with detents := d }) hk).2 h

/-- The newest entry removed, or replaced by a legal one of its time. -/
theorem queueLegal_newest {q : EventQueue} {n : PanelEvent} (hq : queueLegal q = true) (hl : q.entries.getLast? = some n) :
    queueLegal (removeNewest q) = true ∧
      ∀ d : Int, detentsLegal { n with detents := d } = true → queueLegal (replaceNewest { n with detents := d } q) = true := by
  obtain ⟨hlen, hd, ho⟩ := (queueLegal_iff _).1 hq
  have drop : ∀ x ∈ q.entries.dropLast, detentsLegal x = true := fun x hx => hd x (List.mem_of_mem_dropLast hx)
  have short : q.entries.dropLast.length = q.entries.length - 1 := List.length_dropLast
  have one : 1 ≤ q.entries.length := by
    cases h : q.entries with
    | nil => simp [h] at hl
    | cons x xs => simp
  refine ⟨(queueLegal_iff _).2 ⟨?_, drop, (inTimeOrder_dropLast ho hl (m := n) rfl).1⟩, fun d hn =>
    (queueLegal_iff _).2 ⟨?_, fun x hx => ?_, (inTimeOrder_dropLast ho hl (m := { n with detents := d }) rfl).2⟩⟩
  · simp only [removeNewest, short]; omega
  · simp only [replaceNewest, List.length_append, short, List.length_singleton]; omega
  · rcases List.mem_append.1 hx with hx | hx
    · exact drop x hx
    · rw [List.mem_singleton.1 hx]; exact hn

theorem merge_legal {l : Link} {n e : PanelEvent} {s : State} (h : mergesWith e (s.queues.get l) = some n)
    (hq : queueLegal (s.queues.get l) = true) (he : detentsLegal e = true) :
    queueLegal ((merge l n e s).queues.get l) = true := by
  obtain ⟨hl, hek, hnk, -⟩ := mergesWith_some h
  obtain ⟨he0, he1, he2⟩ := (detentsLegal_of_turn hek).1 he
  obtain ⟨hn0, hn1, hn2⟩ := (detentsLegal_of_turn hnk).1
    (((queueLegal_iff _).1 hq).2.1 n (List.mem_of_getLast? hl))
  obtain ⟨removed, replaced⟩ := queueLegal_newest hq hl
  have held : ∀ d : Int, d ≠ 0 → -127 ≤ d → d ≤ 127 →
      queueLegal ((setQueue l (replaceNewest { n with detents := d } (s.queues.get l)) s).queues.get l) = true := by
    intro d h0 h1 h2
    rw [setQueue_get]
    exact replaced d (detentsLegal_detents hnk ⟨h0, h1, h2⟩)
  unfold merge; dsimp only; split
  · rwa [setQueue_get]
  · split
    · exact enterEntry_legal (held 127 (by omega) (by omega) (by omega))
        (detentsLegal_detents hek (by omega))
    · split
      · exact enterEntry_legal (held (-127) (by omega) (by omega) (by omega))
          (detentsLegal_detents hek (by omega))
      · exact held _ (by omega) (by omega) (by omega)

/-- A legal record handed to a legal queue leaves it legal (R48 to R51). -/
theorem handOver_legal {l : Link} {e : PanelEvent} {s : State} (hq : queueLegal (s.queues.get l) = true)
    (he : detentsLegal e = true) : queueLegal ((handOver l e s).queues.get l) = true := by
  unfold handOver; split
  · exact merge_legal ‹_› hq he
  · exact enterEntry_legal hq he

theorem settles_handOver (l : Link) {e : PanelEvent} (he : detentsLegal e = true) (s : State) :
    Settles s (handOver l e s) := by
  refine .of_touches (handOver_touches l e s) fun m hm => ?_
  by_cases h : m = l
  · subst h; exact handOver_legal hm he
  · rwa [handOver_other e s h]

theorem queueLegal_drop {q : EventQueue} (m : Nat) (hq : queueLegal q = true) : queueLegal (takeEntries m q) = true := by
  obtain ⟨hl, hd, ho⟩ := (queueLegal_iff _).1 hq
  have order : ∀ (m : Nat) (es : List PanelEvent), inTimeOrder es = true → inTimeOrder (es.drop m) = true := by
    intro m
    induction m with
    | zero => exact fun es h => h
    | succ m ih => exact fun es h => by rw [← List.drop_tail]; exact ih _ (inTimeOrder_tail h)
  refine (queueLegal_iff _).2 ⟨?_, fun x hx => hd x (List.mem_of_mem_drop hx), order m _ ho⟩
  have : (q.entries.drop m).length ≤ q.entries.length := by rw [List.length_drop]; omega
  exact this.trans hl

end Sys2Proof.Machine
end

section
/-! PROOFS. What every command keeps, from the router and the requests to `exec` and `step`, and the invariants of every step. -/

namespace Sys2Proof.Machine

/-! ### The router and the scanner (chapter 2) -/

theorem settles_setLockout (x : Lockout) (s : State) : Settles s (setLockout x s) := by
  unfold setLockout; split
  · exact .refl s
  · exact ((keepsDark_withRouter s _).relit).trans (settles_notifyBoth ..)

theorem settles_countLockedOut (s : State) : Settles s (countLockedOut s) := settles_withRouter

theorem settles_directEdit (e : RouteEntry) (ev : PanelEvent) (s : State) : Settles s (directEdit e ev s) := by
  unfold directEdit; split
  · split
    · exact settles_commit ..
    · exact .refl s
  · exact .refl s

theorem settles_routedRun {act : State → State} (h : ∀ s, Settles s (act s)) (s : State) : Settles s (routedRun act s) := by
  unfold routedRun; split
  · exact .refl s
  · exact h s

theorem settles_releaseLockout (s : State) : Settles s (releaseLockout s) := by
  unfold releaseLockout; split
  · exact .refl s
  · exact settles_setLockout ..
  · exact settles_countLockedOut s

theorem settles_runAction (a : Action) {ev : PanelEvent} (he : detentsLegal ev = true) (s : State) :
    Settles s (runAction a ev s) := by
  cases a with
  | toConsole => exact settles_handOver .console he s
  | toRemote => exact settles_handOver .remote he s
  | toBoth => exact (settles_handOver .console he s).trans (settles_handOver .remote he _)
  | edit => exact .refl s
  | runStop =>
      refine settles_routedRun (fun t => ?_) s
      split
      · exact settles_acqStart ..
      · exact settles_acqStop t
  | single => exact settles_routedRun (settles_acqStart _) s
  | force => exact settles_routedRun settles_acqForce s
  | localRelease => exact settles_releaseLockout s
  | standby => exact settles_standbyRequest s
  | discard => exact .refl s

theorem settles_takeEvent {ev : PanelEvent} (he : detentsLegal ev = true) (s : State) : Settles s (takeEvent ev s) := by
  have entry : ∀ n, detentsLegal { ev with entry := n } = true := fun _ => he
  unfold takeEvent; split
  · unfold routeEvent; split
    · dsimp only; split
      · exact settles_directEdit ..
      · exact settles_runAction _ (entry _) s
    · split
      · exact settles_runAction _ (entry _) s
      · exact settles_countLockedOut s
  · exact .refl s

theorem settles_setKey (key : Fin 64) (k : Key) (s : State) : Settles s (setKey key k s) := settles_withPanel s _

theorem settles_keyChange (key : Fin 64) (pressed : Bool) (s : State) : Settles s (keyChange key pressed s) := by
  unfold keyChange; dsimp only; split
  · exact .refl s
  · split
    · exact settles_setKey ..
    · exact settles_setKey ..

/-- A PRESS and a RELEASE have no detents. -/
theorem detentsLegal_keyEvent (key : Fin 64) (k : Key) : detentsLegal (keyEvent key k) = true := by
  unfold detentsLegal keyEvent
  cases k.line <;> rfl

theorem settles_keyAccepted (key : Fin 64) (k : Key) (s : State) : Settles s (keyAccepted key k s) := by
  unfold keyAccepted; split
  · split
    · exact settles_wake s
    · exact .refl s
  · exact settles_takeEvent (detentsLegal_keyEvent ..) s

theorem settles_keyExpiry (key : Fin 64) (s : State) : Settles s (keyExpiry key s) := by
  unfold keyExpiry; dsimp only; split
  · exact .refl s
  · split
    · exact settles_setKey ..
    · exact (settles_setKey ..).trans (settles_keyAccepted ..)

/-- A completed cycle is one detent either way. -/
theorem encJudge_detents (e : Encoder) (a b : Bool) {d : Int} (h : (encJudge e a b).2 = some d) : d = 1 ∨ d = -1 := by
  have step : ∀ (e : Encoder) (p : Nat) (n : Int), (encStep e p n).2 = some d → d = 1 ∨ d = -1 := by
    intro e p n h
    unfold encStep at h
    dsimp only at h
    split at h
    · dsimp only at h
      split at h
      · exact .inl (Option.some.inj h).symm
      · split at h
        · exact .inr (Option.some.inj h).symm
        · cases h
    · cases h
  unfold encJudge at h
  dsimp only at h
  split at h
  · cases h
  · cases h
  · split at h
    · exact step _ _ _ h
    · cases h
  · split at h
    · exact step _ _ _ h
    · cases h

theorem settles_encChange (enc : Fin 12) (a b : Bool) (s : State) : Settles s (encChange enc a b s) := by
  unfold encChange; dsimp only; split
  · split
    · next d hd =>
        refine (settles_withPanel s _).trans (settles_takeEvent ?_ _)
        rcases encJudge_detents _ a b hd with rfl | rfl <;> rfl
    · exact settles_withPanel s _
  · exact settles_withPanel s _

/-! ### Timers and lines -/

/-- A command that goes on keeps what `Settles` names. -/
def SettlesNext (s : State) (r : Result) : Prop := ∀ t, r = .next t → Settles s t

theorem settlesNext_next {s t : State} (h : Settles s t) : SettlesNext s (.next t) := fun _ ht => by cases ht; exact h

theorem settlesNext_fault (s : State) (f : Fault) : SettlesNext s (.fault f) := fun _ ht => nomatch ht

theorem SettlesNext.after {s t : State} {r : Result} (h : Settles s t) (k : SettlesNext t r) : SettlesNext s r :=
  fun u hu => h.trans (k u hu)

theorem settles_eepromReadComplete (img : Image) (s : State) : SettlesNext s (execEepromReadComplete img s) := by
  unfold execEepromReadComplete; split
  · exact settlesNext_next (settles_scanRead ..)
  · exact settlesNext_next (settles_opRead ..)

theorem settles_eepromAccessFault (s : State) : SettlesNext s (execEepromAccessFault s) := by
  unfold execEepromAccessFault; split
  · exact settlesNext_next (settles_scanFault ..)
  · exact settlesNext_next (settles_opFault s)

theorem settles_accessLimit (s : State) : SettlesNext s (accessLimit s) := by
  rcases accessLimit_cases s with ⟨x, h⟩ | ⟨x, limit, polling, h⟩
  · rw [h]; exact .after (settles_withRaces s x) (settles_eepromAccessFault _)
  · rw [h]; exact settlesNext_next ((settles_withRaces s x).trans (settles_withSaved _ _))

theorem settles_queueTimerExpiry (l : Link) (s : State) : SettlesNext s (execQueueTimerExpiry l s) := by
  unfold execQueueTimerExpiry; dsimp only; split
  · exact settlesNext_next (.refl s)
  · exact settlesNext_next ((settles_setQueue_same).trans (settles_notify ..))

theorem settles_recordTimerExpiry (l : Link) (s : State) : SettlesNext s (execRecordTimerExpiry l s) := by
  unfold execRecordTimerExpiry; dsimp only; split
  · exact settlesNext_next (.refl s)
  · exact settlesNext_next ((settles_withStore_same).trans (settles_notify ..))

theorem settles_quietTimerExpiry (s : State) : SettlesNext s (execQuietTimerExpiry s) := by
  unfold execQuietTimerExpiry; split
  · exact settlesNext_next (.refl s)
  · exact settlesNext_next ((settles_withSetup).trans (settles_autosaveOffer _))

theorem settles_holdoffExpiry (s : State) : SettlesNext s (execHoldoffExpiry s) := by
  unfold execHoldoffExpiry; split
  · exact settlesNext_next (.refl s)
  · exact settlesNext_next settles_withSeq

theorem settles_autoTimerExpiry (s : State) : SettlesNext s (execAutoTimerExpiry s) := by
  unfold execAutoTimerExpiry; dsimp only; split
  · exact settlesNext_next (.refl s)
  · split
    · exact settlesNext_next ((settles_withSeq).trans (settles_forcedTrigger _))
    · exact settlesNext_next settles_withSeq

theorem settles_frameEvent (s : State) : SettlesNext s (execFrameEvent s) := by
  have decayed : ∀ (c : Composer), c.overlay = s.disp.overlay → Settles s ((s.withDisp c).withRaster
      { s.raster with planes := decayPlanes (s.setup.live.get .dispPersist) s.raster.planes }) := fun c hc =>
    (settles_withDisp_same hc).trans ((keeps_withRaster fun c hw => memWf_decay _ _ c hw).settles rfl)
  unfold execFrameEvent; dsimp only; split
  · exact settlesNext_next (.refl s)
  · split
    · exact settlesNext_next ((decayed _ (finishSending_overlay _)).trans settles_withDisp_same)
    · exact settlesNext_next (decayed _ (finishSending_overlay _))

theorem settles_sample (core : Fin 4) (code : Byte) (s : State) : SettlesNext s (execSample core code s) := by
  unfold execSample; split
  · exact settlesNext_next (settles_takeSample ..)
  · exact settlesNext_fault _ _

theorem settles_spanPass (s : State) : SettlesNext s (execSpanPass s) := by
  unfold execSpanPass; split
  · split
    · split
      · exact settlesNext_next (settles_spanPassAt ..)
      · exact settlesNext_fault _ _
    · exact settlesNext_next (.refl s)
  · exact settlesNext_next (.refl s)

theorem settles_panelPresentChange (high : Bool) (s : State) : SettlesNext s (execPanelPresentChange high s) := by
  unfold execPanelPresentChange; dsimp only; split
  · exact settlesNext_next (.refl s)
  · split
    · exact settlesNext_next ((settles_withDisp_same).trans (settles_setDispLink ..))
    · exact settlesNext_next settles_withDisp_same

theorem settles_lockChange (high : Bool) (s : State) : SettlesNext s (execLockChange high s) := by
  unfold execLockChange; dsimp only; split
  · exact settlesNext_next (.refl s)
  · split
    · exact settlesNext_next ((settles_withDisp_same).trans (settles_setDispLink ..))
    · exact settlesNext_next settles_withDisp_same

/-! ### Requests (chapter 10) -/

theorem settles_takeRequest (l : Link) (tag kind : Byte) (ok : Bool) {owner : State → Result}
    (h : ∀ t, SettlesNext t (owner t)) (s : State) : SettlesNext s (takeRequest l tag kind ok owner s) := by
  unfold takeRequest; split
  · exact settlesNext_next (.refl s)
  · split
    · exact settlesNext_next (settles_refuseBusy ..)
    · refine .after (settles_beginRequest l tag kind s) ?_
      unfold judgeRequest; split
      · exact settlesNext_next (settles_answer ..)
      · split
        · exact settlesNext_next (settles_answer ..)
        · split
          · exact settlesNext_next (settles_answer ..)
          · exact h _

theorem settles_request (l : Link) (tag kind : Byte) {owner : State → State} (h : ∀ t, Settles t (owner t)) (s : State) :
    SettlesNext s (request l tag kind owner s) :=
  settles_takeRequest l tag kind true (fun t => settlesNext_next (h t)) s

theorem settles_linkCommit (l : Link) (req : List (Field × Int)) (s : State) : Settles s (linkCommit l req s) := by
  unfold linkCommit; split
  · exact settles_answer ..
  · exact (settles_commit ..).trans (settles_answer ..)

theorem settles_setBatch (l : Link) (b : Option Batch) (s : State) : Settles s (setBatch l b s) := settles_withSetup

theorem settles_ownSetupGet (l : Link) (ids : List Byte) (s : State) : Settles s (ownSetupGet l ids s) := by
  unfold ownSetupGet; split <;> exact settles_answer ..

theorem settles_ownSetupSet (l : Link) (f : Byte) (v : Word) (s : State) : Settles s (ownSetupSet l f v s) := by
  unfold ownSetupSet; split
  · exact settles_linkCommit ..
  · exact settles_answer ..

theorem settles_ownBatchStage (l : Link) (f : Byte) (v : Word) (s : State) : Settles s (ownBatchStage l f v s) := by
  unfold ownBatchStage; split
  · exact settles_answer ..
  · split
    · exact settles_answer ..
    · split
      · exact (settles_setBatch ..).trans (settles_answer ..)
      · exact settles_answer ..

theorem settles_ownBatchCommit (l : Link) (form : Option Byte) (s : State) : Settles s (ownBatchCommit l form s) := by
  unfold ownBatchCommit; split
  · exact settles_answer ..
  · exact settles_answer ..
  · split
    · exact settles_answer ..
    · unfold commitBatch; dsimp only; split
      · exact (settles_setBatch ..).trans (settles_answer ..)
      · exact (settles_setBatch ..).trans ((settles_commit ..).trans (settles_answer ..))

theorem settles_ownPanelTake (l : Link) (m : Byte) (s : State) : Settles s (ownPanelTake l m s) := by
  unfold ownPanelTake; split
  · exact (settles_setQueue (queueLegal_drop _)).trans (settles_answer ..)
  · exact settles_answer ..

theorem settles_ownPanelQueueConfig (l : Link) (m t k : Byte) (s : State) :
    Settles s (ownPanelQueueConfig l m t k s) := by
  unfold ownPanelQueueConfig; split
  · split
    · exact (settles_setQueue fun _ => rfl).trans (settles_answer ..)
    · exact settles_answer ..
  · exact settles_answer ..

theorem settles_ownPanelRouteGet (l : Link) (i : Byte) (s : State) : Settles s (ownPanelRouteGet l i s) := by
  unfold ownPanelRouteGet; split <;> exact settles_answer ..

theorem settles_ownPanelRouteSet (l : Link) (i : Byte) (e : Option RouteEntry) (s : State) :
    Settles s (ownPanelRouteSet l i e s) := by
  unfold ownPanelRouteSet; split
  · split
    · exact (settles_withRouter).trans (settles_answer ..)
    · exact settles_answer ..
  · exact settles_answer ..

theorem settles_ownPanelDefaultSet (l : Link) (a : Byte) (s : State) : Settles s (ownPanelDefaultSet l a s) := by
  unfold ownPanelDefaultSet; split
  · exact (settles_withRouter).trans (settles_answer ..)
  · exact settles_answer ..

/-- A change of the LED table is followed by an evaluation. -/
theorem settles_evalLeds_setLed (led : Fin 32) (e : LedEntry) (s : State) : Settles s (evalLeds (setLed led e s)) :=
  (keepsDark_withRouter s _).relit

theorem settles_ownPanelLedSet (l : Link) (n v : Byte) (s : State) : Settles s (ownPanelLedSet l n v s) := by
  unfold ownPanelLedSet; split
  · split
    · exact (settles_evalLeds_setLed ..).trans (settles_answer ..)
    · exact settles_answer ..
  · exact settles_answer ..

theorem settles_ownPanelLedGet (l : Link) (n : Byte) (s : State) : Settles s (ownPanelLedGet l n s) := by
  unfold ownPanelLedGet; split <;> exact settles_answer ..

theorem settles_ownPanelLedConfig (l : Link) (n src op : Byte) (v : Word) (s : State) :
    Settles s (ownPanelLedConfig l n src op v s) := by
  unfold ownPanelLedConfig; split
  · split
    · exact (settles_evalLeds_setLed ..).trans (settles_answer ..)
    · exact settles_answer ..
  · exact settles_answer ..

theorem settles_ownLockoutSet (l : Link) (x : Byte) (s : State) : Settles s (ownLockoutSet l x s) := by
  unfold ownLockoutSet; split
  · exact settles_answer ..
  · exact (settles_setLockout ..).trans (settles_answer ..)
  · exact settles_answer ..

theorem settles_runRequest (l : Link) (st : Status) {act : State → State} (h : ∀ s, Settles s (act s)) (s : State) :
    Settles s (runRequest l st act s) := by
  unfold runRequest; split
  · exact settles_answer ..
  · split
    · exact settles_answer ..
    · exact (h s).trans (settles_answer ..)

theorem settles_ownRecList (l : Link) (s : State) : Settles s (ownRecList l s) :=
  (settles_withStore_same).trans (settles_answer ..)

theorem settles_ownRecHeader (l : Link) (n : Word) (f : BitVec 16) (m : Byte) (s : State) :
    Settles s (ownRecHeader l n f m s) := by
  unfold ownRecHeader; split
  · exact settles_answer ..
  · exact settles_answer ..
  · split <;> exact settles_answer ..

theorem settles_ownRecRead (l : Link) (n : Word) (c : Byte) (g : BitVec 16) (f : Word) (k : BitVec 16) (fmt : Byte)
    (s : State) : SettlesNext s (ownRecRead l n c g f k fmt s) := by
  unfold ownRecRead; split
  · exact settlesNext_next (settles_answer ..)
  · exact settlesNext_next (settles_answer ..)
  · split
    · exact settlesNext_next (settles_answer ..)
    · split
      · exact settlesNext_next (settles_answer ..)
      · exact settlesNext_fault _ _

/-- One link's pins list replaced, the new one within two pins where the old one is. -/
theorem pinsList_set_le {p : PerLink (List Word)} {l : Link} {x : List Word} (h : (p.get l).length ≤ 2 → x.length ≤ 2)
    (m : Link) (hm : (p.get m).length ≤ 2) : ((p.set l x).get m).length ≤ 2 := by
  by_cases hml : m = l
  · subst hml; rw [PerLink.get_set_same]; exact h hm
  · rwa [PerLink.get_set_other _ _ hml]

theorem settles_ownRecPin (l : Link) (n : Word) (s : State) : Settles s (ownRecPin l n s) := by
  unfold ownRecPin; split
  · exact settles_answer ..
  · exact settles_answer ..
  · dsimp only; split
    · exact settles_answer ..
    · split
      · exact settles_answer ..
      · refine (settles_withStore (by exact id) (pinsList_set_le fun _ => ?_)).trans (settles_answer ..)
        rw [List.length_append, List.length_singleton]; omega

theorem settles_ownRecUnpin (l : Link) (n : Word) (s : State) : Settles s (ownRecUnpin l n s) := by
  unfold ownRecUnpin; split
  · exact settles_answer ..
  · exact settles_answer ..
  · split
    · refine (settles_withStore (by exact id) (pinsList_set_le fun h => ?_)).trans ((settles_reevaluate _).trans (settles_answer ..))
      exact (List.length_filter_le ..).trans h
    · exact settles_answer ..

theorem settles_ownRecRelease (l : Link) (n : Word) (s : State) : Settles s (ownRecRelease l n s) :=
  (settles_withStore_same).trans ((settles_reevaluate _).trans (settles_answer ..))

theorem settles_ownRecSubscribe (l : Link) (v : Byte) (s : State) : Settles s (ownRecSubscribe l v s) := by
  unfold ownRecSubscribe; split
  · exact settles_answer ..
  · dsimp only; split
    · exact settles_answer ..
    · refine Settles.trans ?_ (settles_answer ..)
      unfold changeSubscription; dsimp only; split
      · exact settles_withStore_same
      · exact (settles_withStore_same).trans (settles_reevaluate _)

theorem settles_ownRecNoticeConfig (l : Link) (p : Byte) (n : BitVec 16) (s : State) :
    Settles s (ownRecNoticeConfig l p n s) := by
  unfold ownRecNoticeConfig; split
  · exact (settles_withStore_same).trans (settles_answer ..)
  · exact settles_answer ..

theorem settles_ownDispClear (l : Link) (s : State) : Settles s (ownDispClear l s) := by
  have cleared : Settles s (s.withRaster (clearPlanes s.raster)) :=
    (keeps_withRaster fun c _ => by cases c <;> rfl).settles rfl
  exact cleared.trans (settles_answer ..)

theorem settles_setOverlay {l : Link} {m : Memory} {s : State}
    (h : memWf (s.disp.overlay.get l) = true → memWf m = true) : Settles s (setOverlay l m s) := by
  refine settles_withDisp fun k hk => ?_
  by_cases hkl : k = l
  · subst hkl; rw [PerLink.get_set_same]; exact h hk
  · rwa [PerLink.get_set_other _ _ hkl]

theorem settles_ownDispOverlay (l : Link) (x y w h : BitVec 16) (ix : List Byte) (s : State) :
    Settles s (ownDispOverlay l x y w h ix s) := by
  unfold ownDispOverlay; dsimp only; split
  · exact settles_answer ..
  · exact (settles_setOverlay fun hw => memWf_writePixels _ _ _ _ _ hw).trans (settles_answer ..)

theorem settles_ownDispOverlayFill (l : Link) (x y w h : BitVec 16) (i : Byte) (s : State) :
    Settles s (ownDispOverlayFill l x y w h i s) := by
  unfold ownDispOverlayFill; dsimp only; split
  · exact settles_answer ..
  · exact (settles_setOverlay (memWf_fillRows _ _ _ _ _)).trans (settles_answer ..)

theorem settles_ownDispPalette (l : Link) (f m : Byte) (cs : List (Byte × Byte × Byte)) (s : State) :
    Settles s (ownDispPalette l f m cs s) := by
  unfold ownDispPalette; split
  · exact settles_answer ..
  · exact (settles_withDisp_same).trans (settles_answer ..)

theorem settles_ownDispPaletteGet (l : Link) (f m : Byte) (s : State) : Settles s (ownDispPaletteGet l f m s) := by
  unfold ownDispPaletteGet; split <;> exact settles_answer ..

theorem settles_ownStoreList (l : Link) (s : State) : Settles s (ownStoreList l s) := by
  unfold ownStoreList; split <;> exact settles_answer ..

theorem settles_ownStoreCancel (l : Link) (s : State) : Settles s (ownStoreCancel l s) := by
  unfold ownStoreCancel; split
  · exact settles_answer ..
  · exact settles_cancelRequest ..

theorem settles_ownStoreResult (l : Link) (s : State) : Settles s (ownStoreResult l s) := by
  unfold ownStoreResult; split
  · exact (settles_setLink ..).trans ((settles_answer ..).trans (settles_setLink ..))
  · exact settles_answer ..
  · exact settles_answer ..

theorem settles_ownLinkConfig (l : Link) (st e : Byte) (s : State) : Settles s (ownLinkConfig l st e s) := by
  unfold ownLinkConfig; split
  · exact (settles_setLink ..).trans (settles_answer ..)
  · exact settles_answer ..

theorem settles_eventsCleared (l : Link) (before cleared : BitVec 7) (s : State) :
    Settles s (eventsCleared l before cleared s) := by
  unfold eventsCleared; split
  · exact .refl s
  · refine settles_setQueue_same ?_
    unfold restartAfterClear; split <;> rfl

theorem settles_ownLinkClearNotices (l : Link) (n : Byte) (s : State) : Settles s (ownLinkClearNotices l n s) := by
  unfold ownLinkClearNotices; split
  · exact (settles_setLink ..).trans ((settles_eventsCleared ..).trans (settles_answer ..))
  · exact settles_answer ..

theorem settles_ownPowerStandby (l : Link) (tag : Byte) (s : State) : Settles s (ownPowerStandby l tag s) :=
  (settles_acceptLong ..).trans ((settles_withPower).trans (settles_standbyRequest _))

/-! ### Link events -/

theorem settles_resetReceivers (l : Link) (s : State) : Settles s (resetReceivers l s) := by
  have records : ∀ u : State, Settles u (resetRecords l u) := fun u =>
    (settles_withStore (by exact id) (pinsList_set_le (x := []) fun _ => Nat.zero_le 2)).trans (settles_reevaluate _)
  have overlay : ∀ u : State, Settles u (u.withDisp { u.disp with overlay := u.disp.overlay.set l [] }) := fun u =>
    settles_setOverlay fun _ => rfl
  have lockout : ∀ u : State, Settles u (resetLockout l u) := by
    intro u
    unfold resetLockout; split
    · exact ((keepsDark_withRouter u _).relit).trans (settles_notify ..)
    · exact .refl u
  have queue : ∀ u : State, Settles u (setQueue l startQueue u) := fun u => settles_setQueue fun _ => rfl
  unfold resetReceivers
  exact ((settles_withSetup).trans ((queue _).trans ((records _).trans (settles_withSaved _ _)))).trans
    ((overlay _).trans ((lockout _).trans settles_withPower))

theorem settles_linkResetAssert (l : Link) (s : State) : SettlesNext s (execLinkResetAssert l s) := by
  unfold execLinkResetAssert; split
  · exact settlesNext_next (.refl s)
  · exact settlesNext_next ((settles_setLink ..).trans (settles_resetReceivers ..))

theorem settles_linkResetRelease (l : Link) (s : State) : SettlesNext s (execLinkResetRelease l s) := by
  unfold execLinkResetRelease; dsimp only; split
  · exact settlesNext_next (settles_setLink ..)
  · exact settlesNext_next (.refl s)

/-! ### Every command -/

/-- A raw frame runs as the command that it spells, if that is a request, and else has no effect. -/
theorem settles_runFrame (i : Instr) (s : State) : SettlesNext s (runFrame i s) := by
  cases i with
  | setupGet l tag ids => exact settles_takeRequest _ _ _ _ (fun t => settlesNext_next (settles_ownSetupGet l ids t)) s
  | setupChanges l => exact settles_request _ _ _ (fun t => settles_answer ..) s
  | setupSet => exact settles_request _ _ _ (settles_ownSetupSet _ _ _) s
  | setupDefault => exact settles_request _ _ _ (settles_linkCommit _ _) s
  | batchOpen => exact settles_request _ _ _ (fun t => (settles_setBatch ..).trans (settles_answer ..)) s
  | batchStage => exact settles_request _ _ _ (settles_ownBatchStage _ _ _) s
  | batchCommit => exact settles_request _ _ _ (settles_ownBatchCommit _ _) s
  | batchDrop => exact settles_request _ _ _ (fun t => (settles_setBatch ..).trans (settles_answer ..)) s
  | panelTake => exact settles_request _ _ _ (settles_ownPanelTake _ _) s
  | panelQueueConfig => exact settles_request _ _ _ (settles_ownPanelQueueConfig _ _ _ _) s
  | panelQueueGet => exact settles_request _ _ _ (fun t => settles_answer ..) s
  | panelRouteGet => exact settles_request _ _ _ (settles_ownPanelRouteGet _ _) s
  | panelRouteSet => exact settles_request _ _ _ (settles_ownPanelRouteSet _ _ _) s
  | panelDefaultGet => exact settles_request _ _ _ (fun t => settles_answer ..) s
  | panelDefaultSet => exact settles_request _ _ _ (settles_ownPanelDefaultSet _ _) s
  | panelLedSet => exact settles_request _ _ _ (settles_ownPanelLedSet _ _ _) s
  | panelLedGet => exact settles_request _ _ _ (settles_ownPanelLedGet _ _) s
  | panelLedConfig => exact settles_request _ _ _ (settles_ownPanelLedConfig _ _ _ _ _) s
  | lockoutSet => exact settles_request _ _ _ (settles_ownLockoutSet _ _) s
  | acqRun => exact settles_request _ _ _ (settles_runRequest _ _ (settles_acqStart _)) s
  | acqSingle => exact settles_request _ _ _ (settles_runRequest _ _ (settles_acqStart _)) s
  | acqStop => exact settles_request _ _ _ (fun t => settles_runRequest _ _ settles_acqStop t) s
  | acqForce => exact settles_request _ _ _ (fun t => settles_runRequest _ _ settles_acqForce t) s
  | acqStatus => exact settles_request _ _ _ (fun t => settles_answer ..) s
  | recList => exact settles_request _ _ _ (settles_ownRecList _) s
  | recHeader => exact settles_request _ _ _ (settles_ownRecHeader _ _ _ _) s
  | recRead => exact settles_takeRequest _ _ _ _ (settles_ownRecRead _ _ _ _ _ _ _) s
  | recPin => exact settles_request _ _ _ (settles_ownRecPin _ _) s
  | recUnpin => exact settles_request _ _ _ (settles_ownRecUnpin _ _) s
  | recRelease => exact settles_request _ _ _ (settles_ownRecRelease _ _) s
  | recSubscribe => exact settles_request _ _ _ (settles_ownRecSubscribe _ _) s
  | recNoticeConfig => exact settles_request _ _ _ (settles_ownRecNoticeConfig _ _ _) s
  | recNoticeGet => exact settles_request _ _ _ (fun t => settles_answer ..) s
  | dispStatus => exact settles_request _ _ _ (fun t => settles_answer ..) s
  | dispClear => exact settles_request _ _ _ (settles_ownDispClear _) s
  | dispOverlay l tag x y w h ix =>
      exact settles_takeRequest _ _ _ _ (fun t => settlesNext_next (settles_ownDispOverlay l x y w h ix t)) s
  | dispOverlayFill => exact settles_request _ _ _ (settles_ownDispOverlayFill _ _ _ _ _ _) s
  | dispPalette l tag f m cs =>
      exact settles_takeRequest _ _ _ _ (fun t => settlesNext_next (settles_ownDispPalette l f m cs t)) s
  | dispPaletteGet => exact settles_request _ _ _ (settles_ownDispPaletteGet _ _ _) s
  | storeSave | storeRecall | storeErase | storeLock =>
      exact settles_request _ _ _ (fun t => settles_storeRequest _ _ _ _ _ _ t) s
  | storeList => exact settles_request _ _ _ (settles_ownStoreList _) s
  | storeCancel => exact settles_request _ _ _ (settles_ownStoreCancel _) s
  | storeResult => exact settles_request _ _ _ (settles_ownStoreResult _) s
  | linkStatus => exact settles_request _ _ _ (fun t => settles_answer ..) s
  | linkConfig => exact settles_request _ _ _ (settles_ownLinkConfig _ _ _) s
  | linkClearNotices => exact settles_request _ _ _ (settles_ownLinkClearNotices _ _) s
  | powerStandby => exact settles_request _ _ _ (settles_ownPowerStandby _ _) s
  | _ => exact settlesNext_next (.refl s)

theorem settles_writeTransfer (l : Link) (frame : List Byte) (s : State) : SettlesNext s (writeTransfer l frame s) := by
  unfold writeTransfer; split
  · exact settles_runFrame _ s
  · exact settles_takeRequest _ _ _ _ (fun t => settlesNext_next (.refl t)) s

/-- The frame of a request runs as that request. -/
theorem exec_eq_runFrame {i : Instr} (h : (kindOf i).isSome = true) (s : State) : exec i s = runFrame i s := by
  cases i with
  | frameMalformed | writeRefusedBusy | linkResetAssert | linkResetRelease | keyLineChange | debounceExpiry
  | encoderLineChange | queueTimerExpiry | recordTimerExpiry | quietTimerExpiry | holdoffExpiry | autoTimerExpiry
  | frameEvent | sample | spanPass | transmissionComplete | panelPresentChange | lockChange | eepromReadComplete
  | pageWriteComplete | eepromAccessFault | powerOn => cases h
  | _ => rfl

/-- A command keeps what `Settles` names. -/
theorem settles_exec (i : Instr) (s : State) : SettlesNext s (exec i s) := by
  cases i with
  | frameMalformed l frame | writeRefusedBusy l frame => exact settles_writeTransfer l frame s
  | linkResetAssert l => exact settles_linkResetAssert l s
  | linkResetRelease l => exact settles_linkResetRelease l s
  | keyLineChange key pressed => exact settlesNext_next (settles_keyChange key pressed s)
  | debounceExpiry key => exact settlesNext_next (settles_keyExpiry key s)
  | encoderLineChange enc a b => exact settlesNext_next (settles_encChange enc a b s)
  | queueTimerExpiry l => exact settles_queueTimerExpiry l s
  | recordTimerExpiry l => exact settles_recordTimerExpiry l s
  | quietTimerExpiry => exact settles_quietTimerExpiry s
  | holdoffExpiry => exact settles_holdoffExpiry s
  | autoTimerExpiry => exact settles_autoTimerExpiry s
  | frameEvent => exact settles_frameEvent s
  | sample core code => exact settles_sample core code s
  | spanPass => exact settles_spanPass s
  | transmissionComplete => exact settlesNext_next (settles_withDisp_same (finishSending_overlay _))
  | panelPresentChange high => exact settles_panelPresentChange high s
  | lockChange high => exact settles_lockChange high s
  | eepromReadComplete img => exact settles_eepromReadComplete img s
  | pageWriteComplete => exact settlesNext_next (settles_opPage s)
  | eepromAccessFault => exact settles_eepromAccessFault s
  | powerOn straps => exact settlesNext_next (settles_startUpPowerOn straps s)
  | _ => rw [exec_eq_runFrame (by rfl)]; exact settles_runFrame _ s

/-! ### The clock, and every step -/

/-- One nanosecond changes counters and timers alone. -/
theorem settles_nanosecond (s : State) : Settles s (nanosecond s) := by
  have ms : ∀ u : State, Settles u (ageMs u) := by
    intro u
    unfold ageMs; split
    · exact settles_withSubMs u _
    · exact (settles_withSubMs u _).trans (settles_withPanel _ _)
  have queues : ∀ u : State, Settles u (u.withQueues ⟨ageQueue u.queues.console, ageQueue u.queues.remote⟩) :=
    fun u => settles_withQueues fun l hl => by cases l <;> exact hl
  unfold nanosecond
  exact (((ms s).trans (settles_withPanel _ _)).trans ((queues _).trans settles_withStore_same)).trans
    (((settles_withSetup).trans settles_withSeq).trans ((settles_withDisp_same).trans (settles_withSaved _ _)))

/-- An expiry that is due keeps what `Settles` names. -/
theorem settles_dueExpiry {s : State} {act : State → Result} (h : act ∈ dueExpiries s) (t : State) :
    SettlesNext t (act t) := by
  have one : ∀ {timer : Timer} {a : State → Result}, act ∈ dueIf timer a → act = a := by
    intro timer a ha
    unfold dueIf at ha
    split at ha
    · exact List.mem_singleton.1 ha
    · cases ha
  simp only [dueExpiries, List.mem_append, List.mem_flatMap] at h
  rcases h with ((((((((⟨k, -, h⟩ | h) | h) | h) | h) | h) | h) | h) | h) | h <;> rw [one h]
  · exact settlesNext_next (settles_keyExpiry k t)
  · exact settles_queueTimerExpiry _ t
  · exact settles_queueTimerExpiry _ t
  · exact settles_recordTimerExpiry _ t
  · exact settles_recordTimerExpiry _ t
  · exact settles_quietTimerExpiry t
  · exact settles_holdoffExpiry t
  · exact settles_autoTimerExpiry t
  · exact settles_frameEvent t
  · exact settles_accessLimit t

theorem settles_tick (s : State) : SettlesNext s (tick s) := by
  unfold tick; split
  · exact settlesNext_next (.refl s)
  · split
    · exact settlesNext_next (settles_nanosecond s)
    · next act h => exact settles_dueExpiry (h ▸ List.mem_singleton.2 rfl) s
    · next hne _ =>
        refine .after (settles_withRaces s s.races.tail) ?_
        rw [List.getD_eq_getElem _ _ (Nat.mod_lt _ (List.length_pos_iff.2 hne))]
        exact settles_dueExpiry (List.getElem_mem _) _

/-- What a step keeps: all that `Settles` names but for the waiting commands, of which it may take one. -/
theorem step_settles {s t : State} (h : step s = .next t) : ∃ u, (∃ rest, u = s.withPending rest) ∧ Settles u t := by
  unfold step at h
  split at h
  · next c rest _ => exact ⟨_, ⟨rest, rfl⟩, settles_exec c _ t h⟩
  · exact ⟨s, ⟨s.pending, rfl⟩, settles_tick s t h⟩

/-! ### The statements -/

/-- Settles O3: the frame of every command, `settles_exec`. -/
theorem execLeavesWaitingCommands : Obligations.ExecLeavesWaitingCommands :=
  fun i s t h => (settles_exec i s t h).pending

/-- Settles O17: a step changes the live setup by a candidate or at start-up alone, and both are legal. -/
theorem liveSetupStaysLegal : Obligations.LiveSetupStaysLegal := by
  intro s t hs h
  obtain ⟨u, ⟨rest, rfl⟩, k⟩ := step_settles h
  exact k.live hs

/-- Settles O18: every write to a buffer keeps its canonical form. -/
theorem buffersStayCanonical : Obligations.BuffersStayCanonical := by
  intro s t hs h
  obtain ⟨u, ⟨rest, rfl⟩, k⟩ := step_settles h
  simp only [buffersCanonical, Bool.and_eq_true, List.all_eq_true] at hs ⊢
  obtain ⟨⟨⟨hm, hp⟩, hc⟩, hr⟩ := hs
  exact ⟨⟨⟨k.mem hm, fun c hin => k.planes c (hp c hin)⟩, k.overlay .console hc⟩, k.overlay .remote hr⟩

/-- Settles O19: queues by `handOver_legal`, pins by REC.PIN's own check, and the record named by the turns of the reactions. -/
theorem queuesPinsAndSelectionsStayLegal : Obligations.QueuesPinsAndSelectionsStayLegal := by
  intro s t h
  obtain ⟨u, ⟨rest, rfl⟩, k⟩ := step_settles h
  refine ⟨fun hq => ?_, fun hp => ?_, k.chosen⟩
  · simp only [queuesLegal, Bool.and_eq_true] at hq ⊢
    exact ⟨k.queues .console hq.1, k.queues .remote hq.2⟩
  · simp only [pinsLegal, Bool.and_eq_true, decide_eq_true_eq] at hp ⊢
    exact ⟨k.pins .console hp.1, k.pins .remote hp.2⟩

/-- Settles O20: whatever changes what an LED shows is followed by an evaluation. -/
theorem ledsFollowEveryChange : Obligations.LedsFollowEveryChange := by
  intro s t h hs
  obtain ⟨u, ⟨rest, rfl⟩, k⟩ := step_settles h
  exact k.leds hs

/-- Settles O21: the state at reset is written out. -/
theorem resetMeetsInvariants : Obligations.ResetMeetsInvariants :=
  ⟨factorySetup_legal, rfl, rfl, rfl, rfl, fun h => nomatch h⟩

/-- Settles O1: the definition of a step. -/
theorem stepTakesFrontCommand : Obligations.StepTakesFrontCommand := fun _ _ _ => rfl

end Sys2Proof.Machine
end

section
/-! PROOFS. Frames and transfers (R187 to R191, R202): every request is one WRITE transfer of its frame, its frame reads back,
and the link's own checks come before its owner. -/

namespace Sys2Proof.Machine

/-! ### Every request by its frame -/

/-- A command with a payload is a request: it has a kind code, and it is what its link takes under that kind. -/
theorem exec_request {i : Instr} {l : Link} {tag : Byte} {p : List Byte} (h : payloadOf i = some (l, tag, p)) :
    ∃ k owner, kindOf i = some k ∧ ∀ s, exec i s = takeRequest l tag k i.wf owner s := by
  cases i with
  | batchCommit l t form => cases form <;> cases h <;> exact ⟨_, _, rfl, fun _ => rfl⟩
  | frameMalformed | writeRefusedBusy | linkResetAssert | linkResetRelease | keyLineChange | debounceExpiry
  | encoderLineChange | queueTimerExpiry | recordTimerExpiry | quietTimerExpiry | holdoffExpiry | autoTimerExpiry
  | frameEvent | sample | spanPass | transmissionComplete | panelPresentChange | lockChange | eepromReadComplete
  | pageWriteComplete | eepromAccessFault | powerOn => cases h
  | _ => cases h; exact ⟨_, _, rfl, fun _ => rfl⟩

/-- Only kinds whose payload length varies can be ill formed, and no long request is of those. -/
theorem wf_of_longKind {i : Instr} {k : Byte} (hk : kindOf i = some k) (hl : longKind k = true) : i.wf = true := by
  cases i with
  | setupGet | dispOverlay | dispPalette => cases hk; cases hl
  | _ => rfl

/-- The payload of a well-formed request passes the form check of R190. -/
theorem framing (i : Instr) : Laws.Framing.Statement i := by
  cases i with
  | setupGet => exact Laws.Framing.setupGet _ _ _
  | batchCommit => exact Laws.Framing.batchCommit _ _ _
  | dispOverlay => exact Laws.Framing.dispOverlay _ _ _ _ _ _ _
  | dispPalette => exact Laws.Framing.dispPalette _ _ _ _ _
  | frameMalformed | writeRefusedBusy | linkResetAssert | linkResetRelease | keyLineChange | debounceExpiry
  | encoderLineChange | queueTimerExpiry | recordTimerExpiry | quietTimerExpiry | holdoffExpiry | autoTimerExpiry
  | frameEvent | sample | spanPass | transmissionComplete | panelPresentChange | lockChange | eepromReadComplete
  | pageWriteComplete | eepromAccessFault | powerOn => exact Laws.Framing.of_none rfl
  | _ => exact Laws.Framing.of_some rfl fun _ => by simp [Config.maxPayload]

/-! ### Items read back -/

theorem half_le16 (v : BitVec 16) : half (v.extractLsb' 0 8) (v.extractLsb' 8 8) = v := by
  rw [half, BitVec.extractLsb'_append_extractLsb'_eq_extractLsb' (by rfl)]
  exact BitVec.extractLsb'_eq_self

theorem word_le32 (v : Word) :
    word (v.extractLsb' 0 8) (v.extractLsb' 8 8) (v.extractLsb' 16 8) (v.extractLsb' 24 8) = v := by
  rw [word, BitVec.extractLsb'_append_extractLsb'_eq_extractLsb' (by rfl),
    BitVec.extractLsb'_append_extractLsb'_eq_extractLsb' (by rfl),
    BitVec.extractLsb'_append_extractLsb'_eq_extractLsb' (by rfl)]
  exact BitVec.extractLsb'_eq_self

theorem triples_flattenTriples (cs : List (Byte × Byte × Byte)) : triples (flattenTriples cs) = cs := by
  induction cs with
  | nil => rfl
  | cons c rest ih => obtain ⟨r, g, b⟩ := c; rw [flattenTriples, triples, ih]

theorem suitsOverlay_reads {w h : BitVec 16} {ix : List Byte} (hw : suitsOverlay w h ix = true) :
    suitsOverlay (half (w.extractLsb' 0 8) (w.extractLsb' 8 8)) (half (h.extractLsb' 0 8) (h.extractLsb' 8 8)) ix = true := by
  simpa only [half_le16] using hw

/-- The payload of a well-formed request spells that request under its kind code. -/
theorem decodePayload_payloadOf {i : Instr} {l : Link} {tag k : Byte} {p : List Byte} (hw : i.wf = true)
    (hk : kindOf i = some k) (h : payloadOf i = some (l, tag, p)) : decodePayload l tag k p = some i := by
  cases i with
  | setupGet l t ids => cases hk; cases h; exact if_pos hw
  | batchCommit l t form => cases form <;> cases hk <;> cases h <;> rfl
  | setupChanges l t g => cases hk; cases h; exact congrArg (fun v => some (Instr.setupChanges l tag v)) (word_le32 g)
  | setupSet l t f v => cases hk; cases h; exact congrArg (fun v => some (Instr.setupSet l tag f v)) (word_le32 v)
  | batchStage l t f v => cases hk; cases h; exact congrArg (fun v => some (Instr.batchStage l tag f v)) (word_le32 v)
  | panelLedConfig l t n s o v =>
    cases hk; cases h; exact congrArg (fun v => some (Instr.panelLedConfig l tag n s o v)) (word_le32 v)
  | recPin l t n => cases hk; cases h; exact congrArg (fun v => some (Instr.recPin l tag v)) (word_le32 n)
  | recUnpin l t n => cases hk; cases h; exact congrArg (fun v => some (Instr.recUnpin l tag v)) (word_le32 n)
  | recRelease l t n => cases hk; cases h; exact congrArg (fun v => some (Instr.recRelease l tag v)) (word_le32 n)
  | recNoticeConfig l t p s =>
    cases hk; cases h; exact congrArg (fun v => some (Instr.recNoticeConfig l tag p v)) (half_le16 s)
  | recHeader l t n f m =>
    cases hk; cases h
    exact congrArg₂ (fun n f => some (Instr.recHeader l tag n f m)) (word_le32 n) (half_le16 f)
  | recRead l t n c s f k fmt =>
    cases hk; cases h
    change some (Instr.recRead l tag (word _ _ _ _) c (half _ _) (word _ _ _ _) (half _ _) fmt) = _
    rw [word_le32, word_le32, half_le16, half_le16]
  | dispOverlay l t x y w h ix =>
    cases hk; cases h
    refine (if_pos (suitsOverlay_reads hw)).trans ?_
    change some (Instr.dispOverlay l tag (half _ _) (half _ _) (half _ _) (half _ _) ix) = _
    simp only [half_le16]
  | dispOverlayFill l t x y w h ix =>
    cases hk; cases h
    change some (Instr.dispOverlayFill l tag (half _ _) (half _ _) (half _ _) (half _ _) ix) = _
    simp only [half_le16]
  | dispPalette l t f m cs =>
    cases hk; cases h
    have hm : cs.length = m.toNat := of_decide_eq_true hw
    refine (if_pos (by rw [Laws.Framing.flattenTriples_length, hm])).trans ?_
    rw [triples_flattenTriples]
  | storeSave l t s label =>
    cases hk; cases h
    obtain ⟨⟨ls⟩, hl⟩ := label
    match ls, hl with
    | [a, b, c, d, e, f, g, h], _ => rfl
  | frameMalformed | writeRefusedBusy | linkResetAssert | linkResetRelease | keyLineChange | debounceExpiry
  | encoderLineChange | queueTimerExpiry | recordTimerExpiry | quietTimerExpiry | holdoffExpiry | autoTimerExpiry
  | frameEvent | sample | spanPass | transmissionComplete | panelPresentChange | lockChange | eepromReadComplete
  | pageWriteComplete | eepromAccessFault | powerOn => cases h
  | _ => cases hk; cases h; rfl

/-- A frame whose payload fits is read back by its payload. -/
theorem decodeFrame_frameBytes (l : Link) (tag k : Byte) {p : List Byte} (h : p.length ≤ Config.maxPayload) :
    decodeFrame l (frameBytes tag k p) = decodePayload l tag k p := by
  have hn : (half ((BitVec.ofNat 16 p.length).extractLsb' 0 8) ((BitVec.ofNat 16 p.length).extractLsb' 8 8)).toNat =
      p.length := by
    rw [half_le16, BitVec.toNat_ofNat]
    unfold Config.maxPayload at h
    omega
  exact if_pos ⟨hn.symm ▸ h, hn.symm⟩

/-- Settles O4: the frame holds the payload whole, and the payload of each kind reads back item by item. -/
theorem frameReadsBackAsRequest : Obligations.FrameReadsBackAsRequest := by
  intro i l frame hw he
  unfold encodeFrame at he
  split at he
  next k l t p hk hp =>
    cases he
    rw [decodeFrame_frameBytes l t k (framing i hw _ hp)]
    exact decodePayload_payloadOf hw hk hp
  · cases he

/-! ### Frames that read as a request -/

/-- The 50 kind codes (the table of R202). -/
def requestKinds : List Byte :=
  [0x10#8, 0x11#8, 0x12#8, 0x13#8, 0x14#8, 0x15#8, 0x16#8, 0x17#8, 0x20#8, 0x21#8, 0x22#8, 0x23#8, 0x24#8, 0x25#8,
   0x26#8, 0x27#8, 0x28#8, 0x29#8, 0x2A#8, 0x30#8, 0x31#8, 0x32#8, 0x33#8, 0x34#8, 0x40#8, 0x41#8, 0x42#8, 0x43#8,
   0x44#8, 0x45#8, 0x46#8, 0x47#8, 0x48#8, 0x50#8, 0x51#8, 0x52#8, 0x53#8, 0x54#8, 0x55#8, 0x60#8, 0x61#8, 0x62#8,
   0x63#8, 0x64#8, 0x65#8, 0x66#8, 0x70#8, 0x71#8, 0x72#8, 0x78#8]

/-- What a payload reads as, if anything, is a request of this link, tag and kind. -/
def Spells (l : Link) (tag kind : Byte) (o : Option Instr) : Prop :=
  ∀ i, o = some i → kindOf i = some kind ∧ ∃ q, payloadOf i = some (l, tag, q)

theorem spells_none (l : Link) (tag kind : Byte) : Spells l tag kind none := fun _ h => by cases h

section
variable {l : Link} {tag kind : Byte} {i : Instr} {q : List Byte} (hk : kindOf i = some kind)
  (hp : payloadOf i = some (l, tag, q))
include hk hp

theorem spells_some : Spells l tag kind (some i) := fun _ h => by cases h; exact ⟨hk, q, hp⟩

theorem spells_ite {c : Prop} [Decidable c] : Spells l tag kind (if c then some i else none) := by
  split
  · exact spells_some hk hp
  · exact spells_none l tag kind

end

set_option maxRecDepth 4000 in
/-- A kind code outside the table spells nothing: looked up byte by byte. -/
theorem decodePayload_strange (l : Link) (tag : Byte) (p : List Byte) (n : Fin 256) :
    BitVec.ofFin n ∉ requestKinds → decodePayload l tag (BitVec.ofFin n) p = none := by
  fin_cases n <;> intro h <;> try rfl
  all_goals exact absurd (by decide) h

set_option maxRecDepth 4000 in
/-- A kind code of the table spells one request, for the payload lengths that suit it; no kind fixes one above 14. -/
theorem decodePayload_known (l : Link) (tag : Byte) (p : List Byte) {kind : Byte} (hk : kind ∈ requestKinds) :
    Spells l tag kind (decodePayload l tag kind p) := by
  simp only [requestKinds, List.mem_cons, List.not_mem_nil, or_false] at hk
  rcases p with _ | ⟨_, _ | ⟨_, _ | ⟨_, _ | ⟨_, _ | ⟨_, _ | ⟨_, _ | ⟨_, _ | ⟨_, _ | ⟨_, _ | ⟨_, _ | ⟨_, _ | ⟨_, _ | ⟨_, _ | ⟨_,
    _ | ⟨_, _⟩⟩⟩⟩⟩⟩⟩⟩⟩⟩⟩⟩⟩⟩⟩
  all_goals
    rcases hk with rfl | rfl | rfl | rfl | rfl | rfl | rfl | rfl | rfl | rfl | rfl | rfl | rfl | rfl | rfl | rfl | rfl | rfl |
      rfl | rfl | rfl | rfl | rfl | rfl | rfl | rfl | rfl | rfl | rfl | rfl | rfl | rfl | rfl | rfl | rfl | rfl | rfl | rfl |
      rfl | rfl | rfl | rfl | rfl | rfl | rfl | rfl | rfl | rfl | rfl | rfl
  all_goals first
    | exact spells_none l tag _
    | exact spells_some rfl rfl
    | exact spells_ite rfl rfl

theorem decodePayload_spells (l : Link) (tag kind : Byte) (p : List Byte) :
    Spells l tag kind (decodePayload l tag kind p) := by
  by_cases hk : kind ∈ requestKinds
  · exact decodePayload_known l tag p hk
  · rw [show decodePayload l tag kind p = none from decodePayload_strange l tag p kind.toFin hk]
    exact spells_none l tag kind

/-- What a frame spells is a request of that link, its tag the first byte. -/
theorem request_of_decodeFrame {l : Link} {frame : List Byte} {i : Instr} (h : decodeFrame l frame = some i) :
    (kindOf i).isSome = true ∧ ∃ q, payloadOf i = some (l, frameTag frame, q) := by
  unfold decodeFrame at h
  split at h
  next tag kind lo hi payload =>
    obtain ⟨hk, hp⟩ := decodePayload_spells _ _ _ _ _ (Option.ite_none_right_eq_some.1 h).2
    exact ⟨by rw [hk]; rfl, hp⟩
  · cases h

/-- A WRITE transfer is judged as the request that its frame spells, else as a frame that fails. -/
theorem writeTransfer_eq (l : Link) (frame : List Byte) (s : State) :
    writeTransfer l frame s = match decodeFrame l frame with
      | some i => exec i s
      | none => takeRequest l (frameTag frame) (frameKind frame) false (fun t => .next t) s := by
  unfold writeTransfer
  cases hd : decodeFrame l frame with
  | none => rfl
  | some i => exact (exec_eq_runFrame (request_of_decodeFrame hd).1 s).symm

/-! ### The link's own checks -/

theorem refuseBusy_eq (l : Link) (tag : Byte) (s : State) : refuseBusy l tag s =
    s.withLinks (s.links.set l { s.links.get l with refusal := some ⟨tag, .busy, .nothing⟩ }) := rfl

/-- A link that takes no transfer leaves the state as it is, whatever the frame. -/
theorem writeTransfer_closed {l : Link} {s : State} (frame : List Byte) (h : takesTransfers (s.links.get l) = false) :
    writeTransfer l frame s = .next s := by
  rw [writeTransfer_eq]
  cases hd : decodeFrame l frame with
  | none => exact takeRequest_closed _ _ _ _ h
  | some i =>
    obtain ⟨q, hq⟩ := (request_of_decodeFrame hd).2
    obtain ⟨k, owner, -, he⟩ := exec_request hq
    exact (he s).trans (takeRequest_closed _ _ _ _ h)

/-- With READY low every frame is refused BUSY under its first byte. -/
theorem writeTransfer_busy {l : Link} {s : State} (frame : List Byte) (h : takesTransfers (s.links.get l) = true)
    (hr : (s.links.get l).ready = false) : writeTransfer l frame s = .next (refuseBusy l (frameTag frame) s) := by
  rw [writeTransfer_eq]
  cases hd : decodeFrame l frame with
  | none => exact takeRequest_busy _ _ _ _ h hr
  | some i =>
    obtain ⟨q, hq⟩ := (request_of_decodeFrame hd).2
    obtain ⟨k, owner, -, he⟩ := exec_request hq
    exact (he s).trans (takeRequest_busy _ _ _ _ h hr)

/-- A long request of a link whose deferred result is not EMPTY is refused. -/
theorem judge_longBusy {l : Link} (tag : Byte) {kind : Byte} (owner : State → Result) {s : State}
    (hp : s.power.state = .active) (hk : longKind kind = true) (hd : (s.links.get l).deferred ≠ .empty) :
    judgeRequest l kind true owner (working l tag kind s) = .next (replied l tag .busy .nothing s) := by
  have h : (working l tag kind s).power.state = .active := hp
  have hd' : ((working l tag kind s).links.get l).deferred ≠ .empty := by simpa [working] using hd
  simp [judgeRequest, h, hk, hd', answer_working]

/-- Settles O5: every command with a payload is its link's taking of it, judged in the order of the checks. -/
theorem linkRefusesBeforeOwner : Obligations.LinkRefusesBeforeOwner := by
  intro l s
  refine ⟨fun hc => ⟨fun i tag p hp => ?_, fun frame => ⟨writeTransfer_closed frame hc, writeTransfer_closed frame hc⟩⟩,
    fun ht hr => ⟨fun i tag p hp => ?_, fun frame => writeTransfer_busy frame ht hr⟩,
    fun hr => ⟨fun frame hd => ?_, fun i tag p hp => ?_⟩⟩
  · obtain ⟨k, owner, -, he⟩ := exec_request hp
    exact (he s).trans (takeRequest_closed _ _ _ _ hc)
  · obtain ⟨k, owner, -, he⟩ := exec_request hp
    exact (he s).trans (takeRequest_busy _ _ _ _ ht hr)
  · refine (writeTransfer_eq l frame s).trans ?_
    rw [hd]
    exact (takeRequest_ready _ _ _ _ hr).trans (judge_malformed l _ _ _ s)
  · obtain ⟨k, owner, hk, he⟩ := exec_request hp
    rw [he, takeRequest_ready _ _ _ _ hr, hk]
    refine ⟨fun hw => ?malformed, fun hw hs hp => ?standby, fun k' hk' hm ha hd => ?busy⟩
    case malformed => rw [hw]; exact judge_malformed l tag k owner s
    case standby =>
      rw [hw]
      exact judge_inStandby l tag owner hp fun h => hs (congrArg some h)
    case busy =>
      obtain rfl : k = k' := Option.some.inj hk'
      have hl : longKind k = true := by
        simp only [List.mem_cons, List.not_mem_nil, or_false] at hm
        rcases hm with rfl | rfl | rfl | rfl | rfl <;> rfl
      rw [wf_of_longKind hk hl]
      exact judge_longBusy tag owner ha hl hd

/-! ### Transfers by their code -/

/-- Only a READ transfer shifts anything out but 00h. -/
theorem shiftedOut_of_outgoing_nil {l : Link} {bytes : List Byte} {s : State} (h : outgoing l bytes s = []) :
    shiftedOut l bytes s = List.replicate bytes.length 0#8 := by
  unfold shiftedOut
  rw [h]
  refine List.eq_replicate_iff.2 ⟨by simp, fun b hb => ?_⟩
  obtain ⟨i, -, rfl⟩ := List.mem_map.1 hb
  simp

/-- What is shifted out after the transfer code: the outgoing bytes, then 00h. -/
theorem shiftedOut_cons (l : Link) (code : Byte) (rest : List Byte) (s : State) :
    shiftedOut l (code :: rest) s =
      0#8 :: (outgoing l (code :: rest) s ++ List.replicate rest.length 0#8).take rest.length := by
  refine List.ext_getElem (by simp [shiftedOut]) fun n h1 h2 => ?_
  cases n with
  | zero => simp [shiftedOut]
  | succ n =>
    simp only [shiftedOut, List.getElem_map, List.getElem_range, List.getElem_cons_succ, List.getElem_take]
    rw [if_neg (by omega), Nat.add_sub_cancel, List.getElem_append]
    split
    next hn => exact List.getD_eq_getElem _ _ hn
    next hn => rw [List.getElem_replicate]; exact List.getD_eq_default _ _ (Nat.le_of_not_lt hn)

theorem endTransfer_write (l : Link) (frame : List Byte) (s : State) :
    endTransfer l (0xA5#8 :: frame) s = writeTransfer l frame s := rfl

theorem endTransfer_other {code : Byte} (l : Link) (rest : List Byte) (s : State) (h : code ≠ 0xA5#8) :
    endTransfer l (code :: rest) s = .next s := if_neg h

theorem outgoing_other {code : Byte} (l : Link) (rest : List Byte) (s : State) (h : code ≠ 0x5A#8) :
    outgoing l (code :: rest) s = [] := if_neg h

theorem readFrame_closed {l : Link} {s : State} (h : takesTransfers (s.links.get l) = false) : readFrame l s = [] := by
  simp [readFrame, h]

theorem readFrame_open {l : Link} {s : State} (h : takesTransfers (s.links.get l) = true) :
    readFrame l s = responseBytes (readResponse (s.links.get l)) := if_pos h

/-- Nothing goes out on a link that takes no transfer. -/
theorem outgoing_closed {l : Link} {s : State} (bytes : List Byte) (h : takesTransfers (s.links.get l) = false) :
    outgoing l bytes s = [] := by
  cases bytes with
  | nil => rfl
  | cons code rest => exact ite_eq_right_iff.2 fun _ => readFrame_closed h

/-- A transfer that ends on a link that takes none has no effect. -/
theorem endTransfer_closed {l : Link} {s : State} (bytes : List Byte) (h : takesTransfers (s.links.get l) = false) :
    endTransfer l bytes s = .next s := by
  cases bytes with
  | nil => rfl
  | cons code rest => exact ite_eq_right_iff.2 fun _ => writeTransfer_closed rest h

/-- Settles O6: by the transfer's first byte. -/
theorem transferByItsCode : Obligations.TransferByItsCode := by
  intro l s
  refine ⟨fun frame => ⟨?write, shiftedOut_of_outgoing_nil (outgoing_other l frame s (by decide))⟩,
    fun rest => ⟨endTransfer_other l rest s (by decide), fun _ => shiftedOut_cons l _ rest s⟩,
    fun code rest hw hr => ⟨endTransfer_other l rest s hw, shiftedOut_of_outgoing_nil (outgoing_other l rest s hr)⟩,
    rfl, fun hc bytes => ⟨endTransfer_closed bytes hc, shiftedOut_of_outgoing_nil (outgoing_closed bytes hc)⟩,
    fun ht => ?read⟩
  case write =>
    rw [endTransfer_write, writeTransfer_eq]
    cases hd : decodeFrame l frame with
    | some i => rfl
    | none => refine Eq.trans ?_ (writeTransfer_eq l frame s).symm; rw [hd]
  case read =>
    rw [readFrame_open ht]
    refine ⟨fun r hr hp => ?_, fun hr hp => ?_, fun r hr hp => ?_, fun hr hp => ?_⟩ <;>
      (rw [readResponse, hr]; simp only [if_true, Bool.false_eq_true, if_false, hp]; rfl)

end Sys2Proof.Machine
end

section
/-! PROOFS. What acquisition, records and drawing never touch as long as Power Control has not asked for standby: everything but
their own blocks, the RECORDS notice and what the LEDs show (R24, R58, R125). -/

namespace Sys2Proof.Machine

/-! ### The rest of the state -/

/-- A link without its RECORDS notice. -/
def recordsAside (k : LinkState) : LinkState := { k with notices := k.notices &&& ~~~noticeMask .records }

/-- The state but for sequencer, store, Raster Engine and `races`, the RECORDS notices and what the LEDs show; of the sequencer
only Power Control's stop and the time counter. -/
structure Aside where
  setup : SetupBlock
  panel : PanelScanner
  router : Router
  queues : PerLink EventQueue
  standbyStop : Bool
  time : BitVec 48
  disp : Composer
  saved : SavedStore
  links : Link → LinkState
  power : Power
  subMs : Nat
  pending : List Instr

def aside (s : State) : Aside where
  setup := s.setup
  panel := s.panel
  router := { s.router with lit := startRouter.lit }
  queues := s.queues
  standbyStop := s.seq.standbyStop
  time := s.seq.time
  disp := s.disp
  saved := s.saved
  links := fun l => recordsAside (s.links.get l)
  power := s.power
  subMs := s.subMs
  pending := s.pending

section
variable {s t : State} (h : aside t = aside s)
include h

theorem aside_setup : t.setup = s.setup := congrArg Aside.setup h
theorem aside_panel : t.panel = s.panel := congrArg Aside.panel h
theorem aside_queues : t.queues = s.queues := congrArg Aside.queues h
theorem aside_stop : t.seq.standbyStop = s.seq.standbyStop := congrArg Aside.standbyStop h
theorem aside_disp : t.disp = s.disp := congrArg Aside.disp h
theorem aside_saved : t.saved = s.saved := congrArg Aside.saved h
theorem aside_power : t.power = s.power := congrArg Aside.power h

theorem aside_router : t.router = { s.router with lit := t.router.lit } := by
  have hr := congrArg Aside.router h
  simp only [aside, Router.mk.injEq] at hr
  obtain ⟨h1, h2, h3, h4, -, h6⟩ := hr
  dsimp only
  rw [← h1, ← h2, ← h3, ← h4, ← h6]

/-- Links are kept but for their notices. -/
theorem aside_linksKept : linksKept s t := by
  intro m
  have hl : recordsAside (t.links.get m) = recordsAside (s.links.get m) := congrFun (congrArg Aside.links h) m
  simp only [recordsAside, LinkState.mk.injEq] at hl
  obtain ⟨h1, h2, h3, h4, h5, h6, h7, h8, -, h10⟩ := hl
  dsimp only
  rw [← h1, ← h2, ← h3, ← h4, ← h5, ← h6, ← h7, ← h8, ← h10]

/-- A notice other than RECORDS is kept. -/
theorem aside_notice (m : Link) {n : Notice} (hn : n ≠ .records) :
    (t.links.get m).notices &&& noticeMask n = (s.links.get m).notices &&& noticeMask n := by
  have hl : (t.links.get m).notices &&& ~~~noticeMask .records = (s.links.get m).notices &&& ~~~noticeMask .records :=
    congrArg LinkState.notices (congrFun (congrArg Aside.links h) m)
  have hm : ~~~noticeMask .records &&& noticeMask n = noticeMask n := by
    cases n with
    | records => exact absurd rfl hn
    | _ => decide
  rw [← hm, ← BitVec.and_assoc, hl, BitVec.and_assoc]

end

/-! ### Replacing a block -/

@[simp] theorem aside_withRaces (s : State) (x : Races) : aside (s.withRaces x) = aside s := rfl
@[simp] theorem aside_withStore (s : State) (x : RecordStore) : aside (s.withStore x) = aside s := rfl
@[simp] theorem aside_withRaster (s : State) (x : RasterEngine) : aside (s.withRaster x) = aside s := rfl

theorem aside_withSeq (s : State) {x : Sequencer} (hs : x.standbyStop = s.seq.standbyStop := by rfl)
    (ht : x.time = s.seq.time := by rfl) : aside (s.withSeq x) = aside s := by simp [aside, hs, ht]

@[simp] theorem aside_evalLeds (s : State) : aside (evalLeds s) = aside s := by
  obtain ⟨lit, h⟩ := evalLeds_eq s
  rw [h]; rfl

theorem aside_notifyRecords (l : Link) (s : State) : aside (notify l .records s) = aside s := by
  have bits : ∀ x : BitVec 7, (x ||| noticeMask .records) &&& ~~~noticeMask .records = x &&& ~~~noticeMask .records := by
    intro x
    rw [BitVec.and_or_distrib_right]
    simp
  have hl : ∀ m, recordsAside ((notify l .records s).links.get m) = recordsAside (s.links.get m) := by
    intro m
    cases l <;> cases m <;> simp [notify, setLink, PerLink.get, PerLink.set, recordsAside, bits]
  simp only [aside, Aside.mk.injEq]
  exact ⟨rfl, rfl, rfl, rfl, rfl, rfl, rfl, rfl, funext hl, rfl, rfl, rfl⟩

/-! ### Segments and records -/

@[simp] theorem aside_setCap (c : CapState) (s : State) : aside (setCap c s) = aside s := by
  unfold setCap; split
  · rfl
  · exact (aside_evalLeds _).trans (aside_withSeq s)

@[simp] theorem aside_setRun (r : RunState) (s : State) : aside (setRun r s) = aside s := by
  unfold setRun; split
  · rfl
  · exact (aside_evalLeds _).trans (aside_withSeq s)

@[simp] theorem aside_setCurrent (r : Option Record) (s : State) : aside (setCurrent r s) = aside s := rfl

@[simp] theorem aside_setFront (f : Front) (s : State) : aside (setFront f s) = aside s := rfl

@[simp] theorem aside_takeTrigger (t : Trigger) (r : Record) (s : State) : aside (takeTrigger t r s) = aside s := by
  unfold takeTrigger; exact (aside_setCap _ _).trans (aside_withSeq s)

@[simp] theorem aside_forcedTrigger (s : State) : aside (forcedTrigger s) = aside s := by
  unfold forcedTrigger; split <;> simp

@[simp] theorem aside_arm (s : State) : aside (arm s) = aside s := by
  unfold arm; split
  · rfl
  · dsimp only; split
    · exact (aside_forcedTrigger _).trans ((aside_withSeq _).trans (aside_setCap _ _))
    · split
      · exact (aside_withSeq _).trans (aside_setCap _ _)
      · exact aside_setCap _ _

@[simp] theorem aside_segmentStart (s : State) : aside (segmentStart s) = aside s := by
  unfold segmentStart; split
  · rfl
  · dsimp only; split <;> simp

@[simp] theorem aside_grantSlot (n : Nat) (s : State) : aside (grantSlot n s) = aside s := by
  unfold grantSlot; exact (aside_segmentStart _).trans (aside_withSeq _)

@[simp] theorem aside_requestSlot (s : State) : aside (requestSlot s) = aside s := by
  unfold requestSlot; split <;> simp

@[simp] theorem aside_reevaluate (s : State) : aside (reevaluate s) = aside s := by
  unfold reevaluate; split
  · split <;> simp
  · rfl

@[simp] theorem aside_countCompletionOn (l : Link) (s : State) : aside (countCompletionOn l s) = aside s := by
  unfold countCompletionOn; dsimp only; split
  · rw [aside_notifyRecords, aside_withStore]
  · rw [aside_withStore]

/-! ### Drawing -/

@[simp] theorem aside_finishDraw (n : Word) (d : Drawn) (s : State) : aside (finishDraw n d s) = aside s := by
  unfold finishDraw dropDraw; simp

@[simp] theorem aside_beginDraw (k : DrawKind) (h : Header) (s : State) : aside (beginDraw k h s) = aside s := by
  unfold beginDraw; dsimp only; split <;> simp

@[simp] theorem aside_choose (c : Option (DrawKind × Word)) (s : State) : aside (choose c s) = aside s := rfl

@[simp] theorem aside_askDraw (s : State) : aside (askDraw s) = aside s := by
  unfold askDraw; split
  · rfl
  · split <;> rfl

@[simp] theorem aside_startDraw (n : Nat) (s : State) : aside (startDraw n s) = aside s := by
  induction n generalizing s with
  | zero => rfl
  | succ n ih =>
    unfold startDraw; split
    · rfl
    · split
      · rfl
      · split <;> simp [ih]

@[simp] theorem aside_settleDraw (s : State) : aside (settleDraw s) = aside s := aside_startDraw _ s

@[simp] theorem aside_selectDraw (s : State) : aside (selectDraw s) = aside s := by unfold selectDraw; simp

@[simp] theorem aside_redrawRequest (s : State) : aside (redrawRequest s) = aside s := by unfold redrawRequest; simp

@[simp] theorem aside_drawFreed (n : Word) (s : State) : aside (drawFreed n s) = aside s := by
  unfold drawFreed; split
  · split
    · unfold dropDraw; simp
    · rfl
  · rfl

theorem aside_takeAll {s : State} (acts : List (State → State))
    (h : ∀ act ∈ acts, ∀ t, aside t = aside s → aside (act t) = aside s) : aside (takeAll acts s) = aside s :=
  takeAll_keeps (P := fun t => aside t = aside s) (fun t x ht => by simpa using ht) (fun t ht => by simpa using ht) acts
    (fun act ha t ht => h act ha t ht) s rfl

/-! ### The sequence, with no standby asked -/

theorem aside_reportIdle {s : State} (h : s.seq.standbyStop = false) : reportIdle s = s := by simp [reportIdle, h]

theorem aside_enterIdle {s : State} (h : s.seq.standbyStop = false) : aside (enterIdle s) = aside s := by
  have hs : ∀ x : Sequencer, x.standbyStop = false → x.time = s.seq.time →
      aside (reportIdle (setRun .stopped (setCap .idle (s.withSeq x)))) = aside s := by
    intro x hx ht
    have ha : aside (setRun .stopped (setCap .idle (s.withSeq x))) = aside s := by
      rw [aside_setRun, aside_setCap, aside_withSeq s (hx.trans h.symm) ht]
    rw [aside_reportIdle ((aside_stop ha).trans h), ha]
  exact hs _ h rfl

theorem aside_closeRecord {next : State → State} {s : State}
    (h : ∀ t, aside t = aside s → aside (next t) = aside s) : aside (closeRecord next s) = aside s := by
  unfold closeRecord; split
  · exact h s rfl
  · dsimp only; split
    · rw [aside_takeAll]
      · simp
      · intro act ha t ht
        have ht' : aside t = aside s := by rw [ht]; simp
        simp only [List.mem_cons, List.not_mem_nil, or_false] at ha
        have goal : aside (act t) = aside s := by
          rcases ha with rfl | rfl
          · exact (aside_askDraw t).trans ht'
          · exact h t ht'
        rw [goal]; simp
    · exact h _ (by simp)

@[simp] theorem aside_abandonSegment (s : State) : aside (abandonSegment s) = aside s := rfl

theorem aside_afterLostRecord {s : State} (h : s.seq.standbyStop = false) : aside (afterLostRecord s) = aside s := by
  unfold afterLostRecord; split
  · exact aside_enterIdle h
  · exact aside_requestSlot s

theorem aside_captureChange (g : Word) {s : State} (h : s.seq.standbyStop = false) :
    aside (captureChange g s) = aside s := by
  unfold captureChange; split
  · rfl
  · split
    · refine aside_closeRecord (s := abandonSegment s) fun t ht => ?_
      rw [aside_afterLostRecord ((aside_stop ht).trans h), ht]
    · rfl

theorem aside_withdrawal (n : Word) {s : State} (h : s.seq.standbyStop = false) :
    aside (withdrawal n s) = aside s := by
  unfold withdrawal; split
  · rfl
  · split
    · exact aside_afterLostRecord (s := setCurrent none (abandonSegment s)) h
    · rfl

theorem aside_layoutChange {s : State} (h : s.seq.standbyStop = false) : aside (layoutChange s) = aside s := by
  unfold layoutChange
  dsimp only
  rw [aside_reevaluate]
  split <;> split
  · rw [aside_drawFreed]; exact aside_withdrawal (s := s.withStore _) _ h
  · rw [aside_drawFreed]; rfl
  · exact aside_withdrawal (s := s.withStore _) _ h
  · rfl

theorem aside_acqStop {s : State} (h : s.seq.standbyStop = false) : aside (acqStop s) = aside s := by
  have closed : aside (closeRecord enterIdle (abandonSegment s)) = aside s :=
    aside_closeRecord (s := abandonSegment s) fun t ht => by rw [aside_enterIdle ((aside_stop ht).trans h), ht]
  unfold acqStop; split
  · rfl
  · exact aside_enterIdle (s := s.withStore _) h
  · exact closed
  · exact closed
  · rfl

@[simp] theorem aside_acqForce (s : State) : aside (acqForce s) = aside s := by
  unfold acqForce; split
  · simp
  · rfl
  · rfl

/-- The receivers of an installed commit leave the rest of the state alone. -/
theorem aside_reactions (old new : Setup) (gen : Word) (stopped : Bool) {s : State} (h : s.seq.standbyStop = false) :
    aside (takeAll (reactions old new gen stopped) s) = aside s := by
  refine aside_takeAll _ fun act ha t ht => ?_
  have hp := (aside_stop ht).trans h
  rw [← ht]
  rcases mem_reactions ha with rfl | rfl | rfl | rfl
  · exact aside_captureChange gen hp
  · exact aside_layoutChange hp
  · exact aside_reevaluate t
  · exact aside_redrawRequest t

end Sys2Proof.Machine
end

section
/-! PROOFS. Reading the live setup (R5, R6), and the commit procedure field by field: the offence it names (R10), the candidate it
builds (R11 to R14), and the refusal for want of a channel (R15). -/

namespace Sys2Proof.Machine

/-! ### Field IDs -/

theorem fieldOfId_fieldByte (f : Field) : fieldOfId (fieldByte f).toNat = some f := by
  cases f with
  | chOn c | chScale c | chOffset c | chCoupling c | chBwl c | chInvert c => cases c <;> rfl
  | _ => rfl

theorem allFields_ascending : allFields.Pairwise (fun a b => fieldId a < fieldId b) := by decide

/-- The first field of the catalogue with a property is the one of lowest ID. -/
theorem find?_allFields (p : Field → Bool) (f : Field) :
    allFields.find? p = some f ↔ p f = true ∧ ∀ g, p g = true → fieldId f ≤ fieldId g := by
  rw [List.find?_eq_some_iff_append]
  refine and_congr_right fun hf => ⟨?_, fun h => ?_⟩
  · rintro ⟨before, after, he, hb⟩ g hg
    have hp := allFields_ascending
    rw [he, List.pairwise_append] at hp
    have hm : g ∈ before ++ f :: after := he ▸ mem_allFields g
    rcases List.mem_append.1 hm with hm | hm
    · exact absurd hg (by simpa using hb g hm)
    · rcases List.mem_cons.1 hm with rfl | hm
      · exact Nat.le_refl _
      · exact Nat.le_of_lt (List.rel_of_pairwise_cons hp.2.1 hm)
  · obtain ⟨before, after, he⟩ := List.append_of_mem (mem_allFields f)
    refine ⟨before, after, he, fun a ha => ?_⟩
    have hp := allFields_ascending
    rw [he, List.pairwise_append] at hp
    have hlt := hp.2.2 a ha f (List.mem_cons_self ..)
    cases hpa : p a with
    | false => rfl
    | true => exact absurd (h a hpa) (Nat.not_le.2 hlt)

/-! ### SETUP.GET and SETUP.CHANGES -/

theorem fieldsOf_map_fieldByte (fs : List Field) : fieldsOf (fs.map fieldByte) = some fs := by
  induction fs with
  | nil => rfl
  | cons f rest ih => rw [List.map_cons, fieldsOf, fieldOfId_fieldByte, ih]

/-- One ID that names no field spoils the list. -/
theorem fieldsOf_none {ids : List Byte} (h : ∃ b ∈ ids, fieldOfId b.toNat = none) : fieldsOf ids = none := by
  induction ids with
  | nil => simp at h
  | cons b rest ih =>
    rw [fieldsOf]
    cases hb : fieldOfId b.toNat with
    | none => rfl
    | some f =>
      obtain ⟨x, hx, hn⟩ := h
      rcases List.mem_cons.1 hx with rfl | hx
      · rw [hb] at hn; cases hn
      · rw [ih ⟨x, hx, hn⟩]

theorem suitsSetupGet_of_length {ids : List Byte} (h1 : 1 ≤ ids.length) (h2 : ids.length ≤ 44) : suitsSetupGet ids = true := by
  simp [suitsSetupGet, h1, h2]

/-- A taking link hands SETUP.GET of 1 to 44 IDs to its owner. -/
theorem exec_setupGet_taking {l : Link} {s : State} (tag : Byte) {ids : List Byte} (h : taking l s) (h1 : 1 ≤ ids.length)
    (h2 : ids.length ≤ 44) :
    exec (.setupGet l tag ids) s = .next (ownSetupGet l ids (working l tag 0x10#8 s)) := by
  have he : exec (.setupGet l tag ids) s =
      takeRequest l tag 0x10#8 (suitsSetupGet ids) (fun t => .next (ownSetupGet l ids t)) s := rfl
  rw [he, suitsSetupGet_of_length h1 h2, takeRequest_taking tag _ _ h (by intro hk; cases hk)]

theorem mem_changedSince (b : SetupBlock) (g : Word) (f : Field) :
    f ∈ changedSince b g ↔ atOrAbove g b.gen = false ∧ newer b.changed[fieldIndex f] g = true := by
  unfold changedSince
  cases atOrAbove g b.gen <;> simp [mem_allFields]

theorem changedSince_ascending (b : SetupBlock) (g : Word) :
    (changedSince b g).Pairwise (fun a b => fieldId a < fieldId b) := by
  unfold changedSince; split
  · exact List.Pairwise.nil
  · exact allFields_ascending.sublist List.filter_sublist

/-- Settles O9: whether every ID names a field decides SETUP.GET; SETUP.CHANGES filters the catalogue. -/
theorem setupGetAndChangesRead : Obligations.SetupGetAndChangesRead := by
  intro l tag g s h
  refine ⟨fun fs h1 h2 => ?get, fun ids h1 h2 hn => ?strange,
    changedSince s.setup g, ?changes, changedSince_ascending _ g, mem_changedSince _ g⟩
  case get =>
    rw [exec_setupGet_taking tag h (by simpa using h1) (by simpa using h2), ownSetupGet, fieldsOf_map_fieldByte]
    exact congrArg Host.Outcome.next (answer_working ..)
  case strange =>
    rw [exec_setupGet_taking tag h h1 h2, ownSetupGet, fieldsOf_none hn]
    exact congrArg Host.Outcome.next (answer_working ..)
  case changes =>
    exact (request_taking tag _ h rfl).trans (congrArg Host.Outcome.next (answer_working ..))

/-! ### The offence that a commit names (R10, R3) -/

theorem asked_eq (live : Setup) (req : List (Field × Int)) (f : Field) :
    asked live req f = (requested req f).getD (live.get f) := rfl

/-- With every field requested once, a field's requested value is that of its pair. -/
theorem requested_eq_some {req : List (Field × Int)} (h : (req.map Prod.fst).Nodup) (f : Field) (v : Int) :
    requested req f = some v ↔ (f, v) ∈ req := by
  induction req with
  | nil => simp [requested]
  | cons p rest ih =>
    obtain ⟨g, w⟩ := p
    rw [List.map_cons, List.nodup_cons] at h
    obtain ⟨hg, hrest⟩ := h
    by_cases hf : g = f
    · subst hf
      have hno : ∀ x, (g, x) ∉ rest := fun x hx => hg (List.mem_map.2 ⟨_, hx, rfl⟩)
      simp [requested, hno, eq_comm]
    · have hr : requested ((g, w) :: rest) f = requested rest f := by simp [requested, hf]
      rw [hr, ih hrest]
      simp [Ne.symm hf]

theorem offends_iff {live : Setup} {req : List (Field × Int)} (h : (req.map Prod.fst).Nodup) (f : Field) :
    offends live req f = true ↔ offending live req f := by
  have first : (match requested req f, handling f with
      | some v, .enum set => !set.contains v
      | _, _ => false) = true ↔ ∃ v set, (f, v) ∈ req ∧ handling f = .enum set ∧ v ∉ set := by
    simp only [← requested_eq_some h]
    cases requested req f with
    | none => simp
    | some v => cases handling f <;> simp
  have second : (f == .trigSlope && !(legalSlopes ((requested req .trigType).getD (live.get .trigType))).contains
      ((requested req .trigSlope).getD (live.get .trigSlope))) = true ↔
      f = .trigSlope ∧ asked live req .trigSlope ∉ (if asked live req .trigType = 0 then [0, 1, 2] else [3, 4] : List Int) := by
    rw [← asked_eq, ← asked_eq, Bool.and_eq_true, beq_iff_eq, Bool.not_eq_true', ← Bool.not_eq_true, List.contains_iff_mem]
    rfl
  rw [offends, Bool.or_eq_true, second]
  exact or_congr_left first

theorem judge_invalid_iff (live : Setup) (w : Option Int) (req : List (Field × Int)) (f : Field) :
    judge live w req = .invalid f ↔ firstOffence live req = some f := by
  unfold judge
  cases firstOffence live req with
  | some g => simp
  | none => dsimp only; split <;> simp

theorem judge_constraint_iff (live : Setup) (w : Option Int) (req : List (Field × Int)) :
    judge live w req = .constraint ↔
      firstOffence live req = none ∧ enabledChans (adjustAll (buildCandidate live w req)) = [] := by
  unfold judge
  cases firstOffence live req with
  | some g => simp
  | none => dsimp only; split <;> simp [*]

/-- The candidate of step 3 holds an enumerated value as it is asked for. -/
theorem buildCandidate_enum (live : Setup) (w : Option Int) (req : List (Field × Int)) {f : Field} {set : List Int}
    (h : handling f = .enum set) : (buildCandidate live w req).get f = asked live req f := by
  rw [buildCandidate_get, asked_eq]
  cases requested req f with
  | none => rfl
  | some v => simp [clampValue_enum w h]

/-- Settles O10: the first offence of the catalogue is that of lowest ID, and no adjustment turns a channel on or off. -/
theorem commitRefusesOffenceOrNoChannel : Obligations.CommitRefusesOffenceOrNoChannel := by
  intro live w req h
  refine ⟨fun f => ?_, ?_⟩
  · rw [judge_invalid_iff, firstOffence, find?_allFields]
    simp only [offends_iff h]
  · rw [judge_constraint_iff, (adjusted_adjustAll _).enabled]
    refine and_congr ?_ ?_
    · simp only [firstOffence, List.find?_eq_none, offends_iff h, mem_allFields, forall_const]
    · simp only [List.eq_nil_iff_forall_not_mem, mem_enabledChans, ne_eq,
        fun c => buildCandidate_enum live w req (f := .chOn c) (set := [0, 1]) rfl]

/-! ### The candidate (R11 to R14) -/

/-- A numeric value of the candidate of step 3 is the one after step 2, or the live one. -/
theorem buildCandidate_clamp (live : Setup) (w : Option Int) (req : List (Field × Int)) {f : Field} {lo hi : Int}
    (h : handling f = .clamp lo hi) : (buildCandidate live w req).get f = builtValue live w req f lo hi := by
  have step : ∀ v, clampValue w f v = stepTwo w f lo hi v := by
    intro v
    by_cases hf : f = .tbScale
    · subst hf
      unfold clampValue
      rw [h]
      cases w with
      | none => rfl
      | some k =>
        have : stepTwo (some k) .tbScale lo hi v = max 0 (min 32 (max (k - 9) (min (k + 9) (max lo (min hi v))))) := by
          simp [stepTwo]
        exact this.symm
    · have plain : stepTwo w f lo hi v = clampInt lo hi v := by
        cases w with
        | none => rfl
        | some k => exact if_neg hf
      unfold clampValue
      rw [h, plain]
      dsimp only
      split
      · exact absurd rfl hf
      · rfl
  rw [buildCandidate_get, builtValue, asked_eq]
  cases hr : requested req f with
  | none =>
    have hn : ¬ ∃ p ∈ req, p.1 = f := fun hp => by
      have := (requested_isSome_iff req f).2 hp
      rw [hr] at this; cases this
    rw [if_neg hn]; rfl
  | some v =>
    rw [if_pos ((requested_isSome_iff req f).1 (by rw [hr]; rfl))]
    exact step v

/-- The channels on in the candidate are listed from the lowest. -/
theorem head_enabledChans {st : Setup} {d : Chan} {rest : List Chan} (h : enabledChans st = d :: rest) :
    st.get (.chOn d) = 1 ∧ ∀ e, st.get (.chOn e) = 1 → chanNumber d ≤ chanNumber e := by
  have ascending : (enabledChans st).Pairwise (fun a b => chanNumber a ≤ chanNumber b) :=
    (by decide : Config.chans.Pairwise (fun a b => chanNumber a ≤ chanNumber b)).sublist List.filter_sublist
  rw [h] at ascending
  refine ⟨mem_enabledChans.1 (h ▸ List.mem_cons_self ..), fun e he => ?_⟩
  have hm : e ∈ d :: rest := h ▸ mem_enabledChans.2 he
  rcases List.mem_cons.1 hm with rfl | hm
  · exact Int.le_refl _
  · exact List.rel_of_pairwise_cons ascending hm

theorem chanNumber_of_chanOfNumber {n : Int} {c : Chan} (h : chanOfNumber n = some c) : n = chanNumber c := by
  unfold chanOfNumber at h
  split at h <;> cases h <;> rfl

/-- The source of the candidate: the one built while its channel is on, else the lowest channel that is. -/
theorem Adjusted.source_cases {b st : Setup} (h : Adjusted b st) (hon : enabledChans st ≠ []) {c : Chan}
    (hc : chanOfNumber (b.get .trigSource) = some c) :
    (st.get (.chOn c) = 1 → st.get .trigSource = chanNumber c) ∧
    (st.get (.chOn c) ≠ 1 → ∃ d, st.get .trigSource = chanNumber d ∧ st.get (.chOn d) = 1 ∧
      ∀ e, st.get (.chOn e) = 1 → chanNumber d ≤ chanNumber e) := by
  have hs : sourceChan b = c := by simp [sourceChan, hc]
  have on : b.get (.chOn c) = st.get (.chOn c) := (h.other _ (by simp) (by simp)).symm
  have hsrc := h.source
  rw [hs, on] at hsrc
  refine ⟨fun h1 => ?_, fun h1 => ?_⟩
  · rw [hsrc, if_pos h1, chanNumber_of_chanOfNumber hc]
  · obtain ⟨d, rest, hd⟩ := List.exists_cons_of_ne_nil hon
    obtain ⟨hd1, hdle⟩ := head_enabledChans hd
    refine ⟨d, ?_, hd1, hdle⟩
    rw [hsrc, if_neg h1, ← h.enabled, hd]
    rfl

/-- The levels of the candidate: within the range of its source, and in WINDOW in order. -/
theorem Adjusted.levels {b st : Setup} (h : Adjusted b st) {c : Chan} (hc : chanOfNumber (st.get .trigSource) = some c) :
    let bottom := -(st.get (.chOffset c)) - 5 * scaleUv (st.get (.chScale c))
    let top := -(st.get (.chOffset c)) + 5 * scaleUv (st.get (.chScale c))
    st.get .trigLevel = clampInt bottom top (b.get .trigLevel) ∧
    st.get .trigUpper = if st.get .trigType = 1 then max (st.get .trigLevel) (clampInt bottom top (b.get .trigUpper))
      else clampInt bottom top (b.get .trigUpper) := by
  have hs : sourceChan st = c := by simp [sourceChan, hc]
  have hr : levelRange st = (-(st.get (.chOffset c)) - 5 * scaleUv (st.get (.chScale c)),
      -(st.get (.chOffset c)) + 5 * scaleUv (st.get (.chScale c))) := by simp only [levelRange, hs]
  have hl := h.level
  have hu := h.upper
  rw [hr] at hl hu
  refine ⟨hl, ?_⟩
  rw [← hl, ← h.other .trigType (by simp) (by simp)] at hu
  rw [hu]
  by_cases ht : st.get .trigType = 1
  · simp only [ht, true_and, if_true]
    split <;> omega
  · simp [ht]

/-- The depth of the candidate: the largest up to the one built that fits. -/
theorem Adjusted.depth_largest {b st : Setup} (h : Adjusted b st) (h0 : 0 ≤ b.get .acqDepth) :
    0 ≤ st.get .acqDepth ∧ st.get .acqDepth ≤ b.get .acqDepth ∧
    1024 * 4 ^ (st.get .acqDepth).toNat * (enabledChans st).length ≤ 33554432 ∧
    ∀ e, st.get .acqDepth < e → e ≤ b.get .acqDepth → ¬ 1024 * 4 ^ e.toNat * (enabledChans st).length ≤ 33554432 := by
  have hle := fitDepth_le (enabledChans st).length (b.get .acqDepth).toNat
  have hd := h.depth
  refine ⟨by omega, by omega, ?_, fun e h1 h2 hf => ?_⟩
  · rw [hd, Int.toNat_natCast]
    exact fitDepth_fits (enabledChans_length_le st) _
  · have := fitDepth_max (c := (enabledChans st).length) (d := (b.get .acqDepth).toNat) (e := e.toNat) (by omega) (by omega)
    exact absurd hf (Nat.not_le.2 this)

/-- Settles O11: `Adjusted` says what step 4 makes of each field that step 3 built. -/
theorem commitBuildsAdjustedCandidate : Obligations.CommitBuildsAdjustedCandidate := by
  intro live w req st hl hreq hj
  obtain ⟨ho, rfl, hne⟩ := judge_candidate hj
  have h := adjusted_adjustAll (buildCandidate live w req)
  generalize adjustAll (buildCandidate live w req) = st at h hne
  have clamp : ∀ {f lo hi}, handling f = .clamp lo hi →
      builtValue live w req f lo hi = (buildCandidate live w req).get f := fun hh => (buildCandidate_clamp live w req hh).symm
  refine ⟨fun f set hh hf => ?_, fun f lo hi hh hoff hf => ?_, fun c => ?_, fun c hc => ?_, fun c hc => ?_, ?_, ?_⟩
  · rw [← buildCandidate_enum live w req hh]
    have ne : ∀ {g lo hi}, handling g = .clamp lo hi → f ≠ g := fun hg he => by rw [he, hg] at hh; cases hh
    refine h.other f (fun c => ne rfl) ?_
    simp only [List.mem_cons, List.not_mem_nil, or_false, not_or]
    exact ⟨hf, ne rfl, ne rfl, ne rfl, ne rfl⟩
  · rw [clamp hh]
    refine h.other f hoff ?_
    rw [List.mem_cons, not_or]
    exact ⟨(fun he => by rw [he] at hh; cases hh), hf⟩
  · rw [clamp rfl]; exact h.offset c
  · exact h.source_cases hne (by rwa [buildCandidate_enum live w req rfl])
  · rw [clamp rfl, clamp rfl]; exact h.levels hc
  · have hb := buildCandidate_inCatalogue w ho (f := .acqDepth) fun _ => inCatalogue_of_legal hl _
    have h0 : 0 ≤ (buildCandidate live w req).get .acqDepth := by
      simp only [inCatalogue, handling, Bool.and_eq_true, decide_eq_true_eq] at hb
      exact hb.1
    rw [clamp rfl]; exact h.depth_largest h0
  · rw [clamp rfl]; exact h.segments

end Sys2Proof.Machine
end

section
/-! PROOFS. Finding records (R110, R111, R116): the COMPLETE records by their slots, the newest and the oldest of them. -/

namespace Sys2Proof.Machine

/-- The records listed are the COMPLETE ones, each with its slot. -/
theorem mem_completeFrom {slots : List Slot} {n k : Nat} {h : Header} :
    (k, h) ∈ completeFrom n slots ↔ n ≤ k ∧ slots[k - n]? = some (.complete h) := by
  induction slots generalizing n with
  | nil => simp [completeFrom]
  | cons sl rest ih =>
    have next : (k, h) ∈ completeFrom (n + 1) rest ↔ n + 1 ≤ k ∧ (sl :: rest)[k - n]? = some (.complete h) := by
      rw [ih]
      refine and_congr_right fun hk => ?_
      rw [show k - n = (k - (n + 1)) + 1 by omega, List.getElem?_cons_succ]
    have split : (n ≤ k ∧ (sl :: rest)[k - n]? = some (.complete h)) ↔
        (k = n ∧ sl = .complete h) ∨ (n + 1 ≤ k ∧ (sl :: rest)[k - n]? = some (.complete h)) := by
      by_cases hk : k = n
      · subst hk; simp
      · simp only [hk, false_and, false_or]
        exact and_congr_left fun _ => by omega
    rw [split, ← next]
    cases sl with
    | complete x => simp [completeFrom, eq_comm]
    | free | filling => simp [completeFrom]

theorem mem_completes {slots : List Slot} {k : Nat} {h : Header} :
    (k, h) ∈ completes slots ↔ slots[k]? = some (.complete h) := by
  simp [completes, mem_completeFrom]

/-- With no COMPLETE record none is listed. -/
theorem completes_eq_nil {slots : List Slot} : completes slots = [] ↔ ∀ sl ∈ slots, ∀ h, sl ≠ .complete h := by
  rw [List.eq_nil_iff_forall_not_mem]
  refine ⟨fun hn sl hs h he => ?_, fun hn ⟨k, h⟩ hm => ?_⟩
  · obtain ⟨k, hk⟩ := List.mem_iff_getElem?.1 hs
    exact hn (k, h) (mem_completes.2 (he ▸ hk))
  · exact hn _ (List.mem_of_getElem? (mem_completes.1 hm)) h rfl

theorem newest_mem {l : List (Nat × Header)} {x : Nat × Header} (h : newest l = some x) : x ∈ l := by
  induction l generalizing x with
  | nil => cases h
  | cons y rest ih =>
    unfold newest at h
    split at h
    · cases h; exact List.mem_cons_self ..
    next z hz =>
      split at h <;> cases h
      · exact List.mem_cons_of_mem _ (ih hz)
      · exact List.mem_cons_self ..

theorem oldest_mem {l : List (Nat × Header)} {x : Nat × Header} (h : oldest l = some x) : x ∈ l := by
  induction l generalizing x with
  | nil => cases h
  | cons y rest ih =>
    unfold oldest at h
    split at h
    · cases h; exact List.mem_cons_self ..
    next z hz =>
      split at h <;> cases h
      · exact List.mem_cons_of_mem _ (ih hz)
      · exact List.mem_cons_self ..

theorem newest_eq_none {l : List (Nat × Header)} : newest l = none ↔ l = [] := by
  cases l with
  | nil => simp [newest]
  | cons y rest =>
    unfold newest
    split
    · simp
    · split <;> simp

theorem oldest_eq_none {l : List (Nat × Header)} : oldest l = none ↔ l = [] := by
  cases l with
  | nil => simp [oldest]
  | cons y rest =>
    unfold oldest
    split
    · simp
    · split <;> simp

/-- A record newer than every other one is the newest of the list. -/
theorem newest_eq {l : List (Nat × Header)} {x : Nat × Header} (hx : x ∈ l)
    (hn : ∀ y ∈ l, y ≠ x → newer x.2.number y.2.number = true) : newest l = some x := by
  induction l with
  | nil => cases hx
  | cons y rest ih =>
    have hrest : ∀ z ∈ rest, z ≠ x → newer x.2.number z.2.number = true := fun z hz => hn z (List.mem_cons_of_mem _ hz)
    unfold newest
    by_cases hxr : x ∈ rest
    · rw [ih hxr hrest]
      dsimp only
      by_cases hy : y = x
      · subst hy; split <;> rfl
      · rw [if_pos (hn y (List.mem_cons_self ..) hy)]
    · obtain rfl : x = y := (List.mem_cons.1 hx).resolve_right hxr
      cases hr : newest rest with
      | none => rfl
      | some z =>
        have hz := newest_mem hr
        have hne : z ≠ x := fun he => hxr (he ▸ hz)
        dsimp only
        rw [if_neg]
        simp [newer_asymm (hrest z hz hne)]

/-- A record that every other one is newer than is the oldest of the list. -/
theorem oldest_eq {l : List (Nat × Header)} {x : Nat × Header} (hx : x ∈ l)
    (hn : ∀ y ∈ l, y ≠ x → newer y.2.number x.2.number = true) : oldest l = some x := by
  induction l with
  | nil => cases hx
  | cons y rest ih =>
    have hrest : ∀ z ∈ rest, z ≠ x → newer z.2.number x.2.number = true := fun z hz => hn z (List.mem_cons_of_mem _ hz)
    unfold oldest
    by_cases hxr : x ∈ rest
    · rw [ih hxr hrest]
      dsimp only
      by_cases hy : y = x
      · subst hy; split <;> rfl
      · rw [if_pos (hn y (List.mem_cons_self ..) hy)]
    · obtain rfl : x = y := (List.mem_cons.1 hx).resolve_right hxr
      cases hr : oldest rest with
      | none => rfl
      | some z =>
        have hz := oldest_mem hr
        have hne : z ≠ x := fun he => hxr (he ▸ hz)
        dsimp only
        rw [if_neg]
        simp [newer_asymm (hrest z hz hne)]

/-- A pair of the list of another slot than k is another record. -/
theorem complete_ne {slots : List Slot} {k : Nat} {h : Header} {y : Nat × Header} (hk : slots[k]? = some (.complete h))
    (hy : y ∈ completes slots) (hne : y ≠ (k, h)) : y.1 ≠ k ∧ slots[y.1]? = some (.complete y.2) := by
  have hs : slots[y.1]? = some (.complete y.2) := mem_completes.1 hy
  refine ⟨fun he => hne ?_, hs⟩
  rw [he, hk] at hs
  cases hs
  exact Prod.ext he rfl

/-- The newest COMPLETE record, where one is newer than every other. -/
theorem newestComplete_eq {s : State} {k : Nat} {h : Header} (hn : newestOf k h s.store.slots) :
    newestComplete s = some (k, h) := by
  obtain ⟨hk, hall⟩ := hn
  refine newest_eq (mem_completes.2 hk) fun y hy hne => ?_
  obtain ⟨h1, h2⟩ := complete_ne hk hy hne
  exact hall y.1 y.2 h1 h2

theorem newestComplete_none {s : State} (h : ∀ sl ∈ s.store.slots, ∀ h, sl ≠ .complete h) : newestComplete s = none := by
  rw [newestComplete, completes_eq_nil.2 h]; rfl

end Sys2Proof.Machine
end

section
/-! PROOFS. What an installing commit leaves (R4, R16, R24 to R27), and the commits of the links: SETUP.SET, SETUP.DEFAULT and
BATCH.COMMIT (R17 to R20). -/

namespace Sys2Proof.Machine

/-! ### The installation -/

/-- A field is listed as changed just when its values differ. -/
theorem mem_changedFields {old new : Setup} {f : Field} : f ∈ changedFields old new ↔ old.get f ≠ new.get f := by
  simp [changedFields, mem_allFields]

/-- The fields listed get the generation, the others keep theirs. -/
theorem stampChanged_get (changed : Vector Word 44) (gen : Word) (fs : List Field) (f : Field) :
    (stampChanged changed gen fs)[fieldIndex f] = if f ∈ fs then gen else changed[fieldIndex f] := by
  induction fs generalizing changed with
  | nil => rfl
  | cons g rest ih =>
    have hs : stampChanged changed gen (g :: rest) = stampChanged (changed.set (fieldIndex g) gen) gen rest := rfl
    rw [hs, ih]
    by_cases hr : f ∈ rest
    · simp [hr]
    · by_cases hg : f = g
      · subst hg; simp [hr]
      · have hne : (fieldIndex g).val ≠ (fieldIndex f).val := fun he => hg (fieldIndex_inj (Fin.ext he.symm))
        simp [hr, hg, Vector.getElem_set_ne _ _ hne]

theorem installSetup_changed (st : Setup) (s : State) (f : Field) :
    (installSetup st s).setup.changed[fieldIndex f] =
      if st.get f = s.setup.live.get f then s.setup.changed[fieldIndex f] else s.setup.gen + 1#32 := by
  have h : (installSetup st s).setup.changed =
      stampChanged s.setup.changed (s.setup.gen + 1#32) (changedFields s.setup.live st) := rfl
  rw [h, stampChanged_get]
  simp only [mem_changedFields]
  by_cases he : st.get f = s.setup.live.get f
  · rw [if_pos he, if_neg (by simp [he])]
  · rw [if_neg he, if_pos (Ne.symm he)]

/-- The front-end outputs present the new setup, where they presented the old one. -/
theorem installSetup_outputs (st : Setup) {s : State} (h : s.setup.outputs = some (presentOutputs s.setup.live)) :
    (installSetup st s).setup.outputs = some (presentOutputs st) := by
  have ho : (installSetup st s).setup.outputs =
      if (changedFields s.setup.live st).any frontEndField then s.setup.outputs.map (fun _ => presentOutputs st)
      else s.setup.outputs := rfl
  rw [ho, h]
  split
  · rfl
  next hc =>
    have same : ∀ f, frontEndField f = true → s.setup.live.get f = st.get f := by
      intro f hf
      by_contra hne
      exact hc (List.any_eq_true.2 ⟨f, mem_changedFields.2 hne, hf⟩)
    rw [presentOutputs, presentOutputs]
    simp only [same _ (show frontEndField (.chOn _) = true from rfl), same _ (show frontEndField (.chScale _) = true from rfl),
      same _ (show frontEndField (.chOffset _) = true from rfl), same _ (show frontEndField (.chCoupling _) = true from rfl),
      same _ (show frontEndField (.chBwl _) = true from rfl)]

/-! ### The links that are told -/

/-- The links that a source's commit notifies (R25). -/
def told : Source → List Link
  | .link l => [otherLink l]
  | .store (some l) => [otherLink l]
  | _ => [.console, .remote]

theorem notifySource_frame (src : Source) (s : State) : notifySource src s = s.withLinks (notifySource src s).links := by
  unfold notifySource; split <;> rfl

theorem notify_notices (l m : Link) (n : Notice) (s : State) :
    ((notify l n s).links.get m).notices =
      if m = l then (s.links.get m).notices ||| noticeMask n else (s.links.get m).notices := by
  cases l <;> cases m <;> rfl

theorem notifySource_notices (src : Source) (s : State) (m : Link) :
    ((notifySource src s).links.get m).notices =
      if m ∈ told src then (s.links.get m).notices ||| noticeMask .setupChanged else (s.links.get m).notices := by
  have both : ((notifyBoth .setupChanged s).links.get m).notices = (s.links.get m).notices ||| noticeMask .setupChanged := by
    cases m <;> rfl
  have one : ∀ l : Link, ((notify l .setupChanged s).links.get m).notices =
      if m ∈ [l] then (s.links.get m).notices ||| noticeMask .setupChanged else (s.links.get m).notices := by
    intro l; rw [notify_notices]; simp
  have all : m ∈ [Link.console, .remote] := by cases m <;> simp
  cases src with
  | link l => exact one _
  | store r =>
    cases r with
    | some l => exact one _
    | none => exact both.trans (if_pos all).symm
  | panel => exact both.trans (if_pos all).symm
  | system => exact both.trans (if_pos all).symm

theorem routeStreams_frame (old new : Setup) (s : State) : ∃ f, routeStreams old new s = setFront f s := by
  unfold routeStreams; split
  · exact ⟨s.seq.front, rfl⟩
  · exact ⟨_, rfl⟩

/-! ### An installed commit -/

/-- The state as the receivers of a commit find it. -/
def handedOn (src : Source) (new : Setup) (s : State) : State :=
  evalLeds (notifySource src (routeStreams s.setup.live new (installSetup new s)))

theorem installAndHandOn_eq (src : Source) (new : Setup) (s : State) :
    installAndHandOn src new s =
      takeAll (reactions s.setup.live new (s.setup.gen + 1#32) (decide (s.seq.run = .stopped))) (handedOn src new s) := rfl

/-- What the receivers find: the setup installed, the links told, the LEDs evaluated, the streams routed. -/
theorem handedOn_eq (src : Source) (new : Setup) (s : State) : ∃ lit front, handedOn src new s =
    (((s.withSetup (installSetup new s).setup).withSeq { s.seq with front := front }).withLinks
      (notifySource src s).links).withRouter { s.router with lit := lit } := by
  obtain ⟨f, hf⟩ := routeStreams_frame s.setup.live new (installSetup new s)
  obtain ⟨lit, hl⟩ := evalLeds_eq (notifySource src (routeStreams s.setup.live new (installSetup new s)))
  refine ⟨lit, f, ?_⟩
  have links : (notifySource src (setFront f (installSetup new s))).links = (notifySource src s).links := by
    unfold notifySource; split <;> rfl
  rw [handedOn, hl, hf, notifySource_frame, links]
  rfl

/-- Commits of any source that are installed while Power Control asks for nothing. -/
theorem installed_handOn (src : Source) (st : Setup) {s : State} (hs : s.seq.standbyStop = false) :
    installed (told src) st s (installAndHandOn src st s) := by
  obtain ⟨lit, front, hu⟩ := handedOn_eq src st s
  have hstop : (handedOn src st s).seq.standbyStop = false := by rw [hu]; exact hs
  have ha : aside (installAndHandOn src st s) = aside (handedOn src st s) := aside_reactions _ _ _ _ hstop
  have hk : kept (installAndHandOn src st s) = kept (handedOn src st s) := kept_takeAll_reactions _ _ _ _ _
  have hsetup : (installAndHandOn src st s).setup = (installSetup st s).setup := by rw [aside_setup ha, hu]; rfl
  have hnotice : ∀ m, ((installAndHandOn src st s).links.get m).notices &&& noticeMask .setupChanged =
      ((notifySource src s).links.get m).notices &&& noticeMask .setupChanged := by
    intro m; rw [aside_notice ha m (by decide), hu]; rfl
  have hpower : (installAndHandOn src st s).power = s.power := by rw [aside_power ha, hu]; rfl
  have hrouter : (installAndHandOn src st s).router = { s.router with lit := (installAndHandOn src st s).router.lit } := by
    have hr := aside_router ha
    rw [hu] at hr
    exact hr
  have hleds : ledsFollow (installAndHandOn src st s) := by
    refine (settles_takeAll _ ?_ _).leds (evalLeds_follows _)
    intro act hact t
    rcases mem_reactions hact with rfl | rfl | rfl | rfl
    · exact (settles_captureChange _ t).toKeeps
    · exact (settles_layoutChange t).toKeeps
    · exact (settles_reevaluate t).toKeeps
    · exact keeps_redrawRequest t
  refine ⟨by rw [hsetup]; rfl, by rw [hsetup]; rfl, fun f => by rw [hsetup]; exact installSetup_changed st s f,
    by rw [hsetup]; rfl, fun ho => ?_, fun l hl => ?_, fun l hl => ?_, fun hup i => hleds (hpower ▸ hup) i, ?_, ?_, ?_, ?_,
    hrouter, ?_, hpower⟩
  · rw [hsetup, installSetup_outputs st ho]
    rfl
  · rw [hnotice, notifySource_notices, if_pos hl]
    have bits : ∀ x : BitVec 7, (x ||| noticeMask .setupChanged) &&& noticeMask .setupChanged ≠ 0#7 := by decide
    exact bits _
  · rw [hnotice, notifySource_notices, if_neg hl]
  · rw [aside_queues ha, hu]; rfl
  · exact (congrArg Kept.mem hk).trans (by rw [hu]; rfl)
  · rw [aside_disp ha, hu]; rfl
  · rw [aside_disp ha, hu]; rfl
  · rw [aside_saved ha, hu]; rfl

/-- Links are kept by the receivers of a commit but for their notices. -/
theorem installAndHandOn_linksKept (src : Source) (st : Setup) {s : State} (hs : s.seq.standbyStop = false) :
    linksKept s (installAndHandOn src st s) := by
  obtain ⟨lit, front, hu⟩ := handedOn_eq src st s
  have hstop : (handedOn src st s).seq.standbyStop = false := by rw [hu]; exact hs
  have ha : aside (installAndHandOn src st s) = aside (handedOn src st s) := aside_reactions _ _ _ _ hstop
  intro m
  rw [aside_linksKept ha m, hu]
  have hn : (notifySource src s).links.get m =
      { s.links.get m with notices := ((notifySource src s).links.get m).notices } := by
    unfold notifySource
    split
    · next l => cases l <;> cases m <;> rfl
    · next l => cases l <;> cases m <;> rfl
    all_goals cases m <;> rfl
  dsimp only [State.withRouter_links, State.withLinks_links]
  rw [hn]

/-- The batches are no part of a commit. -/
theorem installAndHandOn_batches (src : Source) (st : Setup) (s : State) :
    (installAndHandOn src st s).setup.batches = s.setup.batches :=
  congrArg Kept.batches (kept_installAndHandOn src st s)

end Sys2Proof.Machine
end

section
/-! PROOFS. The commits of the links: SETUP.SET and SETUP.DEFAULT (R20), and the batches (R17 to R19). -/

namespace Sys2Proof.Machine

/-! ### The gate and the flags -/

theorem gated_eq_false {l : Link} {s : State} : gated l s = false ↔ permitted l s := by
  unfold gated permitted
  cases l <;> cases s.router.lockout <;> decide

theorem gated_eq_true {l : Link} {s : State} : gated l s = true ↔ ¬ permitted l s := by
  rw [← gated_eq_false, Bool.not_eq_false]

theorem clampedFlag_eq (req : List (Field × Int)) (st : Setup) :
    clampedFlag req st = decide (∃ p ∈ req, st.get p.1 ≠ p.2) := by
  rw [Bool.eq_iff_iff]
  simp [clampedFlag]

theorem adjustedFlag_eq (req : List (Field × Int)) (live st : Setup) :
    adjustedFlag req live st = decide (∃ f ∈ allFields, (∀ p ∈ req, p.1 ≠ f) ∧ st.get f ≠ live.get f) := by
  rw [Bool.eq_iff_iff]
  simp [adjustedFlag]

/-! ### A commit while the link's request is in work -/

/-- The commit of a link past the gate and the guard, answered with its outcome. -/
def answerCommit (l : Link) (req : List (Field × Int)) (s : State) : State :=
  answer l (commitAnswer (commit (.link l) req s).2).1 (commitAnswer (commit (.link l) req s).2).2 (commit (.link l) req s).1

theorem linkCommit_gated {l : Link} {s : State} (req : List (Field × Int)) (h : gated l s = true) :
    linkCommit l req s = answer l .locked .nothing s := by simp [linkCommit, h]

theorem linkCommit_open {l : Link} {s : State} (req : List (Field × Int)) (h : gated l s = false) :
    linkCommit l req s = answerCommit l req s := by simp [linkCommit, h, answerCommit]

theorem working_notices (l : Link) (tag kind : Byte) (s : State) (m : Link) :
    ((working l tag kind s).links.get m).notices = (s.links.get m).notices := by
  cases l <;> cases m <;> rfl

theorem answer_notices (l : Link) (status : Status) (p : Payload) (s : State) (m : Link) :
    ((answer l status p s).links.get m).notices = (s.links.get m).notices := by
  cases l <;> cases m <;> rfl

/-- An installation seen from before the link's request was in work, and after its answer. -/
theorem installed_answer {links : List Link} {st : Setup} {l : Link} {tag kind : Byte} {s t : State} (status : Status)
    (p : Payload) (h : installed links st (working l tag kind s) t) : installed links st s (answer l status p t) := by
  obtain ⟨h1, h2, h3, h4, h5, htold, hnot, hlit, h6, h7, h8, h9, h10, h11, h12⟩ := h
  refine ⟨h1, h2, h3, h4, h5, fun m hm => ?_, fun m hm => ?_, hlit, h6, h7, h8, h9, h10, h11, h12⟩
  · rw [answer_notices]; exact htold m hm
  · rw [answer_notices, hnot m hm, working_notices]

/-- The link whose request is in work holds the answer placed. -/
theorem answered_answer {l : Link} {tag kind : Byte} {t : State} (status : Status) (p : Payload)
    (h : (t.links.get l).inWork = some (tag, kind)) : answered l tag status p (answer l status p t) := by
  simp [answered, answer, setLink, h]

section
variable {l : Link} {tag kind : Byte} {s : State} {req : List (Field × Int)}

theorem answerCommit_invalid {g : Field} (h : judge s.setup.live (timebaseWindow s) req = .invalid g) :
    answerCommit l req (working l tag kind s) = replied l tag .invalid (.offending g) s := by
  have hc : commit (.link l) req (working l tag kind s) = (working l tag kind s, .invalid g) := by
    unfold commit
    rw [show judge (working l tag kind s).setup.live (timebaseWindow (working l tag kind s)) req = .invalid g from h]
  rw [answerCommit, hc]
  exact answer_working ..

theorem answerCommit_constraint (h : judge s.setup.live (timebaseWindow s) req = .constraint) :
    answerCommit l req (working l tag kind s) = replied l tag .constraint .nothing s := by
  have hc : commit (.link l) req (working l tag kind s) = (working l tag kind s, .constraint) := by
    unfold commit
    rw [show judge (working l tag kind s).setup.live (timebaseWindow (working l tag kind s)) req = .constraint from h]
  rw [answerCommit, hc]
  exact answer_working ..

theorem answerCommit_unchanged {st : Setup} (h : judge s.setup.live (timebaseWindow s) req = .candidate st)
    (he : st = s.setup.live) : answerCommit l req (working l tag kind s) =
      replied l tag .unchanged (.installed s.setup.gen (decide (∃ p ∈ req, st.get p.1 ≠ p.2))) s := by
  have hc : commit (.link l) req (working l tag kind s) =
      (working l tag kind s, .unchanged s.setup.gen (clampedFlag req st)) := by
    unfold commit
    rw [show judge (working l tag kind s).setup.live (timebaseWindow (working l tag kind s)) req = .candidate st from h]
    exact if_pos he
  rw [answerCommit, hc, clampedFlag_eq]
  exact answer_working ..

/-- What an installing commit of a link does to the state that its request found. -/
theorem commit_candidate {src : Source} {u : State} {st : Setup} (h : judge u.setup.live (timebaseWindow u) req = .candidate st)
    (he : st ≠ u.setup.live) : commit src req u = (installAndHandOn src st u, .applied (u.setup.gen + 1#32)
      (clampedFlag req st) (adjustedFlag req u.setup.live st)) := by
  unfold commit
  rw [h]
  exact if_neg he

theorem answerCommit_installs {st : Setup} (hs : s.seq.standbyStop = false)
    (h : judge s.setup.live (timebaseWindow s) req = .candidate st) (he : st ≠ s.setup.live) :
    installedBy l tag req st s (answerCommit l req (working l tag kind s)) ∧
    (answerCommit l req (working l tag kind s)).setup.batches = s.setup.batches := by
  have hc := commit_candidate (src := .link l) (u := working l tag kind s) h he
  rw [answerCommit, hc]
  refine ⟨⟨installed_answer _ _ (installed_handOn (.link l) st hs), ?_⟩, installAndHandOn_batches ..⟩
  rw [← clampedFlag_eq, ← adjustedFlag_eq]
  refine answered_answer (kind := kind) _ _ ?_
  rw [installAndHandOn_linksKept (.link l) st (s := working l tag kind s) hs l]
  simp [working]

end

/-! ### SETUP.SET and SETUP.DEFAULT -/

/-- The factory setup is what a commit of all its values builds and adjusts to. -/
theorem judge_factory (live : Setup) : judge live none (setupRequest factorySetup) = .candidate factorySetup := by
  have kept : ∀ f ∈ allFields, clampValue none f (factorySetup.get f) = factorySetup.get f := by decide
  have built : buildCandidate live none (setupRequest factorySetup) = factorySetup :=
    Setup.ext_get fun f => by
      rw [buildCandidate_get, requested_setupRequest]
      exact kept f (mem_allFields f)
  have legal : ∀ f, offends live (setupRequest factorySetup) f = false := by
    have set : ∀ f ∈ allFields, (match handling f with
        | .enum set => !set.contains (factorySetup.get f)
        | _ => false) = false := by decide
    intro f
    have hf := set f (mem_allFields f)
    unfold offends
    simp only [requested_setupRequest, Option.getD_some]
    rw [Bool.or_eq_false_iff]
    refine ⟨?_, ?_⟩
    · cases hh : handling f with
      | enum set => rw [hh] at hf; exact hf
      | clamp lo hi => rfl
    · have hslope : (legalSlopes (factorySetup.get .trigType)).contains (factorySetup.get .trigSlope) = true := by decide
      rw [hslope]; simp
  have none : firstOffence live (setupRequest factorySetup) = none := by
    simp [firstOffence, List.find?_eq_none, legal]
  have adjusted : adjustAll factorySetup = factorySetup := by decide
  have on : enabledChans factorySetup ≠ [] := by decide
  unfold judge
  rw [none]
  simp only [built, adjusted]
  exact if_neg on

theorem timebaseWindow_running {s : State} (h : s.seq.run ≠ .stopped) : timebaseWindow s = none := if_neg h

/-- A request that commits is its owner's, handed on by a taking link. -/
theorem exec_commits {l : Link} {tag : Byte} {i : Instr} {req : List (Field × Int)} {s : State} (ht : taking l s)
    (h : commits l tag i req) : ∃ kind, exec i s = .next (linkCommit l req (working l tag kind s)) := by
  rcases h with ⟨rfl, rfl⟩ | ⟨id, value, f, hf, rfl, rfl⟩
  · exact ⟨_, request_taking tag _ ht rfl⟩
  · refine ⟨0x12#8, (request_taking tag _ ht rfl).trans ?_⟩
    rw [ownSetupSet, hf]

/-- Settles O12: by the gate, then by the verdict of the commit procedure. -/
theorem setupSetAndDefaultCommit : Obligations.SetupSetAndDefaultCommit := by
  intro l tag s ht hp
  refine ⟨fun id value hid => ?strange, fun hw => ?noWindow, fun k h hrun hn => ?window, fun hrun => ?factory,
    fun i req hc => ?commits⟩
  case strange =>
    refine (request_taking (kind := 0x12#8) tag _ ht rfl).trans ?_
    rw [ownSetupSet, hid, answer_working]
  case noWindow =>
    rcases hw with hw | hw
    · exact timebaseWindow_running hw
    · rw [timebaseWindow, newestComplete_none hw]; simp
  case window => rw [timebaseWindow, if_pos hrun, newestComplete_eq hn]; rfl
  case factory => rw [timebaseWindow_running hrun]; exact judge_factory _
  case commits =>
    obtain ⟨kind, he⟩ := exec_commits ht hc
    rw [he]
    refine ⟨fun hg => ?_, fun hg => ?_⟩
    · rw [linkCommit_gated (s := working l tag kind s) req (gated_eq_true.2 hg), answer_working]
    · rw [linkCommit_open (s := working l tag kind s) req (gated_eq_false.2 hg)]
      refine ⟨fun g hj => by rw [answerCommit_invalid hj], fun hj => by rw [answerCommit_constraint hj],
        fun st hj => ⟨fun hst => by rw [answerCommit_unchanged hj hst], fun hst => ?_⟩⟩
      obtain ⟨h1, h2⟩ := answerCommit_installs (l := l) (tag := tag) (kind := kind) hp.2 hj hst
      exact ⟨_, rfl, h1, h2⟩

/-! ### Batches -/

/-- The stale fields are the staged ones changed since the base. -/
theorem staleFields_eq (b : Batch) (s : State) : staleFields b s =
    allFields.filter (fun f => decide (∃ p ∈ b.staged, p.1 = f) && newer s.setup.changed[fieldIndex f] b.base) := by
  refine List.filter_congr fun f _ => congrArg (· && _) ?_
  rw [Bool.eq_iff_iff, requested_isSome_iff, decide_eq_true_eq]

/-- The form of a BATCH.COMMIT that is neither guarded nor forced is none. -/
theorem guardedForm_strange {b : Byte} (h : 1 < b.toNat) : guardedForm (some b) = none := by
  have h0 : b ≠ 0#8 := by rintro rfl; simp at h
  have h1 : b ≠ 1#8 := by rintro rfl; simp at h
  simp [guardedForm, h0, h1]

theorem guardedForm_eq {guarded : Bool} {form : Option Byte}
    (h : (guarded = true ∧ (form = none ∨ form = some 0#8)) ∨ (guarded = false ∧ form = some 1#8)) :
    guardedForm form = some guarded := by
  rcases h with ⟨rfl, rfl | rfl⟩ | ⟨rfl, rfl⟩ <;> rfl

/-- A link's batch closed. -/
def batchClosed (l : Link) (s : State) : State := s.withSetup { s.setup with batches := s.setup.batches.set l none }

/-- BATCH.COMMIT past the form, the batch and the gate. -/
theorem commitBatch_working (l : Link) (tag kind : Byte) (guarded : Bool) (b : Batch) (s : State) :
    commitBatch l guarded b (working l tag kind s) =
      if guarded && !(staleFields b s).isEmpty then
        replied l tag .stale (.stale s.setup.gen (staleFields b s)) (batchClosed l s)
      else answerCommit l b.staged (working l tag kind (batchClosed l s)) := by
  have hs : answer l .stale (.stale s.setup.gen (staleFields b s)) (setBatch l none (working l tag kind s)) =
      replied l tag .stale (.stale s.setup.gen (staleFields b s)) (batchClosed l s) :=
    answer_setBatch_working ..
  unfold commitBatch
  dsimp only
  rw [show staleFields b (working l tag kind s) = staleFields b s from rfl, working_setup, hs]
  rfl

theorem ownBatchCommit_open {l : Link} {form : Option Byte} {guarded : Bool} {b : Batch} {s : State}
    (hf : guardedForm form = some guarded) (hb : s.setup.batches.get l = some b) :
    ownBatchCommit l form s = if gated l s then answer l .locked .nothing s else commitBatch l guarded b s := by
  simp [ownBatchCommit, hf, hb]

/-- Settles O15: by the form, the batch, the gate and the guard, and then the commit of the staged values. -/
theorem batchOpensCommitsAndDrops : Obligations.BatchOpensCommitsAndDrops := by
  intro l tag form s ht hp
  have commit : exec (.batchCommit l tag form) s = .next (ownBatchCommit l form (working l tag 0x16#8 s)) :=
    request_taking tag _ ht rfl
  rw [commit]
  refine ⟨(request_taking tag _ ht rfl).trans (congrArg Host.Outcome.next (answer_setBatch_working ..)),
    (request_taking tag _ ht rfl).trans (congrArg Host.Outcome.next (answer_setBatch_working ..)), fun ⟨b, hb, h1⟩ => ?strange,
    fun guarded hform => ⟨fun hb => ?closed, fun b stale hb hst => ⟨fun hg => ?gated, fun hg => ?_⟩⟩⟩
  case strange =>
    rw [ownBatchCommit, hb, guardedForm_strange h1]
    exact congrArg Host.Outcome.next (answer_working ..)
  case closed =>
    rw [ownBatchCommit, guardedForm_eq hform, working_setup, hb]
    exact congrArg Host.Outcome.next (answer_working ..)
  case gated =>
    rw [ownBatchCommit_open (s := working l tag 0x16#8 s) (guardedForm_eq hform) hb]
    rw [show gated l (working l tag 0x16#8 s) = true from gated_eq_true.2 hg]
    exact congrArg Host.Outcome.next (answer_working ..)
  rw [← staleFields_eq] at hst
  subst hst
  rw [ownBatchCommit_open (s := working l tag 0x16#8 s) (guardedForm_eq hform) hb, show gated l (working l tag 0x16#8 s) = false from gated_eq_false.2 hg,
    if_neg Bool.false_ne_true, commitBatch_working]
  refine ⟨fun h1 h2 => ?stale, fun hfresh => ?_⟩
  case stale =>
    rw [if_pos (by simp [h1, h2])]
    rfl
  rw [if_neg (by rcases hfresh with h | h <;> simp [h])]
  refine ⟨fun g hj => by rw [answerCommit_invalid (s := batchClosed l s) hj]; rfl,
    fun hj => by rw [answerCommit_constraint (s := batchClosed l s) hj]; rfl,
    fun st hj => ⟨fun hst => by rw [answerCommit_unchanged (s := batchClosed l s) hj hst]; rfl, fun hst => ?_⟩⟩
  obtain ⟨h1, h2⟩ := answerCommit_installs (l := l) (tag := tag) (kind := 0x16#8) (s := batchClosed l s) hp.2 hj hst
  exact ⟨_, rfl, h1, h2⟩

end Sys2Proof.Machine
end

section
/-! PROOFS. Under lockout the console link reaches the live setup by no request (R8, R65). -/

namespace Sys2Proof.Machine

/-- The live setup with its generations. -/
def liveOf (s : State) : Setup × Word × Vector Word 44 := (s.setup.live, s.setup.gen, s.setup.changed)

theorem liveOf_of_kept {s t : State} (h : kept t = kept s) : liveOf t = liveOf s :=
  congrArg (fun k : Kept => (k.live, k.gen, k.changed)) h

@[simp] theorem liveOf_answer (l : Link) (st : Status) (p : Payload) (s : State) : liveOf (answer l st p s) = liveOf s := rfl

@[simp] theorem liveOf_evalLeds (s : State) : liveOf (evalLeds s) = liveOf s := liveOf_of_kept (kept_evalLeds s)

@[simp] theorem liveOf_reevaluate (s : State) : liveOf (reevaluate s) = liveOf s := liveOf_of_kept (kept_reevaluate s)

theorem liveOf_withDisp (s : State) (x : Composer) : liveOf (s.withDisp x) = liveOf s := rfl

theorem liveOf_setOverlay (l : Link) (m : Memory) (s : State) : liveOf (setOverlay l m s) = liveOf s := rfl

/-- The outcome of a command leaves the live setup of s. -/
def KeepsLive (s : State) (r : Result) : Prop := ∀ t, r = .next t → liveOf t = liveOf s

theorem keepsLive_next {s t : State} (h : liveOf t = liveOf s) : KeepsLive s (.next t) := fun _ ht => by cases ht; exact h

/-- A request keeps the live setup when its owner does. -/
theorem keepsLive_takeRequest {l : Link} {tag kind : Byte} {ok : Bool} {owner : State → Result} {s : State}
    (h : ∀ u, u.router.lockout = s.router.lockout → KeepsLive u (owner u)) :
    KeepsLive s (takeRequest l tag kind ok owner s) := by
  unfold takeRequest judgeRequest
  split
  · exact keepsLive_next rfl
  · split
    · exact keepsLive_next rfl
    · split
      · exact keepsLive_next rfl
      · split
        · exact keepsLive_next rfl
        · split
          · exact keepsLive_next rfl
          · exact h (beginRequest l tag kind s) rfl

theorem keepsLive_request {l : Link} {tag kind : Byte} {owner : State → State} {s : State}
    (h : ∀ u, u.router.lockout = s.router.lockout → liveOf (owner u) = liveOf u) :
    KeepsLive s (request l tag kind owner s) :=
  keepsLive_takeRequest fun u hu => keepsLive_next (h u hu)

/-! ### The owners -/

theorem liveOf_ownBatchStage (l : Link) (f : Byte) (v : Word) (s : State) : liveOf (ownBatchStage l f v s) = liveOf s := by
  unfold ownBatchStage; split
  · rfl
  · split
    · rfl
    · split <;> rfl

theorem liveOf_ownPanelQueueConfig (l : Link) (m t x : Byte) (s : State) :
    liveOf (ownPanelQueueConfig l m t x s) = liveOf s := by
  unfold ownPanelQueueConfig; split
  · split <;> rfl
  · rfl

theorem liveOf_ownPanelRouteSet (l : Link) (i : Byte) (e : Option RouteEntry) (s : State) :
    liveOf (ownPanelRouteSet l i e s) = liveOf s := by
  unfold ownPanelRouteSet; split
  · split <;> rfl
  · rfl

theorem liveOf_ownPanelLedSet (l : Link) (n v : Byte) (s : State) : liveOf (ownPanelLedSet l n v s) = liveOf s := by
  unfold ownPanelLedSet; split
  · split
    · rw [liveOf_answer, liveOf_evalLeds]; rfl
    · rfl
  · rfl

theorem liveOf_ownPanelLedConfig (l : Link) (n src op : Byte) (v : Word) (s : State) :
    liveOf (ownPanelLedConfig l n src op v s) = liveOf s := by
  unfold ownPanelLedConfig; split
  · split
    · rw [liveOf_answer, liveOf_evalLeds]; rfl
    · rfl
  · rfl

theorem liveOf_runRequest {l : Link} {st : Status} {act : State → State} {s : State} (h : gated l s = true) :
    liveOf (runRequest l st act s) = liveOf s := by unfold runRequest; rw [if_pos h]; rfl

theorem liveOf_ownRecHeader (l : Link) (n : Word) (f : BitVec 16) (m : Byte) (s : State) :
    liveOf (ownRecHeader l n f m s) = liveOf s := by
  unfold ownRecHeader; split
  · rfl
  · rfl
  · split <;> rfl

theorem keepsLive_ownRecRead (l : Link) (n : Word) (c : Byte) (sg : BitVec 16) (f : Word) (k : BitVec 16) (fmt : Byte)
    (s : State) : KeepsLive s (ownRecRead l n c sg f k fmt s) := by
  unfold ownRecRead; split
  · exact keepsLive_next rfl
  · exact keepsLive_next rfl
  · split
    · exact keepsLive_next rfl
    · split
      · exact keepsLive_next rfl
      · exact fun _ h => by cases h

theorem liveOf_ownRecPin (l : Link) (n : Word) (s : State) : liveOf (ownRecPin l n s) = liveOf s := by
  unfold ownRecPin; split
  · rfl
  · rfl
  · dsimp only; split
    · rfl
    · split <;> rfl

theorem liveOf_ownRecUnpin (l : Link) (n : Word) (s : State) : liveOf (ownRecUnpin l n s) = liveOf s := by
  unfold ownRecUnpin; split
  · rfl
  · rfl
  · split
    · rw [liveOf_answer, liveOf_reevaluate]; rfl
    · rfl

theorem liveOf_ownRecRelease (l : Link) (r : Word) (s : State) : liveOf (ownRecRelease l r s) = liveOf s := by
  unfold ownRecRelease; rw [liveOf_answer, liveOf_reevaluate]; rfl

theorem liveOf_changeSubscription (l : Link) (on : Bool) (s : State) : liveOf (changeSubscription l on s) = liveOf s := by
  unfold changeSubscription; dsimp only; split
  · rfl
  · rw [liveOf_reevaluate]; rfl

theorem liveOf_ownRecSubscribe (l : Link) (v : Byte) (s : State) : liveOf (ownRecSubscribe l v s) = liveOf s := by
  unfold ownRecSubscribe; split
  · rfl
  · rw [liveOf_answer]; split
    · rfl
    · exact liveOf_changeSubscription ..

theorem liveOf_ownStoreResult (l : Link) (s : State) : liveOf (ownStoreResult l s) = liveOf s := by
  unfold ownStoreResult; split <;> rfl

theorem liveOf_ownStoreCancel (l : Link) (s : State) : liveOf (ownStoreCancel l s) = liveOf s := by
  unfold ownStoreCancel; split
  · rfl
  · exact liveOf_of_kept (kept_cancelRequest l s)

theorem liveOf_ownLinkClearNotices (l : Link) (n : Byte) (s : State) : liveOf (ownLinkClearNotices l n s) = liveOf s := by
  unfold ownLinkClearNotices; split
  · rw [liveOf_answer]; unfold eventsCleared; split <;> rfl
  · rfl

/-- The entry into STANDBY_PENDING leaves what `kept` names once the batches are closed and the quiet timer stopped. -/
theorem kept_standbyReceivers (s : State) : kept (takeAll [standbyStop, cancelStore, haltRaster] s) = kept s := by
  refine kept_takeAll _ (fun act ha t => ?_) s
  simp only [List.mem_cons, List.not_mem_nil, or_false] at ha
  rcases ha with rfl | rfl | rfl <;> simp

theorem liveOf_standbyRequest (s : State) : liveOf (standbyRequest s) = liveOf s := by
  unfold standbyRequest; split
  · rw [liveOf_of_kept (kept_standbyReceivers _), liveOf_evalLeds]; rfl
  · rfl

theorem liveOf_ownPowerStandby (l : Link) (t : Byte) (s : State) : liveOf (ownPowerStandby l t s) = liveOf s :=
  (liveOf_standbyRequest _).trans (liveOf_of_kept (kept_acceptLong l t 0x78#8 s))

/-! ### The requests -/

/-- The lockout gate closes for the console link. -/
theorem gated_console {s u : State} (hl : s.router.lockout ≠ .localControl) (hu : u.router.lockout = s.router.lockout) :
    gated .console u = true := by simp [gated, hu, hl]

theorem liveOf_linkCommit_gated {l : Link} {req : List (Field × Int)} {s : State} (h : gated l s = true) :
    liveOf (linkCommit l req s) = liveOf s := by rw [linkCommit_gated req h]; rfl

theorem liveOf_ownBatchCommit_gated {l : Link} {form : Option Byte} {s : State} (h : gated l s = true) :
    liveOf (ownBatchCommit l form s) = liveOf s := by
  unfold ownBatchCommit; split
  · rfl
  · rfl
  · rw [if_pos h]; rfl

/-- Settles O16: an owner that could reach the live setup is past the gate, which is closed; no other owner can. -/
theorem lockedOutConsoleKeepsLiveSetup : Obligations.LockedOutConsoleKeepsLiveSetup := by
  intro i tag p s t hp hl he
  have gate : ∀ u : State, u.router.lockout = s.router.lockout → gated .console u = true := fun u => gated_console hl
  suffices h : KeepsLive s (exec i s) by
    have := h t he
    simp only [liveOf, Prod.mk.injEq] at this
    exact this
  cases i with
  | setupGet l _ ids =>
    refine keepsLive_takeRequest fun u _ => keepsLive_next ?_
    unfold ownSetupGet; split <;> rfl
  | setupSet l _ f v =>
    cases hp
    refine keepsLive_request fun u hu => ?_
    unfold ownSetupSet; split
    · exact liveOf_linkCommit_gated (gate u hu)
    · rfl
  | setupDefault => cases hp; exact keepsLive_request fun u hu => liveOf_linkCommit_gated (gate u hu)
  | batchStage => exact keepsLive_request fun u _ => liveOf_ownBatchStage ..
  | batchCommit l _ form =>
    have hc : l = .console := by cases form <;> cases hp <;> rfl
    subst hc
    exact keepsLive_request fun u hu => liveOf_ownBatchCommit_gated (gate u hu)
  | panelTake =>
    refine keepsLive_request fun u _ => ?_
    unfold ownPanelTake; split <;> rfl
  | panelQueueConfig => exact keepsLive_request fun u _ => liveOf_ownPanelQueueConfig ..
  | panelRouteGet =>
    refine keepsLive_request fun u _ => ?_
    unfold ownPanelRouteGet; split <;> rfl
  | panelRouteSet => exact keepsLive_request fun u _ => liveOf_ownPanelRouteSet ..
  | panelDefaultSet =>
    refine keepsLive_request fun u _ => ?_
    unfold ownPanelDefaultSet; split <;> rfl
  | panelLedSet => exact keepsLive_request fun u _ => liveOf_ownPanelLedSet ..
  | panelLedGet =>
    refine keepsLive_request fun u _ => ?_
    unfold ownPanelLedGet; split <;> rfl
  | panelLedConfig => exact keepsLive_request fun u _ => liveOf_ownPanelLedConfig ..
  | lockoutSet => cases hp; exact keepsLive_request fun u _ => rfl
  | acqRun | acqSingle | acqStop | acqForce =>
    cases hp; exact keepsLive_request fun u hu => liveOf_runRequest (gate u hu)
  | recHeader => exact keepsLive_request fun u _ => liveOf_ownRecHeader ..
  | recRead => exact keepsLive_takeRequest fun u _ => keepsLive_ownRecRead _ _ _ _ _ _ _ u
  | recPin => exact keepsLive_request fun u _ => liveOf_ownRecPin ..
  | recUnpin => exact keepsLive_request fun u _ => liveOf_ownRecUnpin ..
  | recRelease => exact keepsLive_request fun u _ => liveOf_ownRecRelease ..
  | recSubscribe => exact keepsLive_request fun u _ => liveOf_ownRecSubscribe ..
  | recNoticeConfig =>
    refine keepsLive_request fun u _ => ?_
    unfold ownRecNoticeConfig; split <;> rfl
  | dispOverlay =>
    refine keepsLive_takeRequest fun u _ => keepsLive_next ?_
    unfold ownDispOverlay; dsimp only; split
    · exact liveOf_answer ..
    · exact (liveOf_answer ..).trans (liveOf_setOverlay ..)
  | dispOverlayFill =>
    refine keepsLive_request fun u _ => ?_
    unfold ownDispOverlayFill; split <;> rfl
  | dispPalette =>
    refine keepsLive_takeRequest fun u _ => keepsLive_next ?_
    unfold ownDispPalette; split
    · exact liveOf_answer ..
    · exact (liveOf_answer ..).trans (liveOf_withDisp ..)
  | dispPaletteGet =>
    refine keepsLive_request fun u _ => ?_
    unfold ownDispPaletteGet; split <;> rfl
  | storeSave | storeRecall | storeErase | storeLock =>
    exact keepsLive_request fun u _ => liveOf_of_kept (kept_storeRequest ..)
  | storeList =>
    refine keepsLive_request fun u _ => ?_
    unfold ownStoreList; split <;> rfl
  | storeCancel => exact keepsLive_request fun u _ => liveOf_ownStoreCancel ..
  | storeResult => exact keepsLive_request fun u _ => liveOf_ownStoreResult ..
  | linkConfig =>
    refine keepsLive_request fun u _ => ?_
    unfold ownLinkConfig; split <;> rfl
  | linkClearNotices => exact keepsLive_request fun u _ => liveOf_ownLinkClearNotices ..
  | powerStandby => exact keepsLive_request fun u _ => liveOf_ownPowerStandby ..
  | setupChanges | batchOpen | batchDrop | panelQueueGet | panelDefaultGet | acqStatus | recList | recNoticeGet
  | dispStatus | dispClear | linkStatus => exact keepsLive_request fun u _ => rfl
  | _ => cases hp

end Sys2Proof.Machine
end

section
/-! PROOFS. The event queues (R49 to R53): where a record comes to stand, and what a queue does with one handed to it. -/

namespace Sys2Proof.Machine

/-- A record enters after those whose time is equal or earlier, before the first that is later. -/
theorem placed_insertByTime (e : PanelEvent) (es : List PanelEvent) : placed e es (insertByTime e es) := by
  induction es with
  | nil => exact ⟨[], [], rfl, rfl, by simp, by simp⟩
  | cons x rest ih =>
    unfold insertByTime; split
    next hx => exact ⟨[], x :: rest, rfl, rfl, by simp, fun y hy => by cases hy; exact hx⟩
    next hx =>
      obtain ⟨pre, post, rfl, h2, h3, h4⟩ := ih
      refine ⟨x :: pre, post, rfl, congrArg (x :: ·) h2, fun y hy => ?_, h4⟩
      rcases List.mem_cons.1 hy with rfl | hy
      · simpa using hx
      · exact h3 y hy

/-- The threshold check of a queue just set. -/
theorem thresholdCheck_setQueue (l : Link) (q : EventQueue) (s : State) : thresholdCheck l (setQueue l q s) =
    (s.withQueues (s.queues.set l { q with timer := if q.threshold ≤ q.entries.length then none else q.timer })).withLinks
      (if q.threshold ≤ q.entries.length then
        s.links.set l { s.links.get l with notices := (s.links.get l).notices ||| 1#7 } else s.links) := by
  unfold thresholdCheck
  simp only [setQueue_get]
  split
  next hq => simp only [setQueue, State.withQueues_queues, PerLink.set_set]; rfl
  next hq => rfl

/-- What `entered` says, of the operation. -/
theorem entered_enterEntry (l : Link) (e : PanelEvent) (s : State) : entered l e s (enterEntry l e s) := by
  unfold entered enterEntry queueCapacity
  dsimp only
  by_cases hroom : (s.queues.get l).entries.length < 32
  · rw [if_pos hroom]
    refine ⟨fun _ => ⟨_, _, placed_insertByTime e _, (if_pos hroom).symm, ?_⟩, fun h => absurd hroom (Nat.not_lt.2 h)⟩
    rw [thresholdCheck_setQueue, if_pos hroom]
    exact ⟨rfl, rfl, rfl⟩
  · rw [if_neg hroom]
    cases hm : (s.queues.get l).mode with
    | hold =>
      refine ⟨fun h => ?_, fun _ _ => rfl⟩
      rcases h with h | h
      · exact absurd h hroom
      · cases h
    | overwrite =>
      have hne : (s.queues.get l).entries ≠ [] := by rintro h; simp [h] at hroom
      refine ⟨fun _ => ⟨_, _, placed_insertByTime e _, (if_neg hroom).symm, ?_⟩, fun _ h => by cases h⟩
      rw [thresholdCheck_setQueue, if_neg hroom, if_neg hne]
      exact ⟨rfl, rfl, rfl⟩

/-! ### Merging -/

theorem handOver_entering {l : Link} {e : PanelEvent} {s : State} (h : mergesWith e (s.queues.get l) = none) :
    handOver l e s = enterEntry l e s := by simp [handOver, h]

theorem handOver_merging {l : Link} {e n : PanelEvent} {s : State} (h : mergesWith e (s.queues.get l) = some n) :
    handOver l e s = merge l n e s := by simp [handOver, h]

/-- A record that is no TURN, or meets no newest TURN of its control, merges with none. -/
theorem mergesWith_none {e : PanelEvent} {q : EventQueue}
    (h : e.kind ≠ .turn ∨ ∀ n, q.entries.getLast? = some n → n.kind ≠ .turn ∨ n.control ≠ e.control) :
    mergesWith e q = none := by
  cases hm : mergesWith e q with
  | none => rfl
  | some n =>
    obtain ⟨hl, he, hn, hc⟩ := mergesWith_some hm
    rcases h with h | h
    · exact absurd he h
    · rcases h n hl with h | h
      · exact absurd hn h
      · exact absurd hc h

theorem mergesWith_append {e n : PanelEvent} {q : EventQueue} {es : List PanelEvent} (hq : q.entries = es ++ [n])
    (he : e.kind = .turn) (hn : n.kind = .turn) (hc : n.control = e.control) : mergesWith e q = some n := by
  simp [mergesWith, hq, he, hn, hc]

theorem removeNewest_append {q : EventQueue} {es : List PanelEvent} {n : PanelEvent} (hq : q.entries = es ++ [n]) :
    removeNewest q = { q with entries := es, timer := if es = [] then none else q.timer } := by
  simp [removeNewest, hq]

theorem replaceNewest_append {q : EventQueue} {es : List PanelEvent} {n : PanelEvent} (m : PanelEvent)
    (hq : q.entries = es ++ [n]) : replaceNewest m q = { q with entries := es ++ [m] } := by
  simp [replaceNewest, hq]

/-- Settles O26: whether the record merges, and then the sum, decide what the queue does with it. -/
theorem eventQueueTakesRecord : Obligations.EventQueueTakesRecord := by
  intro l e s
  refine ⟨fun h => ?entering, fun n es hq he hn hc => ?merging⟩
  case entering =>
    rw [handOver_entering (mergesWith_none h)]
    exact entered_enterEntry l e s
  case merging =>
    rw [handOver_merging (mergesWith_append hq he hn hc)]
    unfold merge
    dsimp only
    rw [removeNewest_append hq, replaceNewest_append _ hq, replaceNewest_append _ hq, replaceNewest_append _ hq]
    refine ⟨fun h0 => ?_, fun h0 h1 h2 => ?_, fun h1 => ?_, fun h1 => ?_⟩
    · rw [if_pos h0]; rfl
    · rw [if_neg h0, if_neg (by omega), if_neg (by omega)]; rfl
    · rw [if_neg (by omega), if_pos h1]; exact entered_enterEntry ..
    · rw [if_neg (by omega), if_neg (by omega), if_pos h1]; exact entered_enterEntry ..

end Sys2Proof.Machine
end

section
/-! PROOFS. The Event Router (R35 to R42): when an entry matches, which entry wins an event, and what a direct edit commits. -/

namespace Sys2Proof.Machine

/-! ### Matching (R36) -/

theorem matchesControl_range {e : RouteEntry} (h : e.matchKind = .range) (c : Nat) :
    matchesControl e c = true ↔ e.a.toNat ≤ c ∧ c ≤ e.b.toNat := by simp [matchesControl, h]

theorem matchesControl_pair {e : RouteEntry} (h : e.matchKind = .pair) (c : Nat) :
    matchesControl e c = true ↔ c = e.a.toNat ∨ c = e.b.toNat := by simp [matchesControl, h]

theorem matchesControl_mask {e : RouteEntry} (h : e.matchKind = .mask) {c : Nat} (hc : c < 128) :
    matchesControl e c = true ↔ c &&& e.b.toNat = e.a.toNat &&& e.b.toNat := by
  rw [matchesControl, h]
  simp only [beq_iff_eq, ← BitVec.toNat_inj, BitVec.toNat_and, BitVec.toNat_ofNat]
  rw [Nat.mod_eq_of_lt (by omega)]

/-- An entry's kinds hold an event's. -/
theorem kinds_iff (kinds : BitVec 3) (k : EventKind) : kinds.getLsbD (eventKindCode k) = true ↔
    ((k = .press ∧ kinds.getLsbD 0 = true) ∨ (k = .release ∧ kinds.getLsbD 1 = true) ∨
      (k = .turn ∧ kinds.getLsbD 2 = true)) := by
  cases k <;> simp [eventKindCode]

theorem runCondMet_iff (c : RunCond) (run : RunState) : runCondMet c run = true ↔
    (c = .running → run = .running ∨ run = .single) ∧ (c = .stopped → run = .stopped) := by
  cases c <;> cases run <;> decide

theorem entryMatches_iff (e : RouteEntry) (ev : PanelEvent) (run : RunState) (hc : ev.control < 128) :
    entryMatches e ev run = true ↔
      (e.enabled = true ∧ (e.matchKind = .range → e.a.toNat ≤ ev.control ∧ ev.control ≤ e.b.toNat) ∧
        (e.matchKind = .pair → ev.control = e.a.toNat ∨ ev.control = e.b.toNat) ∧
        (e.matchKind = .mask → ev.control &&& e.b.toNat = e.a.toNat &&& e.b.toNat) ∧
        ((ev.kind = .press ∧ e.kinds.getLsbD 0 = true) ∨ (ev.kind = .release ∧ e.kinds.getLsbD 1 = true) ∨
          (ev.kind = .turn ∧ e.kinds.getLsbD 2 = true)) ∧
        (e.cond = .running → run = .running ∨ run = .single) ∧ (e.cond = .stopped → run = .stopped)) := by
  have control : matchesControl e ev.control = true ↔
      (e.matchKind = .range → e.a.toNat ≤ ev.control ∧ ev.control ≤ e.b.toNat) ∧
      (e.matchKind = .pair → ev.control = e.a.toNat ∨ ev.control = e.b.toNat) ∧
      (e.matchKind = .mask → ev.control &&& e.b.toNat = e.a.toNat &&& e.b.toNat) := by
    cases hm : e.matchKind with
    | range => rw [matchesControl_range hm]; simp
    | pair => rw [matchesControl_pair hm]; simp
    | mask => rw [matchesControl_mask hm hc]; simp
  rw [entryMatches, Bool.and_eq_true, Bool.and_eq_true, Bool.and_eq_true, control, kinds_iff, runCondMet_iff]
  simp only [and_assoc]

/-! ### The entry that wins (R37) -/

theorem considered_iff (k : Lockout) (e : RouteEntry) :
    considered k e = true ↔ k = .localControl ∨ e.exempt = true := by simp [considered]

/-- The table's entries with their indexes. -/
theorem getElem_zipIdx_routes (r : Router) (i : Fin 24) (h : i.val < r.routes.toList.zipIdx.length) :
    r.routes.toList.zipIdx[i.val] = (r.routes[i], i.val) := by simp

/-- The router finds the entry that wins. -/
theorem findRoute_wins {i : Fin 24} {ev : PanelEvent} {s : State} (h : wins i ev s) :
    findRoute s.router ev s.seq.run = some (s.router.routes[i], i.val) := by
  obtain ⟨hc, hm, hfirst⟩ := h
  have hi : i.val < s.router.routes.toList.zipIdx.length := by simp
  refine List.find?_eq_some_iff_getElem.2 ⟨?_, i.val, hi, getElem_zipIdx_routes _ i hi, fun j hj => ?_⟩
  · rw [Bool.and_eq_true]
    exact ⟨(considered_iff _ _).2 hc, hm⟩
  · have hj24 : j < 24 := by omega
    rw [getElem_zipIdx_routes s.router ⟨j, hj24⟩ (by simpa using hj24)]
    cases hcj : considered s.router.lockout s.router.routes[(⟨j, hj24⟩ : Fin 24)] with
    | false => rfl
    | true =>
      dsimp only
      rw [hfirst ⟨j, hj24⟩ hj ((considered_iff _ _).1 hcj)]; simp

/-- Where no entry wins the router finds none. -/
theorem findRoute_none {ev : PanelEvent} {s : State} (h : ∀ i : Fin 24, ¬ wins i ev s) :
    findRoute s.router ev s.seq.run = none := by
  cases hf : findRoute s.router ev s.seq.run with
  | none => rfl
  | some x =>
    obtain ⟨hp, j, hj, hx, hfirst⟩ := List.find?_eq_some_iff_getElem.1 hf
    have hj24 : j < 24 := by simpa using hj
    rw [getElem_zipIdx_routes s.router ⟨j, hj24⟩ hj] at hx
    subst hx
    rw [Bool.and_eq_true] at hp
    refine absurd ⟨(considered_iff _ _).1 hp.1, hp.2, fun k hk hc => ?_⟩ (h ⟨j, hj24⟩)
    have hk' := hfirst k.val hk
    rw [getElem_zipIdx_routes s.router k (by simp)] at hk'
    dsimp only at hk'
    rw [(considered_iff _ _).2 hc] at hk'
    simpa using hk'

theorem takeEvent_wins {i : Fin 24} {ev : PanelEvent} {s : State} (hp : s.power.state = .active) (h : wins i ev s) :
    takeEvent ev s = if s.router.routes[i].action = .edit then directEdit s.router.routes[i] { ev with entry := some i.val } s
      else runAction s.router.routes[i].action { ev with entry := some i.val } s := by
  rw [takeEvent, if_pos hp, routeEvent, findRoute_wins h]

/-- Settles O23: the search of the table finds the entry that wins, or none. -/
theorem firstMatchingEntryWins : Obligations.FirstMatchingEntryWins := by
  intro ev s
  refine ⟨fun e run hc _ _ => entryMatches_iff e ev run hc, fun hp => if_neg hp, fun hp => ⟨fun i h => takeEvent_wins hp h,
    fun h => ⟨fun hl => ?_, fun hl => ?_⟩⟩⟩
  · rw [takeEvent, if_pos hp, routeEvent, findRoute_none h]
    exact if_pos hl
  · rw [takeEvent, if_pos hp, routeEvent, findRoute_none h]
    exact if_neg hl

/-! ### Direct edits (R39 to R42) -/

theorem editId_eq (e : RouteEntry) (c : Nat) : editId e c = editedId e c := by
  unfold editId editedId
  cases e.matchKind <;> rfl

/-- The catalogue gives every enumerated set in ascending order. -/
theorem handling_enum_ascending {f : Field} {set : List Int} (h : handling f = .enum set) : set.Pairwise (· < ·) := by
  cases f <;> simp only [handling, Handling.enum.injEq, reduceCtorEq] at h <;> subst h <;> decide

theorem cycleSet_eq (st : Setup) (f : Field) : cycleSet st f = cycleValues st f := by
  have source : (enabledChans st).map chanNumber = ([1, 2, 3, 4] : List Int).filter (fun n =>
      (chanOfNumber n).any (fun c => decide (st.get (.chOn c) = 1))) := by
    have h : ([1, 2, 3, 4] : List Int) = Config.chans.map chanNumber := by decide
    rw [h, List.filter_map]
    refine congrArg (List.map chanNumber) (List.filter_congr fun c _ => ?_)
    simp only [Function.comp, chanOfNumber_chanNumber, Option.any_some]
    rfl
  by_cases h1 : f = .trigSlope
  · subst h1; rfl
  by_cases h2 : f = .trigSource
  · subst h2; exact source
  unfold cycleSet cycleValues
  rw [if_neg h1, if_neg h2]
  split
  · exact absurd rfl h1
  · exact absurd rfl h2
  · rfl

theorem cycleValues_ascending (st : Setup) (f : Field) : (cycleValues st f).Pairwise (· < ·) := by
  unfold cycleValues
  split
  · split <;> decide
  · split
    · exact (by decide : ([1, 2, 3, 4] : List Int).Pairwise (· < ·)).sublist List.filter_sublist
    · split
      next set hs => exact handling_enum_ascending hs
      · exact List.Pairwise.nil

/-- In an ascending list the next value above v is the least above it, and with none above it the first is the least. -/
theorem cycleNext_eq {set : List Int} (hset : set.Pairwise (· < ·)) {v x : Int} (hx : x ∈ set)
    (habove : (∃ y ∈ set, v < y) → v < x ∧ ∀ y ∈ set, v < y → x ≤ y)
    (hnone : (∀ y ∈ set, y ≤ v) → ∀ y ∈ set, x ≤ y) : cycleNext set v = some x := by
  unfold cycleNext
  cases hf : set.find? (fun y => decide (v < y)) with
  | none =>
    have hle : ∀ y ∈ set, y ≤ v := fun y hy => by simpa using List.find?_eq_none.1 hf y hy
    cases set with
    | nil => cases hx
    | cons a rest =>
      have h1 := hnone hle a (List.mem_cons_self ..)
      have h2 : a ≤ x := by
        rcases List.mem_cons.1 hx with rfl | hx
        · exact Int.le_refl _
        · exact Int.le_of_lt (List.rel_of_pairwise_cons hset hx)
      simp only [List.head?_cons, Option.some.injEq]
      omega
  | some y =>
    obtain ⟨hy, pre, post, rfl, hpre⟩ := List.find?_eq_some_iff_append.1 hf
    have hy' : v < y := by simpa using hy
    obtain ⟨hvx, hmin⟩ := habove ⟨y, by simp, hy'⟩
    have h1 : x ≤ y := hmin y (by simp) hy'
    have h2 : y ≤ x := by
      rw [List.pairwise_append] at hset
      rcases List.mem_append.1 hx with hx | hx
      · have := hpre x hx; simp at this; omega
      · rcases List.mem_cons.1 hx with rfl | hx
        · exact Int.le_refl _
        · exact Int.le_of_lt (List.rel_of_pairwise_cons hset.2.1 hx)
    simp only [Option.some.injEq]
    omega

theorem cycleNext_cycleValues {st : Setup} {f : Field} {v : Int} (hm : v ∈ cycleValues st f)
    (habove : (∃ x ∈ cycleValues st f, st.get f < x) → st.get f < v ∧ ∀ x ∈ cycleValues st f, st.get f < x → v ≤ x)
    (hnone : (∀ x ∈ cycleValues st f, x ≤ st.get f) → ∀ x ∈ cycleValues st f, v ≤ x) :
    cycleNext (cycleSet st f) (st.get f) = some v := by
  rw [cycleSet_eq]
  exact cycleNext_eq (cycleValues_ascending st f) hm habove hnone

/-- The value that an EDIT entry's step hands is the one that the router commits. -/
theorem editValue_of_handsValue {e : RouteEntry} {ev : PanelEvent} {st : Setup} {f : Field} {v : Int}
    (h : handsValue e ev st f v) : ∃ k, stepKindOf e.stepKind = some k ∧ editValue k st f ev = some v := by
  rcases h with ⟨hk, he, rfl⟩ | ⟨hk, he, hv⟩ | ⟨hk, he, rfl⟩ | ⟨hk, he, rfl⟩ | ⟨hk, he, hm, ha, hn⟩
  · exact ⟨.index, by rw [hk]; rfl, by simp [editValue, he]⟩
  · refine ⟨.fine, by rw [hk]; rfl, ?_⟩
    rcases hv with ⟨c, rfl, rfl⟩ | ⟨hf, c, hc, rfl⟩
    · simp [editValue, he, relevantChan]
    · have hr : relevantChan st f = c := by
        rcases hf with rfl | rfl <;> simp [relevantChan, sourceChan, hc]
      simp [editValue, he, hr]
  · exact ⟨.permille, by rw [hk]; rfl, by simp [editValue, he]⟩
  · exact ⟨.toggle, by rw [hk]; rfl, by simp [editValue, he]⟩
  · refine ⟨.cycle, by rw [hk]; rfl, ?_⟩
    have hc : editValue .cycle st f ev = cycleNext (cycleSet st f) (st.get f) := by simp [editValue, he]
    rw [hc]
    exact cycleNext_cycleValues hm ha hn

/-- A step that does not act on the event's kind hands nothing. -/
theorem editValue_of_stepIdle {e : RouteEntry} {ev : PanelEvent} (st : Setup) (f : Field) {k : StepKind}
    (hk : stepKindOf e.stepKind = some k) (h : stepIdle e ev) : editValue k st f ev = none := by
  unfold stepKindOf at hk
  rcases h with ⟨hn, he⟩ | ⟨hn, hn', he⟩
  · have : k = .index ∨ k = .fine ∨ k = .permille := by
      rcases (by omega : e.stepKind.toNat = 0 ∨ e.stepKind.toNat = 1 ∨ e.stepKind.toNat = 2) with h | h | h <;>
        rw [h] at hk <;> cases hk <;> simp
    rcases this with rfl | rfl | rfl <;> cases hek : ev.kind <;> simp_all [editValue]
  · have : k = .toggle ∨ k = .cycle := by
      rcases (by omega : e.stepKind.toNat = 3 ∨ e.stepKind.toNat = 4) with h | h <;> rw [h] at hk <;> cases hk <;> simp
    rcases this with rfl | rfl <;> cases hek : ev.kind <;> simp_all [editValue]

/-- A direct edit of a field hands its value to the commit procedure. -/
theorem directEdit_of_value {e : RouteEntry} {ev : PanelEvent} {s : State} {f : Field} {v : Int}
    (hf : fieldOfId (editedId e ev.control) = some f) (h : handsValue e ev s.setup.live f v) :
    directEdit e ev s = (commit .panel [(f, v)] s).1 := by
  obtain ⟨k, hk, hv⟩ := editValue_of_handsValue h
  unfold directEdit
  rw [editId_eq, hf, hk]
  dsimp only
  rw [hv]

theorem directEdit_idle {e : RouteEntry} {ev : PanelEvent} (s : State) (h : stepIdle e ev) : directEdit e ev s = s := by
  unfold directEdit
  split
  next f k hf hk =>
    rw [editValue_of_stepIdle s.setup.live f hk h]
  · rfl

/-- Settles O24: the winning entry's direct edit, and then the verdict on its one value. -/
theorem directEditCommitsOneField : Obligations.DirectEditCommitsOneField := by
  intro i ev f s hp hs hw ha hf
  have taken : takeEvent ev s = directEdit s.router.routes[i] { ev with entry := some i.val } s := by
    rw [takeEvent_wins hp hw, if_pos ha]
  rw [taken]
  refine ⟨fun hi => directEdit_idle s hi, fun v hv => ?_⟩
  have hd : directEdit s.router.routes[i] { ev with entry := some i.val } s = (commit .panel [(f, v)] s).1 :=
    directEdit_of_value hf hv
  rw [hd]
  refine ⟨fun ⟨g, hj⟩ => ?_, fun hj => ?_, fun st hj => ⟨fun he => ?_, fun he => ?_⟩⟩
  · rw [commit, hj]
  · rw [commit, hj]
  · rw [commit, hj]; simp [he]
  · rw [commit_candidate hj he]
    exact installed_handOn .panel st hs

end Sys2Proof.Machine
end

section
/-! PROOFS. The Panel Scanner (R30 to R33) and the wake request (R209). -/

namespace Sys2Proof.Machine

/-! ### Keys -/

theorem scansKey_iff (key : Fin 64) (s : State) :
    scansKey key s = true ↔ s.power.phase = .up ∧ (s.power.state ≠ .standby ∨ key = 63) := by
  simp only [scansKey, Bool.and_eq_true, Bool.or_eq_true, decide_eq_true_eq]
  rfl

/-- A new level on the line of a key that is scanned. -/
theorem keyChange_scanned {key : Fin 64} {pressed : Bool} {s : State} (hs : scansKey key s = true)
    (hl : s.panel.keys[key].line ≠ pressed) : keyChange key pressed s = setKey key { s.panel.keys[key] with
      line := pressed
      timer := some Config.debounceTime
      attempt := if s.panel.keys[key].timer = none then s.panel.ms else s.panel.keys[key].attempt } s := by
  simp only [keyChange, if_neg hl, if_pos hs]

/-- The expiry of a running debounce timer over a line at its settled level. -/
theorem keyExpiry_same {key : Fin 64} {s : State} (ht : s.panel.keys[key].timer ≠ none)
    (hl : s.panel.keys[key].line = s.panel.keys[key].settled) :
    keyExpiry key s = setKey key { s.panel.keys[key] with timer := none } s := by
  simp only [keyExpiry, if_neg ht, if_pos hl]

/-- The expiry of a running debounce timer over a changed line. -/
theorem keyExpiry_changed {key : Fin 64} {s : State} (ht : s.panel.keys[key].timer ≠ none)
    (hl : s.panel.keys[key].line ≠ s.panel.keys[key].settled) :
    keyExpiry key s = keyAccepted key s.panel.keys[key]
      (setKey key { s.panel.keys[key] with timer := none, settled := s.panel.keys[key].line } s) := by
  simp only [keyExpiry, if_neg ht, if_neg hl]

theorem keyAccepted_awake {key : Fin 64} {s : State} (k : Key) (h : s.power.state ≠ .standby) :
    keyAccepted key k s = takeEvent (keyEvent key k) s := if_neg h

theorem keyAccepted_asleep {s : State} (k : Key) (h : s.power.state = .standby) :
    keyAccepted 63 k s = if k.line = true then wake s else s := by
  rw [keyAccepted, if_pos h]
  simp [powerKey]

/-! ### Encoders -/

theorem setEnc_setEnc (enc : Fin 12) (e e' : Encoder) (s : State) : setEnc enc e' (setEnc enc e s) = setEnc enc e' s := by
  unfold setEnc
  simp

theorem setEnc_same (enc : Fin 12) (s : State) : setEnc enc s.panel.encs[enc] s = s := by
  unfold setEnc
  simp
  rfl

theorem setEnc_get (enc : Fin 12) (e : Encoder) (s : State) : (setEnc enc e s).panel.encs[enc] = e := by
  unfold setEnc
  simp

/-- A line change that completes no detent. -/
theorem encChange_quiet {enc : Fin 12} {a b : Bool} {e e' : Encoder} {s : State} (h1 : s.power.phase = .up)
    (h2 : s.power.state ≠ .standby) (he : s.panel.encs[enc] = e)
    (hj : encJudge { e with lineA := a, lineB := b } a b = (e', none)) : encChange enc a b s = setEnc enc e' s := by
  simp only [encChange, if_pos (And.intro h1 h2), he, hj]

/-- A line change that completes a detent. -/
theorem encChange_turn {enc : Fin 12} {a b : Bool} {e e' : Encoder} {d : Int} {s : State} (h1 : s.power.phase = .up)
    (h2 : s.power.state ≠ .standby) (he : s.panel.encs[enc] = e)
    (hj : encJudge { e with lineA := a, lineB := b } a b = (e', some d)) :
    encChange enc a b s = takeEvent (turnEvent enc d s.panel.ms) (setEnc enc e' s) := by
  simp only [encChange, if_pos (And.intro h1 h2), he, hj]

/-- Three phases and back to the detent give one TURN, the encoder at rest as it was. -/
theorem encCycle {enc : Fin 12} {s : State} {e1 e2 e3 : Encoder} {d : Int} {a1 b1 a2 b2 a3 b3 : Bool}
    (h1 : s.power.phase = .up) (h2 : s.power.state ≠ .standby) (he : s.panel.encs[enc] = ⟨true, true, true, true, 0, true⟩)
    (hj1 : encJudge { (⟨true, true, true, true, 0, true⟩ : Encoder) with lineA := a1, lineB := b1 } a1 b1 = (e1, none))
    (hj2 : encJudge { e1 with lineA := a2, lineB := b2 } a2 b2 = (e2, none))
    (hj3 : encJudge { e2 with lineA := a3, lineB := b3 } a3 b3 = (e3, none))
    (hj4 : encJudge { e3 with lineA := true, lineB := true } true true = (⟨true, true, true, true, 0, true⟩, some d)) :
    ∃ s1 s2 s3, exec (.encoderLineChange enc a1 b1) s = .next s1 ∧ exec (.encoderLineChange enc a2 b2) s1 = .next s2 ∧
      exec (.encoderLineChange enc a3 b3) s2 = .next s3 ∧
      exec (.encoderLineChange enc true true) s3 = .next (takeEvent ⟨64 + enc.val, .turn, d, s.panel.ms, none⟩ s) := by
  refine ⟨_, _, _, rfl, rfl, rfl, ?_⟩
  have q1 : encChange enc a1 b1 s = setEnc enc e1 s := encChange_quiet h1 h2 he hj1
  have q2 : encChange enc a2 b2 (setEnc enc e1 s) = setEnc enc e2 s :=
    (encChange_quiet (s := setEnc enc e1 s) h1 h2 (setEnc_get ..) hj2).trans (setEnc_setEnc ..)
  have q3 : encChange enc a3 b3 (setEnc enc e2 s) = setEnc enc e3 s :=
    (encChange_quiet (s := setEnc enc e2 s) h1 h2 (setEnc_get ..) hj3).trans (setEnc_setEnc ..)
  have rest : setEnc enc ⟨true, true, true, true, 0, true⟩ (setEnc enc e3 s) = s := by
    rw [setEnc_setEnc, ← he, setEnc_same]
  rw [q1, q2, q3]
  refine congrArg Host.Outcome.next ?_
  rw [encChange_turn (s := setEnc enc e3 s) h1 h2 (setEnc_get ..) hj4, rest]
  rfl

/-! ### Wake -/

/-- What wake leaves of the LEDs: sources kept, link values off, every LED dark. -/
theorem wake_leds (s : State) (i : Fin 32) :
    (wake s).router.leds[i] = ⟨s.router.leds[i].source, false⟩ ∧ (wake s).router.lit[i] = false := by
  simp [wake, wakeLed, startRouter]

theorem wake_links (s : State) (l : Link) : ((wake s).links.get l).opened = false ∧ ((wake s).links.get l).ready = false ∧
    ((wake s).links.get l).notices = 0#7 := by cases l <;> exact ⟨rfl, rfl, rfl⟩

/-- Settles O22: each line change and each expiry by the branch it takes. -/
theorem panelLinesGiveEvents : Obligations.PanelLinesGiveEvents := by
  refine ⟨fun key pressed s => ⟨fun hph hst hl => ?change, fun ht hst => ?expiry⟩,
    fun enc s hph hst he => ⟨?positive, ?negative, ?both⟩, fun s hst ht => ⟨fun hl hs => ?press, fun hl hs => ?release⟩⟩
  case change =>
    have h := keyChange_scanned ((scansKey_iff key s).2 ⟨hph, hst⟩) hl
    refine ⟨fun hn => ?_, fun hn => ?_⟩
    · rw [if_pos hn] at h; exact congrArg Host.Outcome.next h
    · rw [if_neg hn] at h; exact congrArg Host.Outcome.next h
  case expiry =>
    refine ⟨fun hl => congrArg Host.Outcome.next (keyExpiry_same ht hl), fun hl => congrArg Host.Outcome.next ?_⟩
    rw [keyExpiry_changed ht hl, keyAccepted_awake _ (by exact hst)]
    rfl
  case positive => exact encCycle hph hst he rfl rfl rfl rfl
  case negative => exact encCycle hph hst he rfl rfl rfl rfl
  case both => exact congrArg Host.Outcome.next (encChange_quiet hph hst he rfl)
  case press =>
    have h := keyExpiry_changed ht (by rw [hl, hs]; decide)
    rw [keyAccepted_asleep _ (by exact hst), if_pos hl] at h
    exact ⟨_, congrArg Host.Outcome.next h, rfl, rfl, rfl, rfl, rfl, rfl, rfl, rfl, rfl, rfl, rfl, wake_leds _, rfl, rfl, rfl,
      wake_links _, rfl⟩
  case release =>
    have h := keyExpiry_changed ht (by rw [hl, hs]; decide)
    rw [keyAccepted_asleep _ (by exact hst), if_neg (by rw [hl]; decide), hl] at h
    exact congrArg Host.Outcome.next h

end Sys2Proof.Machine
end

section
/-! PROOFS. The panel requests that set and read queue settings, routing entries and the default action (R45, R46, R55). -/

namespace Sys2Proof.Machine

/-! ### Values by their positions (R202) -/

theorem onOff_iff (b : Byte) (v : Bool) : onOff b = some v ↔ b = bitByte v := by
  cases v <;> revert b <;> decide

theorem onOff_none {b : Byte} (h : 1 < b.toNat) : onOff b = none := by
  have h0 : b ≠ 0#8 := by rintro rfl; simp at h
  have h1 : b ≠ 1#8 := by rintro rfl; simp at h
  simp [onOff, h0, h1]

theorem matchKindOf_iff (b : Byte) (k : MatchKind) : matchKindOf b = some k ↔ b = byteOf (matchKindCode k) := by
  cases k <;> revert b <;> decide

theorem runCondOf_iff (b : Byte) (c : RunCond) : runCondOf b = some c ↔ b = byteOf (runCondCode c) := by
  cases c <;> revert b <;> decide

theorem actionOf_iff (b : Byte) (a : Action) : actionOf b = some a ↔ b = byteOf (actionCode a) := by
  cases a <;> revert b <;> decide

theorem onOff_isSome (b : Byte) : (∃ v, onOff b = some v) ↔ b.toNat ≤ 1 := by
  refine ⟨fun ⟨v, h⟩ => ?_, fun h => ?_⟩
  · obtain rfl := (onOff_iff b v).1 h; cases v <;> decide
  · rcases (by bv_omega : b = 0#8 ∨ b = 1#8) with rfl | rfl
    · exact ⟨false, rfl⟩
    · exact ⟨true, rfl⟩

theorem exists_getElem?_iff {α : Type} (xs : List α) (n : Nat) : (∃ x, xs[n]? = some x) ↔ n < xs.length := by
  rw [← Option.isSome_iff_exists, Option.isSome_iff_ne_none, ne_eq, List.getElem?_eq_none_iff, Nat.not_le]

theorem matchKindOf_isSome (b : Byte) : (∃ k, matchKindOf b = some k) ↔ b.toNat ≤ 2 :=
  (exists_getElem?_iff _ _).trans Nat.lt_succ_iff

theorem runCondOf_isSome (b : Byte) : (∃ k, runCondOf b = some k) ↔ b.toNat ≤ 2 :=
  (exists_getElem?_iff _ _).trans Nat.lt_succ_iff

theorem actionOf_isSome (b : Byte) : (∃ k, actionOf b = some k) ↔ b.toNat ≤ 9 :=
  (exists_getElem?_iff _ _).trans Nat.lt_succ_iff

theorem stepKindOf_isSome (b : Byte) : (∃ k, stepKindOf b = some k) ↔ b.toNat ≤ 4 :=
  (exists_getElem?_iff _ _).trans Nat.lt_succ_iff

theorem queueModeOf_eq {b : Byte} (h : b.toNat ≤ 1) :
    queueModeOf b = some (if b = 0#8 then .hold else .overwrite) := by
  rcases (by bv_omega : b = 0#8 ∨ b = 1#8) with rfl | rfl <;> rfl

theorem queueModeOf_none {b : Byte} (h : 1 < b.toNat) : queueModeOf b = none :=
  List.getElem?_eq_none h

/-! ### Queue settings (R55) -/

theorem ownPanelQueueConfig_in_range (l : Link) (tag kind : Byte) {mode threshold setting : Byte} (s : State)
    (hm : mode.toNat ≤ 1) (h1 : 1 ≤ threshold.toNat) (h2 : threshold.toNat ≤ 32) (h3 : 1 ≤ setting.toNat) :
    ownPanelQueueConfig l mode threshold setting (working l tag kind s) = replied l tag .ok
      (.discarded (s.queues.get l).entries.length (s.queues.get l).lost)
      (setQueue l ⟨[], if mode = 0#8 then .hold else .overwrite, threshold.toNat, setting.toNat, none, 0#16⟩ s) := by
  rw [ownPanelQueueConfig, queueModeOf_eq hm]
  exact (if_pos ⟨h1, h2, h3⟩).trans (answer_setQueue_working ..)

theorem ownPanelQueueConfig_out_of_range (l : Link) (tag kind : Byte) {mode threshold setting : Byte} (s : State)
    (h : 1 < mode.toNat ∨ threshold.toNat = 0 ∨ 32 < threshold.toNat ∨ setting.toNat = 0) :
    ownPanelQueueConfig l mode threshold setting (working l tag kind s) = replied l tag .invalid .nothing s := by
  by_cases hm : mode.toNat ≤ 1
  · rw [ownPanelQueueConfig, queueModeOf_eq hm]
    exact (if_neg (by omega)).trans (answer_working ..)
  · rw [ownPanelQueueConfig, queueModeOf_none (by omega)]
    exact answer_working ..

/-! ### Routing entries (R45) -/

theorem fieldId_inj {f g : Field} (h : fieldId f = fieldId g) : f = g := by
  have hf := fieldOfId_fieldByte f
  rw [fieldByte, h] at hf
  exact Option.some.inj (hf.symm.trans (fieldOfId_fieldByte g))

theorem fieldOfId_eq_some {n : Nat} {f : Field} : fieldOfId n = some f ↔ fieldId f = n := by
  rw [fieldOfId, find?_allFields]
  simp only [beq_iff_eq]
  refine ⟨And.left, fun h => ⟨h, fun g hg => ?_⟩⟩
  rw [h, hg]

/-- A step kind suits a field as R45 says. -/
theorem stepSuits_iff {b : Byte} {k : StepKind} (hk : stepKindOf b = some k) (f : Field) :
    stepSuits k f = true ↔ suitsStep b.toNat f := by
  have hb : b.toNat ≤ 4 := (stepKindOf_isSome b).1 ⟨k, hk⟩
  have clamp : (match handling f with
      | .clamp _ _ => true
      | .enum _ => false) = true ↔ ∃ lo hi, handling f = .clamp lo hi := by cases handling f <;> simp
  have enum : (match handling f with
      | .clamp _ _ => false
      | .enum _ => true) = true ↔ ∃ set, handling f = .enum set := by cases handling f <;> simp
  have fine : stepSuits .fine f = true ↔ (∃ c, f = .chOffset c) ∨ f = .trigLevel ∨ f = .trigUpper := by
    cases f <;> simp [stepSuits]
  unfold stepKindOf at hk
  unfold suitsStep
  rcases (by omega : b.toNat = 0 ∨ b.toNat = 1 ∨ b.toNat = 2 ∨ b.toNat = 3 ∨ b.toNat = 4) with h | h | h | h | h <;>
    rw [h] at hk ⊢ <;> cases hk
  · exact clamp.trans (by simp)
  · exact fine.trans (by simp)
  · exact clamp.trans (by simp)
  · simp [stepSuits]
  · exact enum.trans (by simp)

/-- An ID names a field that suits the step kind. -/
theorem suitable_iff {b : Byte} {k : StepKind} (hk : stepKindOf b = some k) (n : Nat) :
    (match fieldOfId n with
      | some f => stepSuits k f
      | none => false) = true ↔ ∃ f, fieldId f = n ∧ suitsStep b.toNat f := by
  simp only [← fieldOfId_eq_some]
  cases fieldOfId n with
  | none => simp
  | some f => simp [stepSuits_iff hk]

theorem operandsOk_iff (mk : MatchKind) (a b : Byte) : operandsOk mk a b = true ↔
    (matchKindCode mk = 0 → a.toNat ≤ b.toNat ∧ b.toNat ≤ 75) ∧
    (matchKindCode mk = 1 → a.toNat ≤ 75 ∧ b.toNat ≤ 75) ∧
    (matchKindCode mk = 2 → a.toNat ≤ 127 ∧ b.toNat ≤ 127) := by
  cases mk <;> simp [operandsOk, matchKindCode]
  omega

/-- The IDs that an EDIT entry can name all suit its step kind. -/
theorem editIds_all (e : RouteEntry) (p : Nat → Bool) : (editIds e).all p = true ↔
    (matchKindCode e.matchKind = 0 → ∀ c, e.a.toNat ≤ c → c ≤ e.b.toNat →
      p (e.fieldBase.toNat + (c - e.a.toNat) * e.stride.toNat) = true) ∧
    (matchKindCode e.matchKind ≠ 0 → p e.fieldBase.toNat = true) := by
  unfold editIds
  cases hm : e.matchKind with
  | range =>
    simp only [matchKindCode, List.all_map, List.all_eq_true, List.mem_range, Function.comp, forall_const, ne_eq,
      not_true_eq_false, false_implies, and_true]
    have hid : ∀ c, editId e c = e.fieldBase.toNat + (c - e.a.toNat) * e.stride.toNat := fun c => by
      rw [editId, hm]
    refine ⟨fun h c h1 h2 => ?_, fun h i hi => ?_⟩
    · have := h (c - e.a.toNat) (by omega)
      rwa [hid, Nat.add_sub_cancel' h1] at this
    · rw [hid]; exact h _ (by omega) (by omega)
  | pair => simp [matchKindCode]
  | mask => simp [matchKindCode]

/-- The step-kind, field and step checks of an EDIT entry. -/
theorem editOk_iff (e : RouteEntry) : editOk e = true ↔ (e.action = .edit → e.stepKind.toNat ≤ 4 ∧ e.stride.toNat ≤ 60 ∧
    (matchKindCode e.matchKind = 0 → ∀ c, e.a.toNat ≤ c → c ≤ e.b.toNat →
      ∃ f, fieldId f = e.fieldBase.toNat + (c - e.a.toNat) * e.stride.toNat ∧ suitsStep e.stepKind.toNat f) ∧
    (matchKindCode e.matchKind ≠ 0 → ∃ f, fieldId f = e.fieldBase.toNat ∧ suitsStep e.stepKind.toNat f)) := by
  unfold editOk
  by_cases ha : e.action = .edit
  · simp only [ha, if_true, forall_const]
    cases hk : stepKindOf e.stepKind with
    | none =>
      have : ¬ e.stepKind.toNat ≤ 4 := fun h => by
        obtain ⟨k, hk'⟩ := (stepKindOf_isSome _).2 h
        rw [hk] at hk'; cases hk'
      simp [this]
    | some k =>
      have h4 : e.stepKind.toNat ≤ 4 := (stepKindOf_isSome _).1 ⟨k, hk⟩
      rw [Bool.and_eq_true, decide_eq_true_eq, editIds_all]
      refine (and_congr_right fun _ => and_congr ?_ ?_).trans (and_iff_right h4).symm
      · exact forall_congr' fun _ => forall_congr' fun c => forall_congr' fun _ => forall_congr' fun _ => suitable_iff hk _
      · exact forall_congr' fun _ => suitable_iff hk _
  · simp [ha]

/-- The entry that the parts of a PANEL.ROUTE_SET spell, once each enumeration is read. -/
def spelledRoute (en : Bool) (mk : MatchKind) (a b ks : Byte) (co : RunCond) (ex : Bool) (ac : Action) (fb st sk : Byte) :
    RouteEntry := ⟨en, mk, a, b, ks.setWidth 3, co, ex, ac, fb, st, sk⟩

section
variable {en mk a b ks co ex ac fb st sk : Byte} {en' : Bool} {mk' : MatchKind} {co' : RunCond} {ex' : Bool} {ac' : Action}
  (hen : onOff en = some en') (hmk : matchKindOf mk = some mk') (hco : runCondOf co = some co') (hex : onOff ex = some ex')
  (hac : actionOf ac = some ac')
include hen hmk hco hex hac

/-- With every enumeration in its set, the other checks decide. -/
theorem routeOf_read : routeOf en mk a b ks co ex ac fb st sk =
    if (decide (ks.toNat < 8) && operandsOk mk' a b && editOk (spelledRoute en' mk' a b ks co' ex' ac' fb st sk)) = true
    then some (spelledRoute en' mk' a b ks co' ex' ac' fb st sk) else none := by
  rw [routeOf, hen, hmk, hco, hex, hac]
  rfl

theorem routePasses_read : routePasses en mk a b ks co ex ac fb st sk ↔
    (decide (ks.toNat < 8) && operandsOk mk' a b && editOk (spelledRoute en' mk' a b ks co' ex' ac' fb st sk)) = true := by
  have h1 := (onOff_isSome en).1 ⟨_, hen⟩
  have h2 := (matchKindOf_isSome mk).1 ⟨_, hmk⟩
  have h3 := (runCondOf_isSome co).1 ⟨_, hco⟩
  have h4 := (onOff_isSome ex).1 ⟨_, hex⟩
  have h5 := (actionOf_isSome ac).1 ⟨_, hac⟩
  have hm : mk.toNat = matchKindCode mk' := by rw [(matchKindOf_iff mk mk').1 hmk]; cases mk' <;> rfl
  have ha : ac.toNat = 3 ↔ ac' = .edit := by rw [(actionOf_iff ac ac').1 hac]; cases ac' <;> decide
  rw [Bool.and_eq_true, Bool.and_eq_true, decide_eq_true_eq, operandsOk_iff, editOk_iff, routePasses, hm, ha]
  simp only [h1, h3, h4, h5, hm ▸ h2, true_and, and_assoc, spelledRoute]

omit hmk hco hac in
theorem spelledRoute_bytes (hmk : mk = byteOf (matchKindCode mk')) (hco : co = byteOf (runCondCode co'))
    (hac : ac = byteOf (actionCode ac')) (hks : ks.toNat < 8) :
    routeBytes (spelledRoute en' mk' a b ks co' ex' ac' fb st sk) = [en, mk, a, b, ks, co, ex, ac, fb, st, sk] := by
  have hk : (ks.setWidth 3).setWidth 8 = ks := by
    refine BitVec.eq_of_toNat_eq ?_
    simp only [BitVec.toNat_setWidth]
    omega
  simp only [routeBytes, spelledRoute, hk, ← (onOff_iff _ _).1 hen, ← (onOff_iff _ _).1 hex, ← hmk, ← hco, ← hac]

end

/-- The parts that pass every check spell an entry that carries them, and no other parts spell one. -/
theorem routeOf_cases (en mk a b ks co ex ac fb st sk : Byte) :
    (routePasses en mk a b ks co ex ac fb st sk → ∃ e, routeOf en mk a b ks co ex ac fb st sk = some e ∧
      routeBytes e = [en, mk, a, b, ks, co, ex, ac, fb, st, sk]) ∧
    (¬ routePasses en mk a b ks co ex ac fb st sk → routeOf en mk a b ks co ex ac fb st sk = none) := by
  refine ⟨fun h => ?_, fun h => ?_⟩
  · have hr := h
    obtain ⟨h1, h2, hks, h3, h4, h5, -⟩ := h
    obtain ⟨en', hen⟩ := (onOff_isSome en).2 h1
    obtain ⟨mk', hmk⟩ := (matchKindOf_isSome mk).2 h2
    obtain ⟨co', hco⟩ := (runCondOf_isSome co).2 h3
    obtain ⟨ex', hex⟩ := (onOff_isSome ex).2 h4
    obtain ⟨ac', hac⟩ := (actionOf_isSome ac).2 h5
    refine ⟨_, (routeOf_read hen hmk hco hex hac).trans (if_pos ((routePasses_read hen hmk hco hex hac).1 hr)), ?_⟩
    exact spelledRoute_bytes hen hex ((matchKindOf_iff _ _).1 hmk) ((runCondOf_iff _ _).1 hco) ((actionOf_iff _ _).1 hac) hks
  · cases hen : onOff en with
    | none => simp [routeOf, hen]
    | some en' =>
      cases hmk : matchKindOf mk with
      | none => simp [routeOf, hmk]
      | some mk' =>
        cases hco : runCondOf co with
        | none => simp [routeOf, hco]
        | some co' =>
          cases hex : onOff ex with
          | none => simp [routeOf, hex]
          | some ex' =>
            cases hac : actionOf ac with
            | none => simp [routeOf, hac]
            | some ac' =>
              rw [routeOf_read hen hmk hco hex hac]
              exact if_neg fun hp => h ((routePasses_read hen hmk hco hex hac).2 hp)

theorem ownPanelRouteSet_some (l : Link) (tag kind : Byte) {index : Byte} (e : RouteEntry) (s : State)
    (h : index.toNat < 24) : ownPanelRouteSet l index (some e) (working l tag kind s) = replied l tag .ok .nothing
      (s.withRouter { s.router with routes := s.router.routes.set index.toNat e h }) :=
  (dif_pos h).trans (answer_of_working _ _ rfl)

theorem ownPanelRouteSet_refused (l : Link) (tag kind : Byte) {index : Byte} {entry : Option RouteEntry} (s : State)
    (h : entry = none ∨ 24 ≤ index.toNat) :
    ownPanelRouteSet l index entry (working l tag kind s) = replied l tag .invalid .nothing s := by
  by_cases hi : index.toNat < 24
  · obtain rfl := h.resolve_right (by omega)
    exact (dif_pos hi).trans (answer_working ..)
  · exact (dif_neg hi).trans (answer_working ..)

/-! ### The default action (R46) -/

theorem defaultOf_none {b : Byte} (h : b.toNat ∉ [0, 1, 2, 9]) : defaultOf b = none := by
  revert b; decide

/-- Settles O28: each owner by the range or the check that decides it. -/
theorem panelSettingsSetAndGet : Obligations.PanelSettingsSetAndGet := by
  refine ⟨fun l tag mode threshold setting s ht => ⟨fun hm h1 h2 h3 => ?config, fun h => ?badConfig, ?get⟩,
    fun l tag index en mk a b ks co ex ac fb st sk action s ht => ⟨fun hp hi => ?route, fun h => ?badRoute, fun hi => ?noEntry,
      fun hi => ?entry, ?default, fun d hd => ?setDefault, fun h => ?badDefault⟩⟩
  case config =>
    refine (request_taking tag _ ht rfl).trans (congrArg Host.Outcome.next ?_)
    exact ownPanelQueueConfig_in_range l tag _ s hm h1 h2 h3
  case badConfig =>
    refine (request_taking tag _ ht rfl).trans (congrArg Host.Outcome.next ?_)
    exact ownPanelQueueConfig_out_of_range l tag _ s h
  case get => exact (request_taking tag _ ht rfl).trans (congrArg Host.Outcome.next (answer_working ..))
  case route =>
    obtain ⟨e, he, hb⟩ := (routeOf_cases en mk a b ks co ex ac fb st sk).1 hp
    refine ⟨e, (request_taking (kind := 0x24#8) tag _ ht rfl).trans (congrArg Host.Outcome.next ?_), hb⟩
    rw [he]
    exact ownPanelRouteSet_some l tag _ e s hi
  case badRoute =>
    refine (request_taking (kind := 0x24#8) tag _ ht rfl).trans (congrArg Host.Outcome.next ?_)
    exact ownPanelRouteSet_refused l tag _ s (h.imp_left (routeOf_cases en mk a b ks co ex ac fb st sk).2)
  case noEntry =>
    refine (request_taking (kind := 0x23#8) tag _ ht rfl).trans (congrArg Host.Outcome.next ?_)
    have hn : (working l tag 0x23#8 s).router.routes[index.toNat]? = none := Vector.getElem?_eq_none_iff.2 hi
    rw [ownPanelRouteGet, hn]
    exact answer_working ..
  case entry =>
    refine (request_taking (kind := 0x23#8) tag _ ht rfl).trans (congrArg Host.Outcome.next ?_)
    have he : (working l tag 0x23#8 s).router.routes[index.toNat]? = some s.router.routes[index.toNat] :=
      Vector.getElem?_eq_some_iff.2 ⟨hi, rfl⟩
    rw [ownPanelRouteGet, he]
    exact answer_working ..
  case default => exact (request_taking tag _ ht rfl).trans (congrArg Host.Outcome.next (answer_working ..))
  case setDefault =>
    refine (request_taking (kind := 0x26#8) tag _ ht rfl).trans (congrArg Host.Outcome.next ?_)
    have hd' : defaultOf action = some d := by rcases hd with ⟨rfl, rfl⟩ | ⟨rfl, rfl⟩ | ⟨rfl, rfl⟩ | ⟨rfl, rfl⟩ <;> rfl
    rw [ownPanelDefaultSet, hd']
    exact answer_of_working _ _ rfl
  case badDefault =>
    refine (request_taking (kind := 0x26#8) tag _ ht rfl).trans (congrArg Host.Outcome.next ?_)
    rw [ownPanelDefaultSet, defaultOf_none h]
    exact answer_working ..

end Sys2Proof.Machine
end

section
/-! PROOFS. When an LED is lit, the LED requests and LOCKOUT.SET (R57 to R60, R62, R63). -/

namespace Sys2Proof.Machine

/-- A taking link hands a request that is not long to its owner, whose state is the next. -/
theorem request_next {l : Link} {s t : State} {tag kind : Byte} {owner : State → State} (ht : taking l s)
    (hk : longKind kind = false) (h : owner (working l tag kind s) = t) : request l tag kind owner s = .next t :=
  (request_taking tag _ ht hk).trans (congrArg Host.Outcome.next h)

/-! ### Levels (R57) -/

theorem ledLevel_standby {s : State} (h : s.power.state = .standby) (e : LedEntry) :
    ledLevel e s = true ↔ e.source = .standbyInd := by
  by_cases hi : e.source = .standbyInd <;> simp [ledLevel, h, hi, sourceLit]

/-- Outside STANDBY an LED shows its source. -/
theorem ledLevel_source {s : State} (h : s.power.state ≠ .standby) (e : LedEntry) : ledLevel e s = sourceLit e s :=
  if_neg fun hs => h hs.1

theorem runBit_iff (r : RunState) (set : BitVec 3) : set.getLsbD (runCode r) = true ↔
    ((r = .stopped ∧ set.getLsbD 0 = true) ∨ (r = .running ∧ set.getLsbD 1 = true) ∨
      (r = .single ∧ set.getLsbD 2 = true)) := by
  cases r <;> simp [runCode]

theorem capBit_iff (c : CapState) (set : BitVec 5) : set.getLsbD (capCode c) = true ↔
    ((c = .idle ∧ set.getLsbD 0 = true) ∨ (c = .waitSlot ∧ set.getLsbD 1 = true) ∨
      (c = .prefill ∧ set.getLsbD 2 = true) ∨ (c = .armed ∧ set.getLsbD 3 = true) ∨
      (c = .postfill ∧ set.getLsbD 4 = true)) := by
  cases c <;> simp [capCode]

/-! ### The LED requests (R58 to R60) -/

theorem ledSourceOf_none {source : Byte} (op : Byte) (v : Word) (h : 6 < source.toNat) : ledSourceOf source op v = none := by
  unfold ledSourceOf
  split
  case h_8 => rfl
  all_goals omega

theorem ledSourceOf_iff (source op : Byte) (v : Word) (src : LedSource) : ledSourceOf source op v = some src ↔
    ((source = 0#8 ∧ ∃ f, fieldOfId op.toNat = some f ∧ src = .fieldEq f v.toInt) ∨
      (source = 1#8 ∧ op.toNat < 8 ∧ src = .runState (op.setWidth 3)) ∨
      (source = 2#8 ∧ op.toNat < 32 ∧ src = .capState (op.setWidth 5)) ∨ (source = 3#8 ∧ src = .lockout) ∨
      (source = 4#8 ∧ src = .link) ∨ (source = 5#8 ∧ src = .standbyInd) ∨ (source = 6#8 ∧ src = .off)) := by
  simp only [← BitVec.toNat_inj, BitVec.toNat_ofNat]
  by_cases h6 : 6 < source.toNat
  · rw [ledSourceOf_none op v h6]
    simp
    omega
  · unfold ledSourceOf
    rcases (by omega : source.toNat = 0 ∨ source.toNat = 1 ∨ source.toNat = 2 ∨ source.toNat = 3 ∨ source.toNat = 4 ∨
      source.toNat = 5 ∨ source.toNat = 6) with h | h | h | h | h | h | h
    all_goals rw [h]; simp [eq_comm]

/-- A set that no source has, or a field that there is not. -/
theorem ledSourceOf_refused {source op : Byte} (v : Word) (h : 6 < source.toNat ∨ (source = 0#8 ∧ fieldOfId op.toNat = none) ∨
    (source = 1#8 ∧ 8 ≤ op.toNat) ∨ (source = 2#8 ∧ 32 ≤ op.toNat)) : ledSourceOf source op v = none := by
  rcases h with h | ⟨rfl, h⟩ | ⟨rfl, h⟩ | ⟨rfl, h⟩
  · exact ledSourceOf_none op v h
  · exact congrArg (Option.map _) h
  · exact if_neg (Nat.not_lt.2 h)
  · exact if_neg (Nat.not_lt.2 h)

/-- An LED's entry replaced under a request in work, every LED set from its source, and the request then answered. -/
theorem answer_setLed_working (l : Link) (tag kind : Byte) (i : Fin 32) (e : LedEntry) (s : State) :
    ∃ t, answer l .ok .nothing (evalLeds (setLed i e (working l tag kind s))) = t ∧
      t = replied l tag .ok .nothing (s.withRouter { s.router with leds := s.router.leds.set i e, lit := t.router.lit }) ∧
      ledsFollow t := by
  refine ⟨_, rfl, ?_, ledsFollow_of_view (s := evalLeds (setLed i e (working l tag kind s))) rfl (evalLeds_follows _)⟩
  obtain ⟨lit, h⟩ := evalLeds_eq (setLed i e (working l tag kind s))
  rw [h]
  exact answer_of_working (s := s) .ok .nothing rfl

/-! ### LOCKOUT.SET (R62, R63) -/

theorem lockoutOf_eq {x : Byte} {y : Lockout} (h : x.toNat = lockoutCode y) : lockoutOf x = some y := by
  rw [lockoutOf, h]; cases y <;> rfl

theorem lockoutOf_none {x : Byte} (h : 2 < x.toNat) : lockoutOf x = none := List.getElem?_eq_none h

theorem notifyBoth_notices (n : Notice) (m : Link) (s : State) :
    ((notifyBoth n s).links.get m).notices = (s.links.get m).notices ||| noticeMask n := by
  rw [notifyBoth, notify_notices, notify_notices]
  cases m <;> rfl

theorem notifyBoth_frame (n : Notice) (s : State) : notifyBoth n s = s.withLinks (notifyBoth n s).links := rfl

/-- A change of the lockout state leaves all but the router and the notices. -/
theorem setLockout_changed {x : Lockout} {s : State} (h : s.router.lockout ≠ x) :
    ∃ lit, setLockout x s = (s.withRouter { s.router with lockout := x, lit := lit }).withLinks (notifyBoth .lockout s).links := by
  obtain ⟨lit, hl⟩ := evalLeds_eq (s.withRouter { s.router with lockout := x })
  refine ⟨lit, ?_⟩
  rw [setLockout, if_neg h, hl]
  rfl

theorem setLockout_follows {x : Lockout} {s : State} (h : s.router.lockout ≠ x) : ledsFollow (setLockout x s) := by
  rw [setLockout, if_neg h]
  exact ledsFollow_of_view rfl (evalLeds_follows (s.withRouter { s.router with lockout := x }))

theorem lockoutSet_changes {tag : Byte} {y : Lockout} {s : State} (h : s.router.lockout ≠ y) :
    ∃ t, answer .remote .ok (.lockouts s.router.lockout y) (setLockout y (working .remote tag 0x2A#8 s)) = t ∧
      t.router = { s.router with lockout := y, lit := t.router.lit } ∧
      (s.power.phase = .up → ∀ i : Fin 32, t.router.lit[i] = ledLevel t.router.leds[i] t) ∧
      answered .remote tag .ok (.lockouts s.router.lockout y) t ∧
      (∀ l, (t.links.get l).notices = (s.links.get l).notices ||| noticeMask .lockout) ∧
      t.setup = s.setup ∧ t.seq = s.seq ∧ t.queues = s.queues ∧ t.store = s.store ∧ t.saved = s.saved ∧
      t.power = s.power := by
  have hw : (working .remote tag 0x2A#8 s).router.lockout ≠ y := h
  obtain ⟨lit, he⟩ := setLockout_changed hw
  have hf : ledsFollow (answer .remote .ok (.lockouts s.router.lockout y) (setLockout y (working .remote tag 0x2A#8 s))) :=
    ledsFollow_of_view rfl (setLockout_follows hw)
  refine ⟨_, rfl, ?_, ?_, answered_answer (kind := 0x2A#8) _ _ ?_, fun l => ?_, ?_⟩
  · rw [he]; rfl
  · refine fun hp => hf ?_
    rw [he]
    exact hp
  · rw [he]; rfl
  · rw [answer_notices, he]
    exact (notifyBoth_notices ..).trans (by rw [working_notices])
  · rw [he]; exact ⟨rfl, rfl, rfl, rfl, rfl, rfl⟩

theorem ownLockoutSet_state {x : Byte} {y : Lockout} (h : lockoutOf x = some y) (s : State) :
    ownLockoutSet .remote x s = answer .remote .ok (.lockouts s.router.lockout y) (setLockout y s) := by
  simp only [ownLockoutSet, h]

theorem ownLockoutSet_none {x : Byte} (h : lockoutOf x = none) (s : State) :
    ownLockoutSet .remote x s = answer .remote .invalid .nothing s := by
  simp only [ownLockoutSet, h]

/-- Settles O29: levels by the source, the LED requests by their checks, LOCKOUT.SET by the link and the change. -/
theorem ledsAndLockoutAreSet : Obligations.LedsAndLockoutAreSet := by
  refine ⟨fun s => ⟨fun e => ⟨fun h => ledLevel_standby h e, fun h => ?levels⟩,
    fun l tag led value source op opValue ht => ⟨fun hup hl => ⟨fun v hv => ?set, fun src hsrc => ?config⟩, fun hl => ?get,
      fun h => ?badSet, fun h => ?badConfig, fun h => ?badGet⟩⟩,
    fun tag x s => ⟨fun ht => ?console, fun ht => ⟨fun h => ?noState, fun y hy => ⟨fun h => ?same, fun h => ?changes⟩⟩⟩⟩
  case levels =>
    rw [ledLevel_source h]
    refine ⟨fun f v he => ?_, fun set he => ?_, fun set he => ?_, fun he => ?_, fun he => ?_, ?_⟩
    · simp [sourceLit, he]
    · rw [sourceLit, he]; exact runBit_iff ..
    · rw [sourceLit, he]; exact capBit_iff ..
    · simp [sourceLit, he]
    · rw [sourceLit, he]
    · rintro (he | he) <;> simp [sourceLit, he, h]
  case set =>
    obtain ⟨t, ha, he, hf⟩ := answer_setLed_working l tag 0x27#8 ⟨led.toNat, hl⟩
      { s.router.leds[led.toNat] with linkValue := v } s
    refine ⟨t, request_next (tag := tag) (kind := 0x27#8) ht rfl ?_, he, hf (by rw [he]; exact hup)⟩
    rw [ownPanelLedSet, dif_pos hl, (onOff_iff value v).2 (hv.trans (by cases v <;> rfl))]
    exact ha
  case config =>
    obtain ⟨t, ha, he, hf⟩ := answer_setLed_working l tag 0x29#8 ⟨led.toNat, hl⟩
      { s.router.leds[led.toNat] with source := src } s
    refine ⟨t, request_next (tag := tag) (kind := 0x29#8) ht rfl ?_, he, hf (by rw [he]; exact hup)⟩
    rw [ownPanelLedConfig, dif_pos hl, (ledSourceOf_iff source op opValue src).2 hsrc]
    exact ha
  case get => exact request_next (tag := tag) (kind := 0x28#8) ht rfl ((dif_pos hl).trans (answer_working ..))
  case badSet =>
    refine request_next (tag := tag) (kind := 0x27#8) ht rfl ?_
    by_cases hl : led.toNat < 32
    · rw [ownPanelLedSet, dif_pos hl, onOff_none (h.resolve_left (by omega))]
      exact answer_working ..
    · exact (dif_neg hl).trans (answer_working ..)
  case badConfig =>
    refine request_next (tag := tag) (kind := 0x29#8) ht rfl ?_
    by_cases hl : led.toNat < 32
    · rw [ownPanelLedConfig, dif_pos hl, ledSourceOf_refused opValue (h.resolve_left (by omega))]
      exact answer_working ..
    · exact (dif_neg hl).trans (answer_working ..)
  case badGet =>
    exact request_next (tag := tag) (kind := 0x28#8) ht rfl ((dif_neg (Nat.not_lt.2 h)).trans (answer_working ..))
  case console => exact request_next (tag := tag) (kind := 0x2A#8) ht rfl (answer_working ..)
  case noState =>
    refine request_next (tag := tag) (kind := 0x2A#8) ht rfl ?_
    exact (ownLockoutSet_none (lockoutOf_none h) _).trans (answer_working ..)
  case same =>
    refine request_next (tag := tag) (kind := 0x2A#8) ht rfl ?_
    have hs : setLockout y (working .remote tag 0x2A#8 s) = working .remote tag 0x2A#8 s := if_pos h
    have hl : (working .remote tag 0x2A#8 s).router.lockout = y := h
    rw [ownLockoutSet_state (lockoutOf_eq hy), hs, hl]
    exact answer_working ..
  case changes =>
    obtain ⟨t, ha, hrest⟩ := lockoutSet_changes (tag := tag) h
    exact ⟨t, request_next (tag := tag) (kind := 0x2A#8) ht rfl ((ownLockoutSet_state (lockoutOf_eq hy) _).trans ha), hrest⟩

end Sys2Proof.Machine
end

section
/-! PROOFS. ATTENTION, LINK.STATUS, LINK.CONFIG and LINK.CLEAR_NOTICES (R195 to R198, R208). -/

namespace Sys2Proof.Machine

theorem working_link (l : Link) (tag kind : Byte) (s : State) : (working l tag kind s).links.get l =
    { s.links.get l with response := none, inWork := some (tag, kind), ready := false } := by simp [working]

/-! ### ATTENTION (R195) -/

theorem bits_ne_zero_iff (x : BitVec 7) : x ≠ 0#7 ↔ ∃ i < 7, x.getLsbD i = true := by
  refine ⟨fun h => Classical.byContradiction fun hn => h (BitVec.eq_of_getLsbD_eq fun i hi => ?_), fun ⟨i, _, hi⟩ => ?_⟩
  · rw [BitVec.getLsbD_zero]
    exact Bool.eq_false_iff.2 fun ht => hn ⟨i, hi, ht⟩
  · rintro rfl
    simp at hi

theorem attention_iff (k : LinkState) : attention k = true ↔ (k.opened = true ∧ k.resetLine = false ∧
    ∃ i < 7, k.notices.getLsbD i = true ∧ k.enables.getLsbD i = true) := by
  have hne := bits_ne_zero_iff (k.notices &&& k.enables)
  simp only [BitVec.getLsbD_and, Bool.and_eq_true] at hne
  simp [attention, takesTransfers, hne, and_assoc]

/-! ### LINK.STATUS (R198, R208) -/

theorem ownLinkStatus_working (l : Link) (tag kind : Byte) (s : State) :
    ownLinkStatus l (working l tag kind s) = replied l tag .ok (statusPayload l s) s := by
  have hp : statusPayload l (working l tag kind s) = statusPayload l s := by simp only [statusPayload, working_link]; rfl
  rw [ownLinkStatus, hp]
  exact answer_working ..

theorem exec_linkStatus_ready {l : Link} {s : State} (tag : Byte) (h : ready l s) :
    exec (.linkStatus l tag) s = .next (replied l tag .ok (statusPayload l s) s) := by
  refine (takeRequest_ready tag linkStatusKind true _ h).trans ?_
  have hk : longKind linkStatusKind = false := rfl
  simp [judgeRequest, hk, ownLinkStatus_working]

/-! ### LINK.CONFIG (R197) -/

theorem styleOf_eq {b : Byte} (h : b.toNat ≤ 1) : styleOf b = some (if b = 0#8 then .hold else .defer) := by
  rcases (by bv_omega : b = 0#8 ∨ b = 1#8) with rfl | rfl <;> rfl

theorem styleOf_none {b : Byte} (h : 1 < b.toNat) : styleOf b = none := List.getElem?_eq_none h

theorem noticeSet_eq {b : Byte} (h : b.toNat < 128) : noticeSet b = some (b.setWidth 7) := if_pos h
theorem noticeSet_none {b : Byte} (h : 128 ≤ b.toNat) : noticeSet b = none := if_neg (Nat.not_lt.2 h)

theorem ownLinkConfig_in_range (l : Link) (tag kind : Byte) {style enables : Byte} (s : State) (h1 : style.toNat ≤ 1)
    (h2 : enables.toNat < 128) : ownLinkConfig l style enables (working l tag kind s) = replied l tag .ok
      (.config (s.links.get l).style (s.links.get l).enables) (s.withLinks (s.links.set l { s.links.get l with
        style := if style = 0#8 then .hold else .defer, enables := enables.setWidth 7 })) := by
  simp only [ownLinkConfig, styleOf_eq h1, noticeSet_eq h2, working_link]
  simp [answer, setLink, replied, working]

theorem ownLinkConfig_out_of_range (l : Link) (tag kind : Byte) {style enables : Byte} (s : State)
    (h : 1 < style.toNat ∨ 128 ≤ enables.toNat) :
    ownLinkConfig l style enables (working l tag kind s) = replied l tag .invalid .nothing s := by
  rcases h with h | h
  · simp only [ownLinkConfig, styleOf_none h]
    exact answer_working ..
  · simp only [ownLinkConfig, noticeSet_none h]
    cases styleOf style <;> exact answer_working ..

/-! ### LINK.CLEAR_NOTICES (R196, R53) -/

theorem eventsBit_iff (a b : BitVec 7) :
    (a &&& b &&& noticeMask .events) = 0#7 ↔ ¬ (a.getLsbD 0 = true ∧ b.getLsbD 0 = true) := by
  rw [← Bool.and_eq_true, ← BitVec.getLsbD_and]
  generalize a &&& b = x
  revert x
  decide

/-- The queue timer of a clear of EVENTS, by whether it was pending and the queue holds an entry. -/
theorem eventsCleared_eq (l : Link) (before cleared : BitVec 7) (s : State) : eventsCleared l before cleared s =
    s.withQueues (s.queues.set l { s.queues.get l with
      timer := if before.getLsbD 0 = true ∧ cleared.getLsbD 0 = true ∧ (s.queues.get l).entries ≠ []
        then some ((s.queues.get l).setting * 1000000) else (s.queues.get l).timer }) := by
  have same : s.withQueues (s.queues.set l (s.queues.get l)) = s := by rw [PerLink.set_get]; rfl
  unfold eventsCleared
  by_cases hb : before.getLsbD 0 = true ∧ cleared.getLsbD 0 = true
  · rw [if_neg (fun h => (eventsBit_iff before cleared).1 h hb)]
    by_cases he : (s.queues.get l).entries = []
    · rw [restartAfterClear, if_pos he, if_neg (fun h => h.2.2 he)]
    · rw [restartAfterClear, if_neg he, if_pos ⟨hb.1, hb.2, he⟩]
      rfl
  · rw [if_pos ((eventsBit_iff before cleared).2 hb), if_neg (fun h => hb ⟨h.1, h.2.1⟩)]
    exact same.symm

theorem ownLinkClearNotices_in_range (l : Link) (tag kind : Byte) {notices : Byte} (s : State) (h : notices.toNat < 128) :
    ownLinkClearNotices l notices (working l tag kind s) = replied l tag .ok (.notices (s.links.get l).notices)
      (eventsCleared l (s.links.get l).notices (notices.setWidth 7) (s.withLinks (s.links.set l { s.links.get l with
        notices := (s.links.get l).notices &&& ~~~(notices.setWidth 7) }))) := by
  simp only [ownLinkClearNotices, noticeSet_eq h, eventsCleared_eq, working_link]
  refine (answer_of_working (tag := tag) (kind := kind) (s := s.withLinks (s.links.set l { s.links.get l with
    notices := (s.links.get l).notices &&& ~~~(notices.setWidth 7) })) _ _ ?_).trans rfl
  simp [setLink, working]

theorem ownLinkClearNotices_out_of_range (l : Link) (tag kind : Byte) {notices : Byte} (s : State)
    (h : 128 ≤ notices.toNat) : ownLinkClearNotices l notices (working l tag kind s) = replied l tag .invalid .nothing s := by
  simp only [ownLinkClearNotices, noticeSet_none h]
  exact answer_working ..

/-- Settles O41: LINK.STATUS whatever the power state, the others by their ranges. -/
theorem linkStatusConfigClear : Obligations.LinkStatusConfigClear := by
  refine fun l tag style enables notices s => ⟨attention_iff, fun hr => ⟨exec_linkStatus_ready tag hr, fun ha => ?_⟩⟩
  have ht : taking l s := ⟨hr.1, hr.2, ha⟩
  refine ⟨fun h1 h2 => ?config, fun h => ?badConfig, fun h => ?clear, fun h => ?badClear⟩
  case config =>
    exact request_next (tag := tag) (kind := 0x71#8) ht rfl (ownLinkConfig_in_range l tag _ s h1 h2)
  case badConfig =>
    exact request_next (tag := tag) (kind := 0x71#8) ht rfl (ownLinkConfig_out_of_range l tag _ s h)
  case clear =>
    refine request_next (tag := tag) (kind := 0x72#8) ht rfl ((ownLinkClearNotices_in_range l tag _ s h).trans ?_)
    have hbit : (notices.setWidth 7).getLsbD 0 = notices.getLsbD 0 := by simp
    rw [eventsCleared_eq, hbit]
    rfl
  case badClear =>
    exact request_next (tag := tag) (kind := 0x72#8) ht rfl (ownLinkClearNotices_out_of_range l tag _ s h)

end Sys2Proof.Machine
end

section
/-! PROOFS. STORE.LIST, STORE.CANCEL and STORE.RESULT (R181, R182, R194). -/

namespace Sys2Proof.Machine

@[simp] theorem working_saved (l : Link) (tag kind : Byte) (s : State) : (working l tag kind s).saved = s.saved := rfl

/-! ### Final statuses (R192, R193) -/

/-- The deferred record once the final status of its request has been placed, with RESULT. -/
def resultReady (tag kind : Byte) (status : Status) (payload : Payload) (k : LinkState) : LinkState :=
  { k with deferred := .ready tag kind status payload, notices := k.notices ||| noticeMask .result }

/-- A final status that nobody waits for goes to the deferred record that is OUTSTANDING. -/
theorem finalStatus_deferred {l : Link} {tag kind : Byte} {s : State} (status : Status) (payload : Payload)
    (h : (s.links.get l).deferred = .outstanding tag kind) :
    finalStatus l false status payload s =
      s.withLinks (s.links.set l (resultReady tag kind status payload (s.links.get l))) := by
  simp [finalStatus, h, notify, setLink, resultReady]

/-! ### STORE.CANCEL (R182) -/

section
variable {l : Link} {pre post : List StoreReq} {r : StoreReq} (hr : r.source = some l)
  (hno : ∀ x ∈ pre ++ post, x.source ≠ some l)
include hr hno

theorem find?_ownRequest : (pre ++ r :: post).find? (fun r => r.source == some l) = some r := by
  rw [List.find?_append, List.find?_eq_none.2 fun x hx => by simpa using hno x (List.mem_append_left _ hx)]
  simp [hr]

theorem filter_ownRequest : (pre ++ r :: post).filter (fun r => r.source != some l) = pre ++ post := by
  have keep : ∀ xs : List StoreReq, (∀ x ∈ xs, x.source ≠ some l) → xs.filter (fun r => r.source != some l) = xs :=
    fun xs h => List.filter_eq_self.2 fun x hx => by simpa using h x hx
  rw [List.filter_append, List.filter_cons, if_neg (by simp [hr]), keep pre fun x hx => hno x (List.mem_append_left _ hx),
    keep post fun x hx => hno x (List.mem_append_right _ hx)]

end

theorem find?_noRequest {l : Link} {q : List StoreReq} (h : ∀ r ∈ q, r.source ≠ some l) :
    q.find? (fun r => r.source == some l) = none :=
  List.find?_eq_none.2 fun r hr => by simpa using h r hr

/-- The queued request of the link leaves, and its final status CANCELLED goes to the deferred record. -/
theorem cancelRequest_queued {l : Link} {tag kind t0 k0 : Byte} {pre post : List StoreReq} {r : StoreReq} {s : State}
    (hq : s.saved.queue = pre ++ r :: post) (hno : ∀ x ∈ pre ++ post, x.source ≠ some l) (hr : r.source = some l)
    (hh : r.held = false) (hd : (s.links.get l).deferred = .outstanding t0 k0) :
    ∃ t, cancelRequest l (working l tag kind s) = t ∧
      t = (s.withSaved { s.saved with queue := pre ++ post }).withLinks t.links ∧
      answered l tag .ok .removed t ∧ (t.links.get l).deferred = .ready t0 k0 .cancelled .nothing ∧
      (t.links.get l).notices = (s.links.get l).notices ||| noticeMask .result ∧
      t.links.get (otherLink l) = s.links.get (otherLink l) := by
  have hd' : ((working l tag kind s).links.get l).deferred = .outstanding t0 k0 := by simpa [working_link] using hd
  refine ⟨_, rfl, ?_⟩
  have he : cancelRequest l (working l tag kind s) = answer l .ok .removed (finalStatus l false .cancelled .nothing
      ((working l tag kind s).withSaved { s.saved with queue := pre ++ post })) := by
    simp [cancelRequest, hq, find?_ownRequest hr hno, filter_ownRequest hr hno, deliver, opOf, hr, hh]
  rw [he, finalStatus_deferred (s := (working l tag kind s).withSaved { s.saved with queue := pre ++ post }) _ _ hd']
  refine ⟨rfl, answered_answer (kind := kind) _ _ ?_, ?_, ?_, ?_⟩
  · simp [resultReady, working_link]
  · simp [answer, setLink, resultReady]
  · simp [answer, setLink, resultReady, working_link]
  · cases l <;> rfl

theorem ownStoreCancel_present {l : Link} {s : State} (h : s.saved.ctrl ≠ .absent) :
    ownStoreCancel l s = cancelRequest l s := if_neg h

theorem cancelRequest_inFlight {l : Link} {op : Op} {s : State} (tag kind : Byte) (hq : ∀ r ∈ s.saved.queue, r.source ≠ some l)
    (ho : s.saved.op = some op) (hs : op.req.source = some l) : cancelRequest l (working l tag kind s) =
      replied l tag .ok .marked (s.withSaved { s.saved with op := some { op with marked := true } }) := by
  simp only [cancelRequest, working_saved, find?_noRequest hq, ho, hs, if_true]
  exact answer_of_working (s := s) _ _ rfl

theorem cancelRequest_none {l : Link} {s : State} (tag kind : Byte) (hq : ∀ r ∈ s.saved.queue, r.source ≠ some l)
    (ho : ∀ op, s.saved.op = some op → op.req.source ≠ some l) :
    cancelRequest l (working l tag kind s) = replied l tag .ignored .nothing s := by
  simp only [cancelRequest, working_saved, find?_noRequest hq]
  cases hop : s.saved.op with
  | none => exact answer_working ..
  | some op => exact (if_neg (ho op hop)).trans (answer_working ..)

/-! ### STORE.LIST and STORE.RESULT (R181, R194) -/

theorem ownStoreList_present {l : Link} {s : State} (tag kind : Byte) (h : s.saved.ctrl ≠ .absent) :
    ownStoreList l (working l tag kind s) = replied l tag .ok (listPayload s.saved) s :=
  (if_neg h).trans (answer_working ..)

theorem ownStoreResult_empty {l : Link} {s : State} (tag kind : Byte) (h : (s.links.get l).deferred = .empty) :
    ownStoreResult l (working l tag kind s) = replied l tag .ignored .nothing s := by
  simp only [ownStoreResult, working_link, h]
  exact answer_working ..

theorem ownStoreResult_outstanding {l : Link} {s : State} {t0 k0 : Byte} (tag kind : Byte)
    (h : (s.links.get l).deferred = .outstanding t0 k0) :
    ownStoreResult l (working l tag kind s) = replied l tag .notReady (.outstanding t0 k0) s := by
  simp only [ownStoreResult, working_link, h]
  exact answer_working ..

theorem ownStoreResult_ready {l : Link} {s : State} {t0 k0 : Byte} {st0 : Status} {p0 : Payload} (tag kind : Byte)
    (h : (s.links.get l).deferred = .ready t0 k0 st0 p0) :
    ownStoreResult l (working l tag kind s) = clearNotice l .result (answer l .ok (.result t0 k0 st0 p0)
      (setLink l { (working l tag kind s).links.get l with deferred := .empty } (working l tag kind s))) := by
  simp only [ownStoreResult, working_link, h]

/-- Settles O39: by the controller's state, by where the link's request is, and by the deferred record. -/
theorem storeListCancelResult : Obligations.StoreListCancelResult := by
  refine fun l tag s ht => ⟨fun ha => ⟨?noList, ?noCancel⟩, fun ha => ⟨?list, fun pre r post t0 k0 hq hno hr hh hd => ?queued,
    fun hq => ⟨fun op ho hs => ?inFlight, fun ho => ?nothing⟩⟩, fun h => ?empty, fun t0 k0 h => ?outstanding,
    fun t0 k0 st0 p0 h => ?ready⟩
  case noList => exact request_next (tag := tag) (kind := 0x64#8) ht rfl ((if_pos ha).trans (answer_working ..))
  case noCancel => exact request_next (tag := tag) (kind := 0x65#8) ht rfl ((if_pos ha).trans (answer_working ..))
  case list => exact request_next (tag := tag) (kind := 0x64#8) ht rfl (ownStoreList_present tag _ ha)
  case queued =>
    obtain ⟨t, he, hrest⟩ := cancelRequest_queued (tag := tag) (kind := 0x65#8) hq hno hr hh hd
    exact ⟨t, request_next (tag := tag) (kind := 0x65#8) ht rfl ((ownStoreCancel_present (s := working l tag 0x65#8 s) ha).trans he), hrest⟩
  case inFlight =>
    refine request_next (tag := tag) (kind := 0x65#8) ht rfl ((ownStoreCancel_present (s := working l tag 0x65#8 s) ha).trans ?_)
    exact cancelRequest_inFlight tag _ hq ho hs
  case nothing =>
    refine request_next (tag := tag) (kind := 0x65#8) ht rfl ((ownStoreCancel_present (s := working l tag 0x65#8 s) ha).trans ?_)
    exact cancelRequest_none tag _ hq ho
  case empty => exact request_next (tag := tag) (kind := 0x66#8) ht rfl (ownStoreResult_empty tag _ h)
  case outstanding => exact request_next (tag := tag) (kind := 0x66#8) ht rfl (ownStoreResult_outstanding tag _ h)
  case ready =>
    refine ⟨_, request_next (tag := tag) (kind := 0x66#8) ht rfl (ownStoreResult_ready tag _ h), rfl, ?_⟩
    refine ⟨?_, ?_, ?_, ?_, ?_, ?_⟩
    · simp [answered, clearNotice, answer, setLink, working_link]
    · simp [clearNotice, answer, setLink]
    · simp [clearNotice, answer, setLink, working_link]
    · simp [clearNotice, answer, setLink, working_link]
    · simp [clearNotice, answer, setLink, working_link]
    · cases l <;> rfl

end Sys2Proof.Machine
end

section
/-! PROOFS. Overlay and palette writes (R159 to R161): the pixels that a rectangle writes, and how many. -/

namespace Sys2Proof.Machine

/-- Pixel k of a rectangle of this width and corner, counted along its rows (R159). -/
def isPixel (x y : Int) (w k px py : Nat) : Prop := (px : Int) = x + (k % w : Nat) ∧ (py : Int) = y + (k / w : Nat)

theorem isPixel_inj {x y : Int} {w k k' px py : Nat} (h : isPixel x y w k px py) (h' : isPixel x y w k' px py) : k = k' := by
  obtain ⟨h1, h2⟩ := h
  obtain ⟨h1', h2'⟩ := h'
  have hm : k % w = k' % w := by omega
  have hd : k / w = k' / w := by omega
  rw [← Nat.div_add_mod k w, hm, hd, Nat.div_add_mod]

/-- A pixel of a w by h rectangle is its pixel of one number below w h. -/
theorem isPixel_rectangle {x y : Int} {w h px py : Nat} (hw : 0 < w)
    (hr : x ≤ px ∧ (px : Int) < x + w ∧ y ≤ py ∧ (py : Int) < y + h) :
    ∃ k < w * h, k = ((py : Int) - y).toNat * w + ((px : Int) - x).toNat ∧ isPixel x y w k px py := by
  obtain ⟨i, hi⟩ : ∃ i : Nat, (px : Int) = x + i := ⟨(px - x).toNat, by omega⟩
  obtain ⟨j, hj⟩ : ∃ j : Nat, (py : Int) = y + j := ⟨(py - y).toNat, by omega⟩
  have hiw : i < w := by omega
  have hjh : j < h := by omega
  have ei : ((px : Int) - x).toNat = i := by omega
  have ej : ((py : Int) - y).toNat = j := by omega
  refine ⟨j * w + i, ?_, by rw [ei, ej], ?_, ?_⟩
  · calc j * w + i < j * w + w := by omega
      _ = (j + 1) * w := by ring
      _ ≤ h * w := Nat.mul_le_mul_right w hjh
      _ = w * h := Nat.mul_comm h w
  · rw [Nat.mul_add_mod_of_lt hiw]
    exact hi
  · rw [Nat.add_comm, Nat.add_mul_div_right _ _ hw, Nat.div_eq_of_lt hiw]
    omega

theorem rectangle_of_isPixel {x y : Int} {w h k px py : Nat} (hw : 0 < w) (hk : k < w * h) (hp : isPixel x y w k px py) :
    x ≤ px ∧ (px : Int) < x + w ∧ y ≤ py ∧ (py : Int) < y + h := by
  have h1 := Nat.mod_lt k hw
  have h2 : k / w < h := Nat.div_lt_of_lt_mul hk
  obtain ⟨h3, h4⟩ := hp
  generalize k % w = i at h1 h3
  generalize k / w = j at h2 h4
  omega

/-- Addresses tell pixels of the frame apart. -/
theorem pixelAddress_inj {x y x' y' : Nat} (hx : x < 800) (hx' : x' < 800) :
    pixelAddress x y = pixelAddress x' y' ↔ x = x' ∧ y = y' := by
  simp only [pixelAddress, Config.frameWidth]
  omega

/-- One pixel of a rectangle written. -/
def writePixel (x y : Int) (w k : Nat) (b : Byte) (acc : Memory × Nat) : Memory × Nat :=
  if inFrame (x + (k % w : Nat)) (y + (k / w : Nat)) then
    (memSet acc.1 (pixelAddress (x + (k % w : Nat)).toNat (y + (k / w : Nat)).toNat) b, acc.2 + 1)
  else acc

theorem writePixels_cons (x y : Int) (w k : Nat) (b : Byte) (bs : List Byte) (acc : Memory × Nat) :
    writePixels x y w k (b :: bs) acc = writePixels x y w (k + 1) bs (writePixel x y w k b acc) := rfl

theorem memWf_writePixel (x y : Int) (w k : Nat) (b : Byte) {acc : Memory × Nat} (hw : memWf acc.1 = true) :
    memWf (writePixel x y w k b acc).1 = true := by
  unfold writePixel
  split
  · exact memWf_memSet _ b hw
  · exact hw

theorem inFrame_iff (x y : Int) : inFrame x y = true ↔ 0 ≤ x ∧ x < 800 ∧ 0 ≤ y ∧ y < 480 := by
  simp [inFrame, and_assoc]

section
variable {x y : Int} {w px py : Nat} (hpx : px < 800) (hpy : py < 480)
include hpx hpy

theorem writePixel_other {k : Nat} (b : Byte) {acc : Memory × Nat} (hw : memWf acc.1 = true) (h : ¬ isPixel x y w k px py) :
    memGet (writePixel x y w k b acc).1 (pixelAddress px py) = memGet acc.1 (pixelAddress px py) := by
  unfold writePixel
  split
  · next hf =>
    obtain ⟨h1, h2, h3, h4⟩ := (inFrame_iff _ _).1 hf
    rw [memGet_memSet _ _ _ hw, if_neg]
    rw [pixelAddress_inj hpx (by omega)]
    exact fun he => h ⟨by omega, by omega⟩
  · rfl

theorem writePixel_same {k : Nat} (b : Byte) {acc : Memory × Nat} (hw : memWf acc.1 = true) (h : isPixel x y w k px py) :
    memGet (writePixel x y w k b acc).1 (pixelAddress px py) = b := by
  obtain ⟨h1, h2⟩ := h
  have hf : inFrame (x + (k % w : Nat)) (y + (k / w : Nat)) = true := (inFrame_iff _ _).2 (by omega)
  rw [writePixel, if_pos hf, memGet_memSet _ _ _ hw, if_pos]
  rw [← h1, ← h2, Int.toNat_natCast, Int.toNat_natCast]

/-- A pixel that is none of those written reads as before. -/
theorem writePixels_other (bs : List Byte) {k : Nat} {acc : Memory × Nat} (hw : memWf acc.1 = true)
    (h : ∀ j < bs.length, ¬ isPixel x y w (k + j) px py) :
    memGet (writePixels x y w k bs acc).1 (pixelAddress px py) = memGet acc.1 (pixelAddress px py) := by
  induction bs generalizing k acc with
  | nil => rfl
  | cons b rest ih =>
    rw [writePixels_cons, ih (memWf_writePixel x y w k b hw) fun j hj => ?_]
    · exact writePixel_other hpx hpy b hw (h 0 (by simp))
    · have := h (j + 1) (by simpa using hj)
      rwa [← Nat.add_assoc, Nat.add_right_comm] at this

/-- A pixel of the frame that is one of those written reads its index. -/
theorem writePixels_same (bs : List Byte) {k j : Nat} {acc : Memory × Nat} (hw : memWf acc.1 = true) (hj : j < bs.length)
    (h : isPixel x y w (k + j) px py) : memGet (writePixels x y w k bs acc).1 (pixelAddress px py) = bs.getD j 0#8 := by
  induction bs generalizing k j acc with
  | nil => simp at hj
  | cons b rest ih =>
    rw [writePixels_cons]
    cases j with
    | zero =>
      rw [writePixels_other hpx hpy rest (memWf_writePixel x y w k b hw) fun j _ hp => ?_]
      · exact writePixel_same hpx hpy b hw h
      · have := isPixel_inj h hp
        omega
    | succ j =>
      rw [List.getD_cons_succ]
      refine ih (memWf_writePixel x y w k b hw) (by simpa using hj) ?_
      rwa [Nat.add_right_comm]

end

/-- The number written is that of the pixels that lie in the frame. -/
theorem writePixels_count (x y : Int) (w : Nat) (bs : List Byte) (k : Nat) (acc : Memory × Nat) :
    (writePixels x y w k bs acc).2 = acc.2 + ((List.range' k bs.length).filter (fun k =>
      inFrame (x + (k % w : Nat)) (y + (k / w : Nat)))).length := by
  induction bs generalizing k acc with
  | nil => rfl
  | cons b rest ih =>
    rw [writePixels_cons, ih, List.length_cons, List.range'_succ, List.filter_cons, writePixel]
    split
    · rw [List.length_cons]; omega
    · rfl

/-! ### Filling a rectangle (R160) -/

theorem memGet_fillRow {m : Memory} (a t : Nat) (b : Byte) (n : Nat) (hw : memWf m = true) :
    memGet (fillRow m a b n) t = if a ≤ t ∧ t < a + n then b else memGet m t := by
  induction n generalizing m a with
  | zero => rw [fillRow, if_neg (by omega)]
  | succ n ih =>
    rw [fillRow, ih (a + 1) (memWf_memSet a b hw), memGet_memSet a t b hw]
    split
    · rw [if_pos (by omega)]
    · split
      · rw [if_pos (by omega)]
      · rw [if_neg (by omega)]

/-- The addresses of a row that stays within the frame are those of its pixels. -/
theorem inRow_iff {x n px y py : Nat} (hx : n ≠ 0 → x + n ≤ 800) (hpx : px < 800) :
    (pixelAddress x y ≤ pixelAddress px py ∧ pixelAddress px py < pixelAddress x y + n) ↔
      x ≤ px ∧ px < x + n ∧ py = y := by
  simp only [pixelAddress, Config.frameWidth]
  rcases Nat.lt_trichotomy py y with h | h | h <;> omega

theorem memGet_fillRows {m : Memory} {x n px : Nat} (y : Nat) (b : Byte) (k py : Nat) (hw : memWf m = true)
    (hx : n ≠ 0 → x + n ≤ 800) (hpx : px < 800) : memGet (fillRows m x y n b k) (pixelAddress px py) =
      if x ≤ px ∧ px < x + n ∧ y ≤ py ∧ py < y + k then b else memGet m (pixelAddress px py) := by
  induction k generalizing m y with
  | zero => rw [fillRows, if_neg (by omega)]
  | succ k ih =>
    rw [fillRows, ih (y + 1) (memWf_fillRow _ b n hw), memGet_fillRow _ _ _ _ hw]
    simp only [inRow_iff hx hpx]
    split
    · rw [if_pos (by omega)]
    · split
      · rw [if_pos (by omega)]
      · rw [if_neg (by omega)]

/-- A place of the frame lies in the clipped run exactly when it lies in the run. -/
theorem clipRun_iff (start : Int) (n : Nat) {limit p : Nat} (hp : p < limit) :
    (clipRun start n limit).1 ≤ p ∧ p < (clipRun start n limit).1 + (clipRun start n limit).2 ↔
      start ≤ p ∧ (p : Int) < start + n := by
  simp only [clipRun]; omega

theorem clipRun_bound (start : Int) (n limit : Nat) (h : (clipRun start n limit).2 ≠ 0) :
    (clipRun start n limit).1 + (clipRun start n limit).2 ≤ limit := by
  simp only [clipRun] at h ⊢; omega

/-- The length of the clipped run counts the places of the frame that lie in it. -/
theorem clipRun_count (start : Int) (n limit : Nat) : (clipRun start n limit).2 =
    ((List.range limit).filter (fun p : Nat => decide (start ≤ p ∧ (p : Int) < start + n))).length := by
  induction limit with
  | zero => simp only [clipRun, List.range_zero, List.filter_nil, List.length_nil]; omega
  | succ limit ih =>
    rw [List.range_succ, List.filter_append, List.length_append, ← ih]
    by_cases h : start ≤ limit ∧ (limit : Int) < start + n
    · rw [List.filter_cons_of_pos (by simpa using h)]
      simp only [clipRun, List.filter_nil, List.length_cons, List.length_nil]
      omega
    · rw [List.filter_cons_of_neg (by simpa using h)]
      simp only [clipRun, List.filter_nil, List.length_nil]
      omega

/-- The places of the frame counted as integers. -/
theorem length_filter_casts (n : Nat) (p : Int → Bool) :
    ((do let a ← List.range n; pure (a : Int)).filter p).length = ((List.range n).filter (fun k : Nat => p k)).length := by
  have hm : (do let a ← List.range n; pure (a : Int)) = (List.range n).map (fun a : Nat => (a : Int)) :=
    bind_pure_comp _ _
  rw [hm, List.filter_map, List.length_map]
  rfl

/-! ### The owners -/

theorem wholeStatus_eq (n all : Nat) : wholeStatus n all = if n = all then .ok else .truncated := rfl

/-- A link's layer replaced while its request is in work, and the request then answered. -/
theorem answer_setOverlay_working (l : Link) (tag kind : Byte) (status : Status) (payload : Payload) (m : Memory) (s : State) :
    answer l status payload (setOverlay l m (working l tag kind s)) =
      replied l tag status payload (s.withDisp { s.disp with overlay := s.disp.overlay.set l m }) :=
  answer_of_working (s := s) status payload rfl

/-- A taking link hands a request whose length suits it to its owner, whose state is the next. -/
theorem takeRequest_next {l : Link} {s t : State} {tag kind : Byte} {ok : Bool} {owner : State → State} (ht : taking l s)
    (hk : longKind kind = false) (hok : ok = true) (h : owner (working l tag kind s) = t) :
    takeRequest l tag kind ok (fun s => .next (owner s)) s = .next t := by
  subst hok
  exact request_next ht hk h

section
variable {l : Link} {x y w h : BitVec 16} {indexes : List Byte} {s : State} (tag kind : Byte)

theorem ownDispOverlay_illegal (hb : w.toNat = 0 ∨ h.toNat = 0 ∨ 4096 < w.toNat * h.toNat) :
    ownDispOverlay l x y w h indexes (working l tag kind s) = replied l tag .invalid .nothing s :=
  (if_pos hb).trans (answer_working ..)

theorem ownDispOverlay_legal (hw : 0 < w.toNat) (hh : 0 < h.toNat) (ha : w.toNat * h.toNat ≤ 4096) :
    ownDispOverlay l x y w h indexes (working l tag kind s) =
      let r := writePixels x.toInt y.toInt w.toNat 0 indexes (s.disp.overlay.get l, 0)
      replied l tag (wholeStatus r.2 (w.toNat * h.toNat)) (.pixels r.2)
        (s.withDisp { s.disp with overlay := s.disp.overlay.set l r.1 }) :=
  (if_neg (by omega)).trans (answer_setOverlay_working ..)

/-- The pixels after a legal rectangle. -/
theorem overlay_pixels {m : Memory} (hm : memWf m = true) (hw : 0 < w.toNat) (hi : indexes.length = w.toNat * h.toNat)
    {px py : Nat} (hpx : px < 800) (hpy : py < 480) :
    memGet (writePixels x.toInt y.toInt w.toNat 0 indexes (m, 0)).1 (pixelAddress px py) =
      if x.toInt ≤ px ∧ (px : Int) < x.toInt + w.toNat ∧ y.toInt ≤ py ∧ (py : Int) < y.toInt + h.toNat then
        indexes.getD (((py : Int) - y.toInt).toNat * w.toNat + ((px : Int) - x.toInt).toNat) 0#8
      else memGet m (pixelAddress px py) := by
  split
  · next hr =>
    obtain ⟨k, hk, he, hp⟩ := isPixel_rectangle hw hr
    rw [← he]
    exact writePixels_same hpx hpy indexes hm (by rwa [hi]) (by rwa [Nat.zero_add])
  · next hr =>
    refine writePixels_other hpx hpy indexes hm fun j hj hp => hr ?_
    rw [Nat.zero_add] at hp
    exact rectangle_of_isPixel hw (by rwa [← hi]) hp

theorem ownDispOverlayFill_empty {index : Byte} (hb : w.toNat = 0 ∨ h.toNat = 0) :
    ownDispOverlayFill l x y w h index (working l tag kind s) = replied l tag .invalid .nothing s :=
  (if_pos hb).trans (answer_working ..)

/-- The columns and the rows of a filled rectangle that lie in the frame. -/
def fillCols (x w : BitVec 16) : Nat × Nat := clipRun x.toInt w.toNat Config.frameWidth
def fillLines (y h : BitVec 16) : Nat × Nat := clipRun y.toInt h.toNat Config.frameHeight

theorem ownDispOverlayFill_legal {index : Byte} (hw : 0 < w.toNat) (hh : 0 < h.toNat) :
    ownDispOverlayFill l x y w h index (working l tag kind s) =
      replied l tag (wholeStatus ((fillCols x w).2 * (fillLines y h).2) (w.toNat * h.toNat))
        (.pixels ((fillCols x w).2 * (fillLines y h).2))
        (s.withDisp { s.disp with overlay := s.disp.overlay.set l (fillRows (s.disp.overlay.get l) (fillCols x w).1
          (fillLines y h).1 (fillCols x w).2 index (fillLines y h).2) }) :=
  (if_neg (by omega)).trans (answer_setOverlay_working ..)

/-- The pixels after a fill. -/
theorem fill_pixels {m : Memory} {index : Byte} (hm : memWf m = true) {px py : Nat} (hpx : px < 800) (hpy : py < 480) :
    memGet (fillRows m (fillCols x w).1 (fillLines y h).1 (fillCols x w).2 index (fillLines y h).2) (pixelAddress px py) =
      if x.toInt ≤ px ∧ (px : Int) < x.toInt + w.toNat ∧ y.toInt ≤ py ∧ (py : Int) < y.toInt + h.toNat then index
      else memGet m (pixelAddress px py) := by
  have hc : (fillCols x w).1 ≤ px ∧ px < (fillCols x w).1 + (fillCols x w).2 ↔ _ := clipRun_iff x.toInt w.toNat hpx
  have hl : (fillLines y h).1 ≤ py ∧ py < (fillLines y h).1 + (fillLines y h).2 ↔ _ := clipRun_iff y.toInt h.toNat hpy
  have hb : (fillCols x w).2 ≠ 0 → (fillCols x w).1 + (fillCols x w).2 ≤ 800 := clipRun_bound x.toInt w.toNat 800
  rw [memGet_fillRows _ index _ _ hm hb hpx]
  refine if_congr ?_ rfl rfl
  rw [← and_assoc, hc, hl, and_assoc]

end

/-! ### The palette (R161) -/

theorem paletteRun_eq {first m : Byte} (hf : 0 < first.toNat) :
    paletteRun first m = min 255 (first.toNat + m.toNat - 1) + 1 - first.toNat := by
  have := first.isLt
  simp only [paletteRun]; omega

theorem wholeStatus_paletteRun (first m : Byte) : wholeStatus (paletteRun first m) m.toNat =
    if first.toNat + m.toNat ≤ 256 then .ok else .truncated := by
  have := first.isLt
  rw [wholeStatus, paletteRun]
  exact if_congr (by omega) rfl rfl

theorem paletteEntry_eq (p : Vector Colour 255) {first n : Nat} {cs : List (Byte × Byte × Byte)} (hn : cs.length = n)
    (i : Fin 255) : paletteEntry p first cs i = if first ≤ i.val + 1 ∧ i.val + 1 < first + n
      then colourOf (cs.getD (i.val + 1 - first) (0#8, 0#8, 0#8)) else p[i] := by
  unfold paletteEntry
  by_cases h1 : first ≤ i.val + 1
  · by_cases h2 : i.val + 1 < first + n
    · have hi : i.val + 1 - first < cs.length := by omega
      rw [if_pos h1, if_pos ⟨h1, h2⟩, List.getD_eq_getElem?_getD, List.getElem?_eq_getElem hi]
      rfl
    · have hi : cs.length ≤ i.val + 1 - first := by omega
      rw [if_pos h1, if_neg (fun h => h2 h.2), List.getElem?_eq_none hi]
      rfl
  · rw [if_neg h1, if_neg (fun h => h1 h.1)]

theorem ownDispPalette_empty {l : Link} {first m : Byte} {cs : List (Byte × Byte × Byte)} (tag kind : Byte) (s : State)
    (h : first.toNat = 0 ∨ m.toNat = 0) :
    ownDispPalette l first m cs (working l tag kind s) = replied l tag .invalid .nothing s :=
  (if_pos h).trans (answer_working ..)

/-- The palette replaced while the link's request is in work, and the request then answered. -/
theorem answer_withDisp_working (l : Link) (tag kind : Byte) (status : Status) (payload : Payload) (d : Composer) (s : State) :
    answer l status payload ((working l tag kind s).withDisp d) = replied l tag status payload (s.withDisp d) :=
  answer_of_working (s := s) status payload rfl

theorem ownDispPalette_run {l : Link} {first m : Byte} {cs : List (Byte × Byte × Byte)} (tag kind : Byte) (s : State)
    (hf : 0 < first.toNat) (hm : 0 < m.toNat) :
    ownDispPalette l first m cs (working l tag kind s) = replied l tag (wholeStatus (paletteRun first m) m.toNat)
      (.entries (paletteRun first m))
      (s.withDisp { s.disp with palette := Vector.ofFn fun i => paletteEntry s.disp.palette first.toNat cs i }) :=
  (if_neg (by omega)).trans (answer_withDisp_working ..)

theorem ownDispPaletteGet_empty {l : Link} {first m : Byte} (tag kind : Byte) (s : State)
    (h : first.toNat = 0 ∨ m.toNat = 0) :
    ownDispPaletteGet l first m (working l tag kind s) = replied l tag .invalid .nothing s :=
  (if_pos h).trans (answer_working ..)

theorem ownDispPaletteGet_run {l : Link} {first m : Byte} (tag kind : Byte) (s : State) (hf : 0 < first.toNat)
    (hm : 0 < m.toNat) :
    ownDispPaletteGet l first m (working l tag kind s) = replied l tag (wholeStatus (paletteRun first m) m.toNat)
      (.colours ((s.disp.palette.toList.drop (first.toNat - 1)).take (paletteRun first m))) s :=
  (if_neg (by omega)).trans (answer_working ..)

/-- Settles O37: a written pixel is one k-th pixel of its rectangle, and an entry is that of its place. -/
theorem overlayAndPaletteWrites : Obligations.OverlayAndPaletteWrites := by
  refine ⟨fun l tag x y w h indexes index s ht hm => ⟨fun hok => ⟨fun hb => ?badOverlay, fun hw hh ha => ?overlay⟩,
    fun hb => ?badFill, fun hw hh => ?fill⟩,
    fun l tag f m cs s ht hcs => ⟨fun hb => ⟨?badPalette, ?badGet⟩, fun hf hm => ⟨?palette, ?paletteGet⟩⟩⟩
  case badOverlay =>
    exact takeRequest_next (tag := tag) (kind := 0x52#8) ht rfl hok (ownDispOverlay_illegal tag _ hb)
  case overlay =>
    have hi : indexes.length = w.toNat * h.toNat := by
      rw [suitsOverlay, Bool.and_eq_true, decide_eq_true_eq] at hok
      exact hok.1
    refine ⟨_, _, takeRequest_next (tag := tag) (kind := 0x52#8) ht rfl hok (ownDispOverlay_legal tag _ hw hh ha),
      memWf_writePixels _ _ _ _ _ hm, ?_, fun px py hpx hpy => overlay_pixels hm hw hi hpx hpy⟩
    rw [writePixels_count, hi, List.range_eq_range', Nat.zero_add]
  case badFill => exact request_next (tag := tag) (kind := 0x53#8) ht rfl (ownDispOverlayFill_empty tag _ hb)
  case fill =>
    refine ⟨_, _, request_next (tag := tag) (kind := 0x53#8) ht rfl (ownDispOverlayFill_legal tag _ hw hh),
      memWf_fillRows _ _ _ _ _ hm, ?_, fun px py hpx hpy => fill_pixels hm hpx hpy⟩
    rw [length_filter_casts, length_filter_casts, fillCols, fillLines, clipRun_count, clipRun_count, Config.frameWidth,
      Config.frameHeight]
  case badPalette =>
    exact takeRequest_next (tag := tag) (kind := 0x54#8) ht rfl (decide_eq_true hcs) (ownDispPalette_empty tag _ s hb)
  case badGet => exact request_next (tag := tag) (kind := 0x55#8) ht rfl (ownDispPaletteGet_empty tag _ s hb)
  case palette =>
    rw [← paletteRun_eq hf, ← wholeStatus_paletteRun]
    refine ⟨_, takeRequest_next (tag := tag) (kind := 0x54#8) ht rfl (decide_eq_true hcs) (ownDispPalette_run tag _ s hf hm), ?_⟩
    intro i
    rw [Fin.getElem_fin, Vector.getElem_ofFn]
    exact paletteEntry_eq s.disp.palette hcs i
  case paletteGet =>
    rw [← paletteRun_eq hf, ← wholeStatus_paletteRun]
    exact request_next (tag := tag) (kind := 0x55#8) ht rfl (ownDispPaletteGet_run tag _ s hf hm)

end Sys2Proof.Machine
end

section
/-! PROOFS. REC.LIST and the record notices (R121, R126). -/

namespace Sys2Proof.Machine

/-! ### The COMPLETE records as headers -/

theorem completeFrom_headers (slots : List Slot) (n : Nat) :
    (completeFrom n slots).map Prod.snd = slots.filterMap completeHeader := by
  induction slots generalizing n with
  | nil => rfl
  | cons sl rest ih => cases sl <;> simp [completeFrom, completeHeader, ih, List.filterMap_cons]

theorem completes_headers (slots : List Slot) : (completes slots).map Prod.snd = slots.filterMap completeHeader :=
  completeFrom_headers slots 0

theorem mem_completeHeaders {slots : List Slot} {h : Header} :
    h ∈ slots.filterMap completeHeader ↔ Slot.complete h ∈ slots := by
  rw [List.mem_filterMap]
  refine ⟨fun ⟨sl, hs, he⟩ => ?_, fun hs => ⟨_, hs, rfl⟩⟩
  cases sl with
  | complete x => cases he; exact hs
  | free | filling => cases he

/-- The numbers of the COMPLETE records are among those of the slots. -/
theorem completeNumbers_sublist (slots : List Slot) :
    ((slots.filterMap completeHeader).map Header.number).Sublist (slots.filterMap slotNumber) := by
  induction slots with
  | nil => exact List.Sublist.refl _
  | cons sl rest ih =>
    cases sl with
    | free => exact ih
    | filling h => exact List.Sublist.cons _ ih
    | complete h => exact List.Sublist.cons_cons _ ih

/-! ### Oldest first (R110, R121) -/

/-- Among numbers within half the range from a base, newer is farther from the base. -/
theorem newer_iff_of_base {a b base : Word} (ha : (a - base).toNat < 2147483648) (hb : (b - base).toNat < 2147483648) :
    newer a b = true ↔ (b - base).toNat < (a - base).toNat := by
  simp only [newer, Bool.and_eq_true, decide_eq_true_eq]
  bv_omega

theorem insertOldest_perm (x : Nat × Header) (l : List (Nat × Header)) : (insertOldest x l).Perm (x :: l) := by
  induction l with
  | nil => exact List.Perm.refl _
  | cons y rest ih =>
    rw [insertOldest]
    split
    · exact (ih.cons y).trans (List.Perm.swap x y rest)
    · exact List.Perm.refl _

theorem oldestFirst_perm (l : List (Nat × Header)) : (oldestFirst l).Perm l := by
  induction l with
  | nil => exact List.Perm.refl _
  | cons x rest ih => exact (insertOldest_perm x (oldestFirst rest)).trans (ih.cons x)

/-- No record of the list is newer than one after it. -/
def oldestLeads (l : List (Nat × Header)) : Prop := l.Pairwise fun a b => newer b.2.number a.2.number = true

section
variable {base : Word}

theorem oldestLeads_insertOldest {x : Nat × Header} {l : List (Nat × Header)}
    (hb : ∀ y ∈ x :: l, (y.2.number - base).toNat < 2147483648) (hx : ∀ y ∈ l, y.2.number ≠ x.2.number)
    (hl : oldestLeads l) : oldestLeads (insertOldest x l) := by
  induction l with
  | nil => exact List.pairwise_singleton _ _
  | cons y rest ih =>
    obtain ⟨hy, hrest⟩ := List.pairwise_cons.1 hl
    have bx := hb x (by simp)
    have bnd : ∀ z ∈ y :: rest, (z.2.number - base).toNat < 2147483648 := fun z hz => hb z (List.mem_cons_of_mem _ hz)
    have by' := bnd y (by simp)
    rw [insertOldest]
    split
    · next hn =>
      refine List.pairwise_cons.2 ⟨fun z hz => ?_, ih (fun z hz => hb z ?_) (fun z hz => hx z (List.mem_cons_of_mem _ hz)) hrest⟩
      · rcases List.mem_cons.1 ((insertOldest_perm x rest).mem_iff.1 hz) with rfl | hz
        · exact hn
        · exact hy z hz
      · rcases List.mem_cons.1 hz with rfl | hz
        · simp
        · simp [hz]
    · next hn =>
      have hxy : newer y.2.number x.2.number = true := by
        rw [newer_iff_of_base by' bx]
        rw [newer_iff_of_base bx by'] at hn
        have : (y.2.number - base).toNat ≠ (x.2.number - base).toNat := fun he => hx y (by simp) (by bv_omega)
        omega
      refine List.pairwise_cons.2 ⟨fun z hz => ?_, hl⟩
      rcases List.mem_cons.1 hz with rfl | hz'
      · exact hxy
      · have hzy := hy z hz'
        have bz := bnd z hz
        rw [newer_iff_of_base bz by'] at hzy
        rw [newer_iff_of_base by' bx] at hxy
        rw [newer_iff_of_base bz bx]
        omega

theorem oldestLeads_oldestFirst {l : List (Nat × Header)} (hb : ∀ y ∈ l, (y.2.number - base).toNat < 2147483648)
    (hd : (l.map fun y => y.2.number).Nodup) : oldestLeads (oldestFirst l) := by
  induction l with
  | nil => exact List.Pairwise.nil
  | cons x rest ih =>
    rw [List.map_cons, List.nodup_cons] at hd
    have hp := oldestFirst_perm rest
    refine oldestLeads_insertOldest (fun y hy => hb y ?_) (fun y hy he => hd.1 ?_)
      (ih (fun y hy => hb y (List.mem_cons_of_mem _ hy)) hd.2)
    · rcases List.mem_cons.1 hy with rfl | hy
      · simp
      · simp [hp.mem_iff.1 hy]
    · exact List.mem_map.2 ⟨y, hp.mem_iff.1 hy, he⟩

end

/-! ### The owners -/

/-- The entries of a REC.LIST answer. -/
def listed (l : Link) (slots : List Slot) : List ListEntry :=
  (oldestFirst (completes slots)).map (fun x => listEntry l x.2)

theorem listed_perm (l : Link) (slots : List Slot) :
    (listed l slots).Perm ((slots.filterMap completeHeader).map (listEntry l)) := by
  rw [← completes_headers, List.map_map]
  exact (oldestFirst_perm _).map _

theorem listed_pairwise {l : Link} {s : State} (hd : numbersDistinct s) {base : Word}
    (hb : ∀ h, Slot.complete h ∈ s.store.slots → (h.number - base).toNat < 2147483648) :
    (listed l s.store.slots).Pairwise (fun a b => newer b.number a.number = true) := by
  refine List.pairwise_map.2 (oldestLeads_oldestFirst (base := base) (fun y hy => hb _ ?_) ?_)
  · exact List.mem_of_getElem? (mem_completes.1 hy)
  · have hs := completeNumbers_sublist s.store.slots
    rw [← completes_headers, List.map_map] at hs
    exact hs.nodup hd

/-- The store replaced while a link's request is in work, and the request then answered. -/
theorem answer_withStore_working (l : Link) (tag kind : Byte) (status : Status) (payload : Payload) (st : RecordStore)
    (s : State) : answer l status payload ((working l tag kind s).withStore st) = replied l tag status payload (s.withStore st) :=
  answer_of_working (s := s) status payload rfl

theorem ownRecNoticeConfig_in_range (l : Link) (tag kind : Byte) {pace : Byte} {setting : BitVec 16} (s : State)
    (h1 : 1 ≤ pace.toNat) (h2 : pace.toNat ≤ 16) (h3 : setting.toNat ≤ 1000) :
    ownRecNoticeConfig l pace setting (working l tag kind s) = replied l tag .ok
      (.unreported (s.store.notice.get l).unreported)
      (s.withStore { s.store with notice := s.store.notice.set l ⟨pace.toNat, setting.toNat, none, 0#16⟩ }) :=
  (if_pos ⟨h1, h2, h3⟩).trans (answer_withStore_working ..)

theorem ownRecNoticeConfig_out_of_range (l : Link) (tag kind : Byte) {pace : Byte} {setting : BitVec 16} (s : State)
    (h : pace.toNat = 0 ∨ 16 < pace.toNat ∨ 1000 < setting.toNat) :
    ownRecNoticeConfig l pace setting (working l tag kind s) = replied l tag .invalid .nothing s :=
  (if_neg (by omega)).trans (answer_working ..)

/-- Settles O32: the list is an insertion sort of the COMPLETE records; the notice requests by their ranges. -/
theorem recListAndNotices : Obligations.RecListAndNotices := by
  refine fun l tag pace setting s ht => ⟨⟨listed l s.store.slots, ?list, ?perm, fun hd ⟨base, hb⟩ => listed_pairwise hd hb⟩,
    fun h1 h2 h3 => ?config, fun h => ?badConfig, ?get⟩
  case list => exact request_next (tag := tag) (kind := 0x40#8) ht rfl (answer_withStore_working ..)
  case perm =>
    refine (listed_perm l s.store.slots).trans (List.Perm.of_eq ?_)
    rw [List.map_filterMap]
    refine List.filterMap_congr fun sl _ => ?_
    cases sl <;> rfl
  case config =>
    exact request_next (tag := tag) (kind := 0x47#8) ht rfl (ownRecNoticeConfig_in_range l tag _ s h1 h2 h3)
  case badConfig =>
    exact request_next (tag := tag) (kind := 0x47#8) ht rfl (ownRecNoticeConfig_out_of_range l tag _ s h)
  case get => exact request_next (tag := tag) (kind := 0x48#8) ht rfl (answer_working ..)

end Sys2Proof.Machine
end

section
/-! PROOFS. The record requests that read a record, pin it and release it (R117 to R120, R122 to R124). -/

namespace Sys2Proof.Machine

/-! ### The slot that holds a number -/

theorem nameRecord_gone {slots : List Slot} {n : Word}
    (h : ∀ sl ∈ slots, ∀ h, slotHeader sl = some h → h.number ≠ n) : nameRecord slots n = .gone := by
  have hf : findNumber slots n = none := by
    refine List.findIdx?_eq_none_iff.2 fun sl hs => ?_
    cases hh : slotHeader sl with
    | none => rfl
    | some x => simpa using h sl hs x hh
  rw [nameRecord, hf]

/-! ### REC.HEADER (R122) -/

section
variable {l : Link} {n : Word} {s : State} (tag kind : Byte)

theorem ownRecHeader_gone {first : BitVec 16} {m : Byte} (h : nameRecord s.store.slots n = .gone) :
    ownRecHeader l n first m (working l tag kind s) = replied l tag .gone .nothing s := by
  simp only [ownRecHeader, show (working l tag kind s).store = s.store from rfl, h]
  exact answer_working ..

theorem ownRecHeader_filling {first : BitVec 16} {m : Byte} {x : Header} (h : nameRecord s.store.slots n = .filling x) :
    ownRecHeader l n first m (working l tag kind s) = replied l tag .notReady .nothing s := by
  simp only [ownRecHeader, show (working l tag kind s).store = s.store from rfl, h]
  exact answer_working ..

theorem ownRecHeader_complete {first : BitVec 16} {m : Byte} {k : Nat} {x : Header}
    (h : nameRecord s.store.slots n = .complete k x) : ownRecHeader l n first m (working l tag kind s) =
      if 64 < m.toNat then replied l tag .invalid .nothing s
      else replied l tag (if m.toNat ≠ 0 ∧ x.completed < first.toNat + m.toNat then .truncated else .ok)
        (.header x ((x.segments.drop first.toNat).take m.toNat)) s := by
  simp only [ownRecHeader, show (working l tag kind s).store = s.store from rfl, h, answer_working, headerEntries]

/-! ### REC.READ (R123, R124) -/

section
variable {chan format : Byte} {seg : BitVec 16} {p : Word} {count : BitVec 16}

theorem ownRecRead_gone (h : nameRecord s.store.slots n = .gone) :
    ownRecRead l n chan seg p count format (working l tag kind s) = .next (replied l tag .gone .nothing s) := by
  simp only [ownRecRead, show (working l tag kind s).store = s.store from rfl, h, answer_working]

theorem ownRecRead_filling {x : Header} (h : nameRecord s.store.slots n = .filling x) :
    ownRecRead l n chan seg p count format (working l tag kind s) = .next (replied l tag .notReady .nothing s) := by
  simp only [ownRecRead, show (working l tag kind s).store = s.store from rfl, h, answer_working]

theorem ownRecRead_invalid {k : Nat} {x : Header} (h : nameRecord s.store.slots n = .complete k x)
    (hc : readChecks x chan seg p count format = none) :
    ownRecRead l n chan seg p count format (working l tag kind s) = .next (replied l tag .invalid .nothing s) := by
  simp only [ownRecRead, show (working l tag kind s).store = s.store from rfl, h, hc, answer_working]

theorem ownRecRead_points {k : Nat} {x : Header} {c : Chan} {signed : Bool} (h : nameRecord s.store.slots n = .complete k x)
    (hc : readChecks x chan seg p count format = some (c, signed))
    (hr : regionFits k s.store.recordBytes x.setup seg.toNat x.points = true) :
    ownRecRead l n chan seg p count format (working l tag kind s) = .next (replied l tag
      (if min count.toNat (x.points - p.toNat) < count.toNat then .truncated else .ok)
      (.points (valueBytes (x.setup.get .acqMode))
        (readPoints s.store k x c seg.toNat p.toNat signed (min count.toNat (x.points - p.toNat)))) s) := by
  simp only [ownRecRead, show (working l tag kind s).store = s.store from rfl, h, hc, hr, if_true, answer_working]

end

end

theorem chanOfNumber_byte {chan : Byte} {c : Chan} : chanOfNumber chan.toNat = some c ↔ chanNumber c = chan.toNat := by
  refine ⟨fun h => (chanNumber_of_chanOfNumber h).symm, fun h => ?_⟩
  rw [← h]
  exact chanOfNumber_chanNumber c

theorem signedFormat_none {b : Byte} (h : 1 < b.toNat) : signedFormat b = none := by
  have h0 : b ≠ 0#8 := by rintro rfl; simp at h
  have h1 : b ≠ 1#8 := by rintro rfl; simp at h
  simp [signedFormat, h0, h1]

section
variable {h : Header} {chan format : Byte} {seg : BitVec 16} {p : Word} {count : BitVec 16}

/-- One part that fails refuses a read. -/
theorem readChecks_none (hb : (∀ c, chanNumber c = chan.toNat → h.setup.get (.chOn c) ≠ 1) ∨ h.completed ≤ seg.toNat ∨
    h.points ≤ p.toNat ∨ count.toNat = 0 ∨ 2048 < count.toNat ∨ 1 < format.toNat) :
    readChecks h chan seg p count format = none := by
  cases hc : chanOfNumber chan.toNat with
  | none => simp [readChecks, hc]
  | some c =>
    cases hf : signedFormat format with
    | none => simp [readChecks, hf]
    | some signed =>
      have h1 : ¬ 1 < format.toNat := fun h1 => by rw [signedFormat_none h1] at hf; cases hf
      simp only [readChecks, hc, hf]
      refine if_neg ?_
      rintro ⟨hon, hseg, hp, hc1, hc2⟩
      have hn := (hb.resolve_right (by omega)) c (chanOfNumber_byte.1 hc)
      exact hn (mem_enabledChans.1 (by simpa using hon))

theorem readChecks_some {c : Chan} {signed : Bool} (hc : chanNumber c = chan.toNat) (hon : h.setup.get (.chOn c) = 1)
    (hseg : seg.toNat < h.completed) (hp : p.toNat < h.points) (h1 : 1 ≤ count.toNat) (h2 : count.toNat ≤ 2048)
    (hf : format = (if signed then 1#8 else 0#8)) : readChecks h chan seg p count format = some (c, signed) := by
  have hs : signedFormat format = some signed := by subst hf; cases signed <;> rfl
  simp only [readChecks, chanOfNumber_byte.2 hc, hs]
  exact if_pos ⟨by simpa using mem_enabledChans.2 hon, hseg, hp, h1, h2⟩

end

/-! ### The values of a read (R124) -/

theorem half_toNat (a b : Byte) : (half a b).toNat = a.toNat + 256 * b.toNat := by
  rw [half, BitVec.toNat_append, ← Nat.shiftLeft_add_eq_or_of_lt a.isLt, Nat.shiftLeft_eq]
  omega

theorem pointValues_carried (mode : Int) (signed : Bool) (bytes : List Byte) :
    carriedPoint mode signed bytes (pointValues mode signed bytes) := by
  refine ⟨?_, ?_, ?_⟩
  · rintro rfl a rfl
    cases signed <;> simp [pointValues, centre]
  · rintro rfl a b rfl
    cases signed <;> simp [pointValues, centre]
  · rintro rfl a b rfl
    cases signed <;> simp [pointValues, centre, half_toNat]

/-- The points of a read, each by its values. -/
def readValues (st : RecordStore) (slot : Nat) (h : Header) (c : Chan) (segment first : Nat) (signed : Bool) (n : Nat) :
    List (List Int) :=
  (List.range n).map fun j => pointValues (h.setup.get .acqMode) signed
    (memRead st.mem (pointAddress slot st.recordBytes h.setup c segment (first + j)) (pointSize (h.setup.get .acqMode)))

theorem readPoints_eq (st : RecordStore) (slot : Nat) (h : Header) (c : Chan) (segment first : Nat) (signed : Bool) (n : Nat) :
    readPoints st slot h c segment first signed n = (readValues st slot h c segment first signed n).flatten := by
  induction n generalizing first with
  | zero => rfl
  | succ n ih =>
    rw [readPoints, ih, readValues, readValues, List.range_succ_eq_map, List.map_cons, List.flatten_cons, List.map_map]
    refine congrArg₂ (· ++ ·) rfl (congrArg List.flatten (List.map_congr_left fun j _ => ?_))
    rw [Function.comp, Nat.add_assoc, Nat.add_comm 1 j]

/-- Settles O33: by the slot that the number names and the checks of a read. -/
theorem recHeaderAndReadAnswer : Obligations.RecHeaderAndReadAnswer := by
  refine fun l tag n first m chan seg p count format s ht => ⟨fun hg => ⟨?noHeader, ?noRead⟩,
    fun x hx => ⟨?fillingHeader, ?fillingRead⟩, fun k x hx => ⟨fun hm => ?badHeader, fun hm => ?header, fun hb => ?badRead,
      fun c signed hc hon hseg hp h1 h2 hf hr => ?read⟩⟩
  case noHeader => exact request_next (tag := tag) (kind := 0x41#8) ht rfl (ownRecHeader_gone tag _ (nameRecord_gone hg))
  case noRead => exact (takeRequest_taking tag _ _ ht (fun h => by cases h)).trans (ownRecRead_gone tag 0x42#8 (nameRecord_gone hg))
  case fillingHeader => exact request_next (tag := tag) (kind := 0x41#8) ht rfl (ownRecHeader_filling tag _ hx)
  case fillingRead => exact (takeRequest_taking tag _ _ ht (fun h => by cases h)).trans (ownRecRead_filling tag 0x42#8 hx)
  case badHeader =>
    exact request_next (tag := tag) (kind := 0x41#8) ht rfl ((ownRecHeader_complete tag _ hx).trans (if_pos hm))
  case header =>
    exact request_next (tag := tag) (kind := 0x41#8) ht rfl
      ((ownRecHeader_complete tag _ hx).trans (if_neg (Nat.not_lt.2 hm)))
  case badRead =>
    exact (takeRequest_taking tag _ _ ht (fun h => by cases h)).trans
      (ownRecRead_invalid tag 0x42#8 hx (readChecks_none hb))
  case read =>
    have hcut : (if p.toNat + count.toNat ≤ x.points then Status.ok else .truncated) =
        if min count.toNat (x.points - p.toNat) < count.toNat then .truncated else .ok := by
      split
      · rw [if_neg (by omega)]
      · rw [if_pos (by omega)]
    refine ⟨readValues s.store k x c seg.toNat p.toNat signed (min count.toNat (x.points - p.toNat)), ?_, fun j hj => ?_, ?_⟩
    · rw [readValues, List.length_map, List.length_range]
    · refine ⟨_, List.getElem?_eq_getElem hj, ?_⟩
      simp only [readValues, List.getElem_map, List.getElem_range]
      exact pointValues_carried ..
    · rw [hcut, ← readPoints_eq]
      exact (takeRequest_taking tag _ _ ht (fun h => by cases h)).trans
        (ownRecRead_points tag 0x42#8 hx (readChecks_some hc hon hseg hp h1 h2 hf) hr)

end Sys2Proof.Machine
end

section
/-! PROOFS. REC.PIN, REC.UNPIN, REC.RELEASE and REC.SUBSCRIBE (R117 to R120). -/

namespace Sys2Proof.Machine

@[simp] theorem working_store (l : Link) (tag kind : Byte) (s : State) : (working l tag kind s).store = s.store := rfl

/-- With no slot request held there is none to judge again. -/
theorem reevaluate_of_not_held {s : State} (h : s.store.held = false) : reevaluate s = s := by
  simp [reevaluate, h]

/-! ### Counting the COMPLETE records -/

theorem length_filter_completes {p : Header → Bool} {q : Slot → Bool} (hc : ∀ h, q (.complete h) = p h)
    (hfree : q .free = false) (hfill : ∀ h, q (.filling h) = false) (slots : List Slot) :
    ((completes slots).filter (fun x => p x.2)).length = (slots.filter q).length := by
  have key : ∀ xs : List Slot, ((xs.filterMap completeHeader).filter p).length = (xs.filter q).length := by
    intro xs
    induction xs with
    | nil => rfl
    | cons sl rest ih =>
      cases sl with
      | free => rw [List.filter_cons, hfree]; exact ih
      | filling h => rw [List.filter_cons, hfill h]; exact ih
      | complete h =>
        rw [List.filter_cons, hc h, List.filterMap_cons_some (f := completeHeader) (b := h) rfl, List.filter_cons]
        split
        · rw [List.length_cons, List.length_cons, ih]
        · exact ih
  rw [← key, ← completes_headers, List.filter_map, List.length_map]
  rfl

/-! ### The owners -/

section
variable {l : Link} {n : Word} {s : State} (tag kind : Byte)

theorem ownRecPin_gone (h : nameRecord s.store.slots n = .gone) :
    ownRecPin l n (working l tag kind s) = replied l tag .gone .nothing s := by
  simp only [ownRecPin, working_store, h, answer_working]

theorem ownRecPin_filling {x : Header} (h : nameRecord s.store.slots n = .filling x) :
    ownRecPin l n (working l tag kind s) = replied l tag .notReady .nothing s := by
  simp only [ownRecPin, working_store, h, answer_working]

theorem ownRecPin_complete {k : Nat} {x : Header} (h : nameRecord s.store.slots n = .complete k x) :
    ownRecPin l n (working l tag kind s) =
      if x.pins.get l then replied l tag .ok .nothing s
      else if 2 ≤ (s.store.pinsList.get l).length then replied l tag .full .nothing s
      else replied l tag .ok .nothing (s.withStore { s.store with
        slots := updateNumber n (pinHeader l true) s.store.slots
        pinsList := s.store.pinsList.set l (s.store.pinsList.get l ++ [n]) }) := by
  simp only [ownRecPin, working_store, h, answer_working, answer_withStore_working]

theorem ownRecUnpin_gone (h : nameRecord s.store.slots n = .gone) :
    ownRecUnpin l n (working l tag kind s) = replied l tag .gone .nothing s := by
  simp only [ownRecUnpin, working_store, h, answer_working]

theorem ownRecUnpin_filling {x : Header} (h : nameRecord s.store.slots n = .filling x) :
    ownRecUnpin l n (working l tag kind s) = replied l tag .ok .nothing s := by
  simp only [ownRecUnpin, working_store, h, answer_working]

theorem ownRecUnpin_clear {k : Nat} {x : Header} (h : nameRecord s.store.slots n = .complete k x) (hp : x.pins.get l = false) :
    ownRecUnpin l n (working l tag kind s) = replied l tag .ok .nothing s := by
  simp only [ownRecUnpin, working_store, h, hp, answer_working]
  rfl

/-- The Record Store once a pin of the link has been dropped. -/
def unpinned (l : Link) (n : Word) (st : RecordStore) : RecordStore :=
  { st with
    slots := updateNumber n (pinHeader l false) st.slots
    pinsList := st.pinsList.set l ((st.pinsList.get l).filter (fun x => x != n)) }

theorem ownRecUnpin_set {k : Nat} {x : Header} (h : nameRecord s.store.slots n = .complete k x) (hp : x.pins.get l = true) :
    ownRecUnpin l n (working l tag kind s) =
      answer l .ok .nothing (reevaluate ((working l tag kind s).withStore (unpinned l n s.store))) := by
  simp only [ownRecUnpin, working_store, h, hp, if_true]
  rfl

/-- The slots once REC.RELEASE has set its flags. -/
def releasedTo (l : Link) (r : Word) (slots : List Slot) : List Slot :=
  updateCompletes (fun h => if atOrBefore h.number r then releaseHeader l h else h) slots

theorem ownRecRelease_working : ownRecRelease l n (working l tag kind s) =
    answer l .ok (.released (releaseCount l n s.store.slots))
      (reevaluate ((working l tag kind s).withStore { s.store with slots := releasedTo l n s.store.slots })) := rfl

/-- The Record Store once a subscription has changed. -/
def subscribed (l : Link) (on : Bool) (st : RecordStore) : RecordStore :=
  { st with
    slots := updateCompletes (releaseHeader l) st.slots
    sub := st.sub.set l on }

theorem ownRecSubscribe_same {value : Byte} {on : Bool} (hv : value = bitByte on) (h : s.store.sub.get l = on) :
    ownRecSubscribe l value (working l tag kind s) = replied l tag .ok (.subscription on) s := by
  simp only [ownRecSubscribe, (onOff_iff value on).2 hv, working_store, h, if_true, answer_working]

theorem ownRecSubscribe_changed {value : Byte} {on : Bool} (hv : value = bitByte on) (h : s.store.sub.get l ≠ on) :
    ownRecSubscribe l value (working l tag kind s) = answer l .ok (.subscription (!on))
      (if on then (working l tag kind s).withStore (subscribed l on s.store)
        else reevaluate ((working l tag kind s).withStore (subscribed l on s.store))) := by
  have hb : s.store.sub.get l = !on := by cases on <;> simpa using h
  simp only [ownRecSubscribe, (onOff_iff value on).2 hv, working_store, hb, changeSubscription, Bool.not_eq_self, if_false]
  rfl

theorem ownRecSubscribe_bad {value : Byte} (h : 1 < value.toNat) :
    ownRecSubscribe l value (working l tag kind s) = replied l tag .invalid .nothing s := by
  simp only [ownRecSubscribe, onOff_none h, answer_working]

end

/-- With no slot request held, the store replaced and the request then answered. -/
theorem answer_reevaluate_working (l : Link) (tag kind : Byte) (status : Status) (payload : Payload) {st : RecordStore}
    (s : State) (h : st.held = false) : answer l status payload (reevaluate ((working l tag kind s).withStore st)) =
      replied l tag status payload (s.withStore st) := by
  rw [reevaluate_of_not_held (s := (working l tag kind s).withStore st) h]
  exact answer_withStore_working ..

theorem releaseCount_eq (l : Link) (r : Word) (slots : List Slot) {q : Slot → Bool}
    (hc : ∀ h, q (.complete h) = (atOrAbove r h.number && !h.released.get l)) (hfree : q .free = false)
    (hfill : ∀ h, q (.filling h) = false) : releaseCount l r slots = (slots.filter q).length :=
  length_filter_completes (p := fun h => atOrAbove r h.number && !h.released.get l) hc hfree hfill slots

/-- Settles O34: by what the number names, by the link's pins, and by the subscription before. -/
theorem recPinsAndReleases : Obligations.RecPinsAndReleases := by
  refine fun l tag n value s ht => ⟨fun hg => ⟨?pinGone, ?unpinGone⟩, fun x hx => ⟨?pinFilling, ?unpinFilling⟩,
    fun k x hx => ⟨fun hp => ?pinned, fun hp h2 => ?full, fun hp h2 => ?pin, fun hp => ?notPinned, fun hp hh => ?unpin⟩,
    fun hv => ?badSubscribe, fun hh => ⟨?release, fun on hv => ⟨fun hs => ?same, fun hs => ?subscribe⟩⟩⟩
  case pinGone => exact request_next (tag := tag) (kind := 0x43#8) ht rfl (ownRecPin_gone tag _ hg)
  case unpinGone => exact request_next (tag := tag) (kind := 0x44#8) ht rfl (ownRecUnpin_gone tag _ hg)
  case pinFilling => exact request_next (tag := tag) (kind := 0x43#8) ht rfl (ownRecPin_filling tag _ hx)
  case unpinFilling => exact request_next (tag := tag) (kind := 0x44#8) ht rfl (ownRecUnpin_filling tag _ hx)
  case pinned =>
    exact request_next (tag := tag) (kind := 0x43#8) ht rfl ((ownRecPin_complete tag _ hx).trans (if_pos hp))
  case full =>
    refine request_next (tag := tag) (kind := 0x43#8) ht rfl ((ownRecPin_complete tag _ hx).trans ?_)
    rw [hp]
    exact if_pos h2
  case pin =>
    refine request_next (tag := tag) (kind := 0x43#8) ht rfl ((ownRecPin_complete tag _ hx).trans ?_)
    rw [hp]
    exact if_neg (Nat.not_le.2 h2)
  case notPinned => exact request_next (tag := tag) (kind := 0x44#8) ht rfl (ownRecUnpin_clear tag _ hx hp)
  case unpin =>
    refine request_next (tag := tag) (kind := 0x44#8) ht rfl ((ownRecUnpin_set tag _ hx hp).trans ?_)
    exact answer_reevaluate_working l tag _ _ _ s hh
  case badSubscribe => exact request_next (tag := tag) (kind := 0x46#8) ht rfl (ownRecSubscribe_bad tag _ hv)
  case release =>
    refine request_next (tag := tag) (kind := 0x45#8) ht rfl ((ownRecRelease_working tag _).trans ?_)
    rw [← releaseCount_eq l n s.store.slots (fun _ => rfl) rfl (fun _ => rfl)]
    exact answer_reevaluate_working l tag _ _ _ s hh
  case same =>
    exact request_next (tag := tag) (kind := 0x46#8) ht rfl
      (ownRecSubscribe_same tag _ (hv.trans (by cases on <;> rfl)) hs)
  case subscribe =>
    refine request_next (tag := tag) (kind := 0x46#8) ht rfl
      ((ownRecSubscribe_changed tag _ (hv.trans (by cases on <;> rfl)) hs).trans ?_)
    cases on with
    | true => exact answer_withStore_working ..
    | false => exact answer_reevaluate_working l tag _ _ _ s hh

end Sys2Proof.Machine
end

section
/-! PROOFS. What the Acquisition Sequencer's steps make of the sequencer, and of nothing else but what the LEDs show (R82, R87, R88,
R90, R91, R109 to R111). -/

namespace Sys2Proof.Machine

/-- The LEDs showing these levels. -/
def litTo (lit : Vector Bool 32) (s : State) : State := s.withRouter { s.router with lit := lit }

theorem evalLeds_litTo (s : State) : ∃ lit, evalLeds s = litTo lit s := evalLeds_eq s

theorem setCap_eq (c : CapState) (s : State) : ∃ lit, setCap c s = litTo lit (s.withSeq { s.seq with cap := c }) := by
  unfold setCap
  split
  · next h => exact ⟨s.router.lit, by rw [← h]; rfl⟩
  · exact evalLeds_litTo _

theorem setRun_eq (r : RunState) (s : State) : ∃ lit, setRun r s = litTo lit (s.withSeq { s.seq with run := r }) := by
  unfold setRun
  split
  · next h => exact ⟨s.router.lit, by rw [← h]; rfl⟩
  · exact evalLeds_litTo _

/-! ### Triggers (R90, R91) -/

/-- The sequencer once record r has taken trigger t. -/
def triggered (t : Trigger) (r : Record) (q : Sequencer) : Sequencer :=
  { q with
    cap := .postfill
    auto := none
    holdoff := if 0 < r.armed.holdoff then some (r.armed.holdoff.toNat * 10) else q.holdoff
    current := some { r with trigger := some t } }

theorem takeTrigger_eq (t : Trigger) (r : Record) (s : State) :
    ∃ lit, takeTrigger t r s = litTo lit (s.withSeq (triggered t r s.seq)) := by
  obtain ⟨lit, h⟩ := setCap_eq .postfill (s.withSeq { s.seq with
    auto := none
    holdoff := if 0 < r.armed.holdoff then some (r.armed.holdoff.toNat * 10) else s.seq.holdoff
    current := some { r with trigger := some t } })
  exact ⟨lit, h⟩

theorem forcedTrigger_eq {s : State} {r : Record} (h : s.seq.current = some r) :
    ∃ lit, forcedTrigger s = litTo lit (s.withSeq (triggered ⟨r.bin, s.seq.time, true⟩ r s.seq)) := by
  rw [forcedTrigger, h]
  exact takeTrigger_eq _ _ _

/-! ### Arming (R88) -/

/-- The ARMING settings of a live setup. -/
def armedOf (live : Setup) : Armed := ⟨live.get .trigMode, live.get .trigAutotime, live.get .trigHoldoff⟩

/-- The sequencer once record r has armed: a pending force is taken, or in AUTO the auto timer starts. -/
def armedSeq (live : Setup) (r : Record) (q : Sequencer) : Sequencer :=
  if q.forcePending then
    triggered ⟨r.bin, q.time, true⟩ { r with armed := armedOf live }
      { q with forcePending := false, current := some { r with armed := armedOf live } }
  else if live.get .trigMode = 0 then
    { q with
      cap := .armed
      current := some { r with armed := armedOf live }
      auto := startMs (live.get .trigAutotime).toNat }
  else { q with cap := .armed, current := some { r with armed := armedOf live } }

theorem arm_eq {s : State} {r : Record} (h : s.seq.current = some r) :
    ∃ lit, arm s = litTo lit (s.withSeq (armedSeq s.setup.live r s.seq)) := by
  obtain ⟨lit, hc⟩ := setCap_eq .armed (setCurrent (some { r with armed := armedOf s.setup.live }) s)
  simp only [armedOf] at hc
  simp only [arm, h, hc, armedSeq]
  split
  · obtain ⟨lit', hf⟩ := forcedTrigger_eq (s := litTo lit (s.withSeq { s.seq with
      cap := .armed, forcePending := false, current := some { r with armed := armedOf s.setup.live } })) rfl
    exact ⟨lit', hf⟩
  · split
    · exact ⟨lit, rfl⟩
    · exact ⟨lit, rfl⟩

/-! ### Segments (R87) -/

/-- A record at the start of a segment. -/
def begunRecord (r : Record) : Record :=
  { r with
    bin := 0
    trigger := none
    detectors := cleanDetectors
    bins := .all emptyBin
    marks := .all false
    before := []
    after := []
    lower := levelCode r.setup (r.setup.get .trigLevel)
    upper := levelCode r.setup (r.setup.get .trigUpper) }

/-- The sequencer once a segment of record r has started; with T = 0 it arms at once. -/
def begunSeq (live : Setup) (r : Record) (q : Sequencer) : Sequencer :=
  if r.plan.trigIndex = 0 then armedSeq live (begunRecord r) { q with cap := .prefill, current := some (begunRecord r) }
  else { q with cap := .prefill, current := some (begunRecord r) }

theorem segmentStart_eq {s : State} {r : Record} (h : s.seq.current = some r) :
    ∃ lit, segmentStart s = litTo lit (s.withSeq (begunSeq s.setup.live r s.seq)) := by
  obtain ⟨lit, hc⟩ := setCap_eq .prefill (setCurrent (some (begunRecord r)) s)
  simp only [begunRecord] at hc
  simp only [segmentStart, h, hc, begunSeq]
  split
  · obtain ⟨lit', ha⟩ := arm_eq (s := litTo lit (s.withSeq { s.seq with
      cap := .prefill, current := some (begunRecord r) })) rfl
    exact ⟨lit', ha⟩
  · exact ⟨lit, rfl⟩

/-! ### Grants (R84, R109 to R111) -/

/-- The Record Store once slot n has been granted. -/
def grantedStore (n : Nat) (s : State) : RecordStore :=
  { countReuse (s.store.slots.getD n .free) s.store with
    slots := s.store.slots.set n (.filling (freshHeader s.store.next s.setup.gen s.setup.live))
    next := s.store.next + 1#32
    held := false }

theorem countReuse_counts (sl : Slot) (st : RecordStore) : countReuse sl st =
    { st with overwritten := (countReuse sl st).overwritten, missed := (countReuse sl st).missed } := by
  unfold countReuse; split <;> rfl

/-- The sequencer once slot n has been granted. -/
def grantedSeq (n : Nat) (s : State) : Sequencer :=
  let h := freshHeader s.store.next s.setup.gen s.setup.live
  begunSeq s.setup.live (freshRecord n h)
    { s.seq with current := some (freshRecord n h), front := alignFront (enabledChans h.setup) s.seq.front }

theorem grantSlot_eq (n : Nat) (s : State) :
    ∃ lit, grantSlot n s = litTo lit ((s.withStore (grantedStore n s)).withSeq (grantedSeq n s)) := by
  have hst : ({ countReuse (s.store.slots.getD n .free) s.store with
      slots := (countReuse (s.store.slots.getD n .free) s.store).slots.set n
        (.filling (freshHeader s.store.next s.setup.gen s.setup.live))
      next := (countReuse (s.store.slots.getD n .free) s.store).next + 1#32
      held := false } : RecordStore) = grantedStore n s := by
    rw [countReuse_counts]; exact (congrArg (fun st : RecordStore => { st with
      slots := s.store.slots.set n (.filling (freshHeader s.store.next s.setup.gen s.setup.live))
      next := s.store.next + 1#32
      held := false }) (countReuse_counts _ _)).symm
  obtain ⟨lit, h⟩ := segmentStart_eq (s := (s.withStore (grantedStore n s)).withSeq { s.seq with
    current := some (freshRecord n (freshHeader s.store.next s.setup.gen s.setup.live))
    front := alignFront (enabledChans (freshHeader s.store.next s.setup.gen s.setup.live).setup) s.seq.front }) rfl
  refine ⟨lit, ?_⟩
  rw [grantSlot]
  dsimp only
  rw [hst]
  exact h

end Sys2Proof.Machine
end

section
/-! PROOFS. A record start (R84, R109 to R112): the slot chosen, the header and the plan of the record, and segment 0 begun. -/

namespace Sys2Proof.Machine

/-! ### The slot chosen (R111) -/

theorem reusable_iff (keep : Bool) (sub : PerLink Bool) (h : Header) :
    (mayReuse h && (!keep || releasedByAll sub h)) = true ↔ reusable keep sub h := by
  have all : ∀ P : Link → Prop, (∀ l, P l) ↔ P .console ∧ P .remote :=
    fun P => ⟨fun hp => ⟨hp _, hp _⟩, fun hp l => by cases l; exacts [hp.1, hp.2]⟩
  simp only [reusable, all, PerLink.get, mayReuse, releasedByAll]
  cases keep <;> cases sub.console <;> cases sub.remote <;> simp [and_assoc]

theorem chooseSlot_free {s : State} {n : Nat} (hn : s.store.slots[n]? = some .free)
    (hlow : ∀ m < n, s.store.slots[m]? ≠ some .free) : chooseSlot s = some n := by
  have hf : s.store.slots.findIdx? (fun sl => decide (sl = .free)) = some n := by
    obtain ⟨hlt, he⟩ := List.getElem?_eq_some_iff.1 hn
    rw [List.findIdx?_eq_some_iff_getElem]
    refine ⟨hlt, by simp [he], fun m hm => ?_⟩
    have := hlow m hm
    rw [List.getElem?_eq_getElem (by omega)] at this
    simpa using this
  rw [chooseSlot, hf]

theorem findIdx?_free_none {slots : List Slot} (h : ∀ sl ∈ slots, sl ≠ .free) :
    slots.findIdx? (fun sl => decide (sl = .free)) = none :=
  List.findIdx?_eq_none_iff.2 fun sl hs => by simpa using h sl hs

/-- The records that R111 may reuse, with their slots. -/
def candidates (s : State) : List (Nat × Header) :=
  (completes s.store.slots).filter
    (fun x => mayReuse x.2 && (!(s.setup.live.get .acqRetain == 1) || releasedByAll s.store.sub x.2))

theorem mem_candidates {s : State} {x : Nat × Header} : x ∈ candidates s ↔
    s.store.slots[x.1]? = some (.complete x.2) ∧ reusable (s.setup.live.get .acqRetain == 1) s.store.sub x.2 := by
  rw [candidates, List.mem_filter, reusable_iff, ← mem_completes]

theorem chooseSlot_noFree {s : State} (h : ∀ sl ∈ s.store.slots, sl ≠ .free) :
    chooseSlot s = (oldest (candidates s)).map Prod.fst := by
  rw [chooseSlot, findIdx?_free_none h]; rfl

/-- The slot that R111 chooses. -/
theorem chooseSlot_eq {s : State} {n : Nat} (hc : chosenSlot n s) : chooseSlot s = some n := by
  rcases hc with ⟨hn, hlow⟩ | ⟨hno, h, hn, hr, hall⟩
  · exact chooseSlot_free hn hlow
  · have ho : oldest (candidates s) = some (n, h) := by
      refine oldest_eq (mem_candidates.2 ⟨hn, hr⟩) fun y hy hne => ?_
      obtain ⟨hs, hyr⟩ := mem_candidates.1 hy
      exact hall y.1 y.2 (complete_ne hn (mem_completes.2 hs) hne).1 hs hyr
    rw [chooseSlot_noFree hno, ho]
    rfl

theorem chooseSlot_none {s : State} (h : ∀ sl ∈ s.store.slots, sl ≠ .free ∧
    ∀ h, sl = .complete h → ¬ reusable (s.setup.live.get .acqRetain == 1) s.store.sub h) : chooseSlot s = none := by
  have hnil : candidates s = [] := List.eq_nil_iff_forall_not_mem.2 fun x hx => by
    obtain ⟨hs, hr⟩ := mem_candidates.1 hx
    exact (h _ (List.mem_of_getElem? hs)).2 _ rfl hr
  rw [chooseSlot_noFree fun sl hs => (h sl hs).1, hnil]
  rfl

/-! ### The capture setup (R109) -/

/-- The 31 CAPTURE fields of a setup, every other field 0. -/
theorem captureCopy_get (st : Setup) (f : Field) :
    (captureCopy st).get f = if fieldClass f = .capture then st.get f else 0 := by
  have key : ∀ (fs : List Field) (acc : Setup),
      (fs.foldl (fun acc f => if fieldClass f = .capture then acc else acc.put f 0) acc).get f =
        if f ∈ fs ∧ fieldClass f ≠ .capture then 0 else acc.get f := by
    intro fs
    induction fs with
    | nil => intro acc; simp
    | cons g rest ih =>
      intro acc
      rw [List.foldl_cons, ih]
      by_cases hg : fieldClass g = .capture
      · rw [if_pos hg]
        refine if_congr (and_congr_left fun hf => ?_) rfl rfl
        rw [List.mem_cons, or_iff_right]
        rintro rfl
        exact hf hg
      · rw [if_neg hg]
        by_cases he : f = g
        · subst he
          simp [hg, Setup.get_put_same]
        · simp [he, Setup.get_put_other _ _ he]
  rw [captureCopy, key]
  by_cases hf : fieldClass f = .capture
  · simp [hf]
  · simp [hf, mem_allFields]

theorem captureCopy_capture (st : Setup) {f : Field} (h : fieldClass f = .capture) : (captureCopy st).get f = st.get f := by
  rw [captureCopy_get, if_pos h]

theorem enabledChans_captureCopy (st : Setup) : enabledChans (captureCopy st) = enabledChans st :=
  enabledChans_congr fun _ => captureCopy_capture st rfl

/-! ### The plan (R66, R69 to R72) -/

theorem rateOf_eq (st : Setup) : rateOf (enabledChans st) = if (enabledChans st).length = 1 then 5000
    else if (enabledChans st).length = 2 ∧ enabledChans st ≠ [.ch1, .ch2] ∧ enabledChans st ≠ [.ch3, .ch4] then 2500
    else 1250 := by
  simp only [rateOf, enabledChans, Config.chans, List.filter_cons, List.filter_nil]
  generalize (st.get (.chOn .ch1) == 1) = a
  generalize (st.get (.chOn .ch2) == 1) = b
  generalize (st.get (.chOn .ch3) == 1) = c
  generalize (st.get (.chOn .ch4) == 1) = d
  revert a b c d
  decide

/-- The decimation exponent is the least that brings the samples within the budget, or 32. -/
theorem decimation_least (raw budget : Nat) : decimation raw budget ≤ 32 ∧
    (raw / 2 ^ decimation raw budget ≤ budget ∨ decimation raw budget = 32) ∧
    ∀ j < decimation raw budget, budget < raw / 2 ^ j := by
  unfold decimation
  cases hf : (List.range 33).find? (fun k => decide (raw / 2 ^ k ≤ budget)) with
  | none =>
    refine ⟨Nat.le_refl _, .inr rfl, fun j hj => ?_⟩
    have := List.find?_eq_none.1 hf j (List.mem_range.2 (by simp at hj; omega))
    simpa using this
  | some k =>
    obtain ⟨hk, hlt, hp⟩ := List.find?_range_eq_some.1 hf
    refine ⟨by have := List.mem_range.1 hlt; simp; omega, .inl (by simpa using hk), fun j hj => ?_⟩
    simpa using hp j hj

/-! ### Level codes (R98) -/

theorem roundHalfAway_rounds (x : Int) {d : Int} (hd : 0 < d) : roundsTo x d (roundHalfAway x d) := by
  have key : ∀ y : Int, 0 ≤ y → 2 * (y - ((2 * y + d) / (2 * d)) * d) ≤ d ∧ -d ≤ 2 * (y - ((2 * y + d) / (2 * d)) * d) ∧
      (2 * (y - ((2 * y + d) / (2 * d)) * d) ≠ d) ∧ 0 ≤ (2 * y + d) / (2 * d) := by
    intro y hy
    have h1 := Int.ediv_mul_le (2 * y + d) (b := 2 * d) (by omega)
    have h2 := Int.lt_ediv_add_one_mul_self (2 * y + d) (b := 2 * d) (by omega)
    have h3 : 0 ≤ (2 * y + d) / (2 * d) := Int.ediv_nonneg (by omega) (by omega)
    generalize (2 * y + d) / (2 * d) = q at h1 h2 h3 ⊢
    have e1 : q * (2 * d) = 2 * (q * d) := by ring
    have e2 : (q + 1) * (2 * d) = 2 * (q * d) + 2 * d := by ring
    rw [e1] at h1
    rw [e2] at h2
    omega
  unfold roundsTo roundHalfAway
  by_cases hx : 0 ≤ x
  · rw [if_pos hx]
    obtain ⟨h1, h2, h3, h4⟩ := key x hx
    have h5 : 0 ≤ (2 * x + d) / (2 * d) * d := Int.mul_nonneg h4 hd.le
    omega
  · rw [if_neg hx]
    obtain ⟨h1, h2, h3, h4⟩ := key (-x) (by omega)
    have h5 : 0 ≤ (2 * -x + d) / (2 * d) * d := Int.mul_nonneg h4 hd.le
    rw [Int.neg_mul]
    omega

theorem scaleUv_pos (i : Int) : 0 < scaleUv i := by
  unfold scaleUv
  rcases Nat.lt_or_ge i.toNat 12 with h | h
  · generalize i.toNat = n at h
    interval_cases n <;> decide
  · rw [List.getD_eq_default _ _ (by simpa using h)]
    decide

theorem levelCode_coded (st : Setup) (v : Int) : levelCoded st v (levelCode st v) := by
  intro c hc
  have hs : sourceChan st = c := by rw [sourceChan, ← hc, chanOfNumber_chanNumber]; rfl
  refine ⟨_, roundHalfAway_rounds _ (scaleUv_pos _), ?_⟩
  rw [levelCode, hs]
  unfold clampInt
  omega

/-! ### Segment 0 begun (R87, R88, R91) -/

theorem begunSeq_prefill (live : Setup) {r : Record} (q : Sequencer) (h : r.plan.trigIndex ≠ 0) :
    begunSeq live r q = { q with cap := .prefill, current := some (begunRecord r) } := if_neg h

theorem begunSeq_armed (live : Setup) {r : Record} {q : Sequencer} (h : r.plan.trigIndex = 0) (hf : q.forcePending = false) :
    begunSeq live r q = { q with
      cap := .armed
      current := some { begunRecord r with armed := armedOf live }
      auto := if live.get .trigMode = 0 then startMs (live.get .trigAutotime).toNat else q.auto } := by
  rw [begunSeq, if_pos h, armedSeq]
  simp only [hf, Bool.false_eq_true, if_false]
  split
  · rfl
  · rfl

theorem begunSeq_forced (live : Setup) {r : Record} {q : Sequencer} (h : r.plan.trigIndex = 0) (hf : q.forcePending = true) :
    begunSeq live r q = triggered ⟨0, q.time, true⟩ { begunRecord r with armed := armedOf live }
      { q with forcePending := false, cap := .prefill, current := some { begunRecord r with armed := armedOf live } } := by
  rw [begunSeq, if_pos h, armedSeq]
  simp only [hf, if_true]
  rfl

/-- The record at its first segment, whichever way it has armed, and the run state and the rest as they were. -/
theorem begunSeq_current (live : Setup) (r : Record) (q : Sequencer) :
    ∃ a t, (begunSeq live r q).current = some { begunRecord r with armed := a, trigger := t } ∧
      (begunSeq live r q).run = q.run ∧
      (r.plan.trigIndex ≠ 0 → (begunSeq live r q).cap = .prefill ∧ t = none) ∧
      (r.plan.trigIndex = 0 → q.forcePending = false → (begunSeq live r q).cap = .armed ∧ t = none ∧
        (live.get .trigMode = 0 → (begunSeq live r q).auto = some ((live.get .trigAutotime).toNat * 1000000))) ∧
      (r.plan.trigIndex = 0 → q.forcePending = true → (begunSeq live r q).cap = .postfill ∧ t = some ⟨0, q.time, true⟩ ∧
        (begunSeq live r q).forcePending = false) := by
  by_cases h : r.plan.trigIndex = 0
  · cases hf : q.forcePending with
    | false =>
      rw [begunSeq_armed live h hf]
      exact ⟨_, none, rfl, rfl, fun hn => absurd h hn, fun _ _ => ⟨rfl, rfl, fun hm => if_pos hm⟩, fun _ ht => (by cases ht)⟩
    | true =>
      rw [begunSeq_forced live h hf]
      exact ⟨_, _, rfl, rfl, fun hn => absurd h hn, fun _ ht => (by cases ht), fun _ _ => ⟨rfl, rfl, rfl⟩⟩
  · rw [begunSeq_prefill live q h]
    exact ⟨_, _, rfl, rfl, fun _ => ⟨rfl, rfl⟩, fun hn => absurd hn h, fun hn => absurd hn h⟩

theorem segmentBegun_begunRecord (r : Record) (a : Armed) (t : Option Trigger) :
    segmentBegun { begunRecord r with armed := a, trigger := t } :=
  ⟨rfl, rfl, rfl, rfl, fun _ => ⟨PerChan.all_get .., PerChan.all_get ..⟩, levelCode_coded _ _, levelCode_coded _ _⟩

/-- The header of a record that starts in s. -/
def startHeader (s : State) : Header := freshHeader s.store.next s.setup.gen s.setup.live

theorem grantedSeq_current (n : Nat) (s : State) :
    ∃ r, (grantedSeq n s).current = some r ∧ r.slot = n ∧ r.number = (startHeader s).number ∧ r.gen = (startHeader s).gen ∧
      r.setup = (startHeader s).setup ∧ r.segment = 0 ∧ r.completed = 0 ∧ segmentBegun r ∧ r.plan.points = (startHeader s).points ∧
      r.plan.trigIndex = (startHeader s).trigIndex ∧ r.plan.k = (startHeader s).k ∧ (grantedSeq n s).run = s.seq.run ∧
      ((startHeader s).trigIndex ≠ 0 → (grantedSeq n s).cap = .prefill ∧ r.trigger = none) ∧
      ((startHeader s).trigIndex = 0 → s.seq.forcePending = false → (grantedSeq n s).cap = .armed ∧ r.trigger = none ∧
        (s.setup.live.get .trigMode = 0 →
          (grantedSeq n s).auto = some ((s.setup.live.get .trigAutotime).toNat * 1000000))) ∧
      ((startHeader s).trigIndex = 0 → s.seq.forcePending = true → (grantedSeq n s).cap = .postfill ∧
        r.trigger = some ⟨0, s.seq.time, true⟩ ∧ (grantedSeq n s).forcePending = false) := by
  obtain ⟨a, t, hcur, hrun, hpre, harm, hforce⟩ := begunSeq_current s.setup.live (freshRecord n (startHeader s)) { s.seq with
    current := some (freshRecord n (startHeader s))
    front := alignFront (enabledChans (startHeader s).setup) s.seq.front }
  exact ⟨_, hcur, rfl, rfl, rfl, rfl, rfl, rfl, segmentBegun_begunRecord .., rfl, rfl, rfl, hrun, hpre, harm, hforce⟩

/-- The plan of the header that a record starts with. -/
theorem startHeader_plan (s : State) :
    let budget := 1024 * 4 ^ (s.setup.live.get .acqDepth).toNat / 2 ^ (s.setup.live.get .acqSegments).toNat /
      (if s.setup.live.get .acqMode = 0 then 1 else 2)
    let rate := if (enabledChans s.setup.live).length = 1 then 5000
      else if (enabledChans s.setup.live).length = 2 ∧
        enabledChans s.setup.live ≠ [.ch1, .ch2] ∧ enabledChans s.setup.live ≠ [.ch3, .ch4] then 2500 else 1250
    let raw := rate * 10 * tbNs (s.setup.live.get .tbScale) / 1000
    (startHeader s).k ≤ 32 ∧ (raw / 2 ^ (startHeader s).k ≤ budget ∨ (startHeader s).k = 32) ∧
      (∀ j < (startHeader s).k, budget < raw / 2 ^ j) ∧
      (startHeader s).points = min budget (raw / 2 ^ (startHeader s).k) ∧
      (startHeader s).trigIndex =
        min ((startHeader s).points - 1) ((startHeader s).points * (s.setup.live.get .tbPosition).toNat / 1000) := by
  intro budget rate raw
  have hb : pointBudget (segmentDepth (captureCopy s.setup.live)) ((captureCopy s.setup.live).get .acqMode) = budget := by
    simp only [pointBudget, segmentDepth, depthSamples, captureCopy_capture s.setup.live (f := .acqMode) rfl,
      captureCopy_capture s.setup.live (f := .acqDepth) rfl, captureCopy_capture s.setup.live (f := .acqSegments) rfl, budget]
    split
    · rw [Nat.div_one]
    · rfl
  have hr : rawSamples (rateOf (enabledChans (captureCopy s.setup.live)))
      (tbNs ((captureCopy s.setup.live).get .tbScale)) = raw := by
    rw [enabledChans_captureCopy, rateOf_eq, captureCopy_capture s.setup.live (f := .tbScale) rfl, rawSamples]
  have hk : (startHeader s).k = decimation raw budget := congrArg₂ decimation hr hb
  have hp : (startHeader s).points = min budget (raw / 2 ^ (startHeader s).k) :=
    congrArg₂ (fun b x => min b (x / 2 ^ (startHeader s).k)) hb hr
  refine ⟨?_, ?_, ?_, hp, ?_⟩
  · rw [hk]; exact (decimation_least raw budget).1
  · rw [hk]; exact (decimation_least raw budget).2.1
  · rw [hk]; exact (decimation_least raw budget).2.2
  · rw [Nat.min_comm, ← captureCopy_capture s.setup.live (f := .tbPosition) rfl]
    rfl

/-! ### What a grant counts (R112) -/

theorem grantedStore_free {n : Nat} {s : State} (h : s.store.slots[n]? = some .free) :
    (grantedStore n s).overwritten = s.store.overwritten ∧ (grantedStore n s).missed = s.store.missed := by
  have hg : s.store.slots.getD n .free = .free := by rw [List.getD_eq_getElem?_getD, h]; rfl
  rw [grantedStore, hg]
  exact ⟨rfl, rfl⟩

theorem grantedStore_complete {n : Nat} {s : State} {x : Header} (h : s.store.slots[n]? = some (.complete x)) :
    (grantedStore n s).overwritten = (if x.drawn = .undrawn then satInc s.store.overwritten else s.store.overwritten) ∧
    ∀ l, (grantedStore n s).missed.get l =
      if s.store.sub.get l = true ∧ x.released.get l = false then satInc (s.store.missed.get l)
      else s.store.missed.get l := by
  have hg : s.store.slots.getD n .free = .complete x := by rw [List.getD_eq_getElem?_getD, h]; rfl
  rw [grantedStore, hg]
  refine ⟨rfl, fun l => ?_⟩
  have hm : ∀ m, missedAfter s.store x m = if s.store.sub.get m = true ∧ x.released.get m = false
      then satInc (s.store.missed.get m) else s.store.missed.get m := fun m => by simp [missedAfter]
  cases l
  · exact hm .console
  · exact hm .remote

/-- Settles O31: a request is a grant of the slot chosen, or is held. -/
theorem recordStartTakesSlot : Obligations.RecordStartTakesSlot := by
  refine fun s => ⟨fun n hn => ?granted, fun h => ?held⟩
  case granted =>
    obtain ⟨lit, he⟩ := grantSlot_eq n s
    have hq : requestSlot s = litTo lit ((s.withStore (grantedStore n s)).withSeq (grantedSeq n s)) := by
      rw [requestSlot, chooseSlot_eq hn]; exact he
    obtain ⟨r, hcur, hrest⟩ := grantedSeq_current n s
    obtain ⟨h1, h2, h3, h4, h5, h6, h7, h8, h9, h10, h11, h12, h13, h14⟩ := hrest
    rw [hq]
    refine ⟨startHeader s, r, rfl, rfl, rfl, rfl, rfl, captureCopy_get _, ?_, rfl, rfl, rfl, fun _ => PerChan.all_get .., rfl,
      fun _ => ⟨PerLink.both_get .., PerLink.both_get ..⟩, startHeader_plan s, grantedStore_free,
      fun x hx => grantedStore_complete hx, hcur, h1, h2, h3, h4, h5, h6, h7, h8, h9, h10, h11, h12, h13, h14⟩
    exact congrArg (fun v : Int => 2 ^ v.toNat) (captureCopy_capture s.setup.live (f := .acqSegments) rfl)
  case held =>
    obtain ⟨lit, he⟩ := setCap_eq .waitSlot (s.withStore { s.store with held := true })
    rw [requestSlot, chooseSlot_none h]
    dsimp only
    rw [he]
    exact ⟨rfl, rfl⟩

/-! ### A held request judged again (R113) -/

theorem judgedAgain_reevaluate {u : State} (hh : u.store.held = true) : judgedAgain u (reevaluate u) := by
  refine ⟨fun n hn => ?_, fun h => ?_⟩
  · obtain ⟨lit, he⟩ := grantSlot_eq n u
    have hq : reevaluate u = litTo lit ((u.withStore (grantedStore n u)).withSeq (grantedSeq n u)) := by
      rw [reevaluate, if_pos hh, chooseSlot_eq hn]; exact he
    obtain ⟨r, hcur, h1, h2, h3, h4, h5, h6, h7, -, -, -, h11, h12, -⟩ := grantedSeq_current n u
    obtain ⟨hmem, hsub, hpins, -, -⟩ := countReuse_kept (u.store.slots.getD n .free) u.store
    rw [hq]
    refine ⟨startHeader u, r, rfl, rfl, rfl, ?_, ?_, ?_, rfl, rfl, rfl, rfl, captureCopy_get _, hcur, h1, h2, h3, h4, h5, h6,
      h7, h11, h12, rfl, rfl, rfl, rfl, rfl, rfl, rfl⟩
    · exact hpins
    · exact hsub
    · exact hmem
  · rw [reevaluate, if_pos hh, chooseSlot_none h]

end Sys2Proof.Machine
end

section
/-! PROOFS. Span passes (R135 to R139, R144, R145), and what a held slot request meets when a draw ends or a record is released
(R113). -/

namespace Sys2Proof.Machine

/-! ### Hits on a plane -/

theorem cellAddress_inj {x y x' y' : Nat} (hx : x < 700) (hx' : x' < 700) :
    cellAddress x y = cellAddress x' y' ↔ x = x' ∧ y = y' := by
  simp only [cellAddress, Config.columns]
  omega

theorem hitByte_toNat (b : Byte) : (hitByte b).toNat = min 255 (b.toNat + 1) := by
  unfold hitByte
  split
  · next h => subst h; rfl
  · next h => bv_omega

theorem memGet_addHits {plane : Memory} {x px : Nat} (y n py : Nat) (hw : memWf plane = true) (hx : x < 700) (hpx : px < 700) :
    memGet (addHits plane x y n) (cellAddress px py) =
      if px = x ∧ y ≤ py ∧ py < y + n then hitByte (memGet plane (cellAddress px py))
      else memGet plane (cellAddress px py) := by
  induction n generalizing plane y with
  | zero => rw [addHits, if_neg (by omega)]
  | succ n ih =>
    rw [addHits, ih (y + 1) (memWf_memSet _ _ hw), memGet_memSet _ _ _ hw]
    simp only [cellAddress_inj hpx hx]
    by_cases hc : px = x ∧ py = y
    · obtain ⟨rfl, rfl⟩ := hc
      rw [if_neg (by omega), if_pos ⟨rfl, rfl⟩, if_pos (by omega)]
    · rw [if_neg hc]
      exact if_congr (by omega) rfl rfl

/-- A cell of the column hit, by the rows of its span. -/
theorem memGet_hitColumn {vectors : Bool} {pts : List Mapped} {plane : Memory} {x px : Nat} (py : Nat)
    (hw : memWf plane = true) (hx : x < 700) (hpx : px < 700) :
    memGet (hitColumn vectors pts plane x) (cellAddress px py) =
      if px = x ∧ inSpan (hitRows vectors pts px) py = true then hitByte (memGet plane (cellAddress px py))
      else memGet plane (cellAddress px py) := by
  unfold hitColumn
  split
  · next h =>
    refine (if_neg ?_).symm
    rintro ⟨rfl, hi⟩
    rw [h] at hi
    cases hi
  · next lo hi h =>
    rw [memGet_addHits _ _ _ hw hx hpx]
    refine if_congr (and_congr_right fun he => ?_) rfl rfl
    subst he
    rw [h]
    simp only [inSpan, Bool.and_eq_true, decide_eq_true_eq]
    omega

theorem memGet_foldl_hitColumn {vectors : Bool} {pts : List Mapped} {px py : Nat} (hpx : px < 700) (cols : List Nat)
    (hc : ∀ x ∈ cols, x < 700) (hn : cols.Nodup) {plane : Memory} (hw : memWf plane = true) :
    memGet (cols.foldl (hitColumn vectors pts) plane) (cellAddress px py) =
      if px ∈ cols ∧ inSpan (hitRows vectors pts px) py = true then hitByte (memGet plane (cellAddress px py))
      else memGet plane (cellAddress px py) := by
  induction cols generalizing plane with
  | nil => simp
  | cons x rest ih =>
    obtain ⟨hx, hrest⟩ := List.nodup_cons.1 hn
    rw [List.foldl_cons, ih (fun y hy => hc y (List.mem_cons_of_mem _ hy)) hrest (memWf_hitColumn _ _ _ hw),
      memGet_hitColumn py hw (hc x (by simp)) hpx]
    by_cases he : px = x
    · subst he
      simp [hx]
    · simp [he]

/-- The cells of a plane after the hits of a span pass. -/
theorem memGet_addSpans {vectors : Bool} {pts : List Mapped} {plane : Memory} {px py : Nat} (hpx : px < 700)
    (hw : memWf plane = true) : (memGet (addSpans vectors pts plane) (cellAddress px py)).toNat =
      brightened (inSpan (hitRows vectors pts px) py) (memGet plane (cellAddress px py)) := by
  have hcols : ∀ x ∈ List.range Config.columns, x < 700 := fun x hx => List.mem_range.1 hx
  have hin : px ∈ List.range Config.columns := List.mem_range.2 hpx
  rw [addSpans, memGet_foldl_hitColumn hpx _ hcols List.nodup_range hw, brightened]
  simp only [hin, true_and]
  split
  · exact hitByte_toNat _
  · rfl

/-! ### The next pass (R139) -/

/-- The lowest channel with a property leads the list of those with it. -/
theorem head?_chans_filter {p : Chan → Bool} {c : Chan} (hp : p c = true) (hmin : ∀ e, p e = true → chanNumber c ≤ chanNumber e) :
    (Config.chans.filter p).head? = some c := by
  have hc : c ∈ Config.chans.filter p := List.mem_filter.2 ⟨by cases c <;> simp [Config.chans], hp⟩
  obtain ⟨d, rest, hd⟩ := List.exists_cons_of_ne_nil (List.ne_nil_of_mem hc)
  have hpd : p d = true := (List.mem_filter.1 (hd ▸ List.mem_cons_self .. : d ∈ Config.chans.filter p)).2
  have asc : (d :: rest).Pairwise (fun a b => chanNumber a ≤ chanNumber b) :=
    hd ▸ (by decide : Config.chans.Pairwise (fun a b => chanNumber a ≤ chanNumber b)).sublist List.filter_sublist
  have hdc : chanNumber d ≤ chanNumber c := by
    rcases List.mem_cons.1 (hd ▸ hc) with rfl | hm
    · exact Int.le_refl _
    · exact List.rel_of_pairwise_cons asc hm
  have he : chanNumber d = chanNumber c := Int.le_antisymm hdc (hmin d hpd)
  have : d = c := by
    have := congrArg chanOfNumber he
    rwa [chanOfNumber_chanNumber, chanOfNumber_chanNumber, Option.some.injEq] at this
  rw [hd, this]
  rfl

theorem chanIndex_lt_iff (a b : Chan) : chanIndex a < chanIndex b ↔ chanNumber a < chanNumber b := by
  simp only [chanNumber]; omega

theorem mem_enabledChans_iff {st : Setup} {c : Chan} : c ∈ enabledChans st ↔ (st.get (.chOn c) == 1) = true := by
  rw [mem_enabledChans, beq_iff_eq]

/-- The lowest enabled channel above another, if there is one. -/
theorem nextChan_eq {st : Setup} {a c : Chan} (hc : c ∈ enabledChans st) (hlt : chanNumber a < chanNumber c)
    (hmin : ∀ e ∈ enabledChans st, chanNumber a < chanNumber e → chanNumber c ≤ chanNumber e) :
    ((enabledChans st).filter (fun x => decide (chanIndex a < chanIndex x))).head? = some c := by
  rw [enabledChans, List.filter_filter]
  refine head?_chans_filter ?_ fun e he => ?_
  · rw [Bool.and_eq_true, decide_eq_true_eq, chanIndex_lt_iff]
    exact ⟨hlt, mem_enabledChans_iff.1 hc⟩
  · rw [Bool.and_eq_true, decide_eq_true_eq, chanIndex_lt_iff] at he
    exact hmin e (mem_enabledChans_iff.2 he.2) he.1

theorem nextChan_none {st : Setup} {a : Chan} (h : ∀ e ∈ enabledChans st, chanNumber e ≤ chanNumber a) :
    (enabledChans st).filter (fun x => decide (chanIndex a < chanIndex x)) = [] :=
  List.filter_eq_nil_iff.2 fun e he => by
    rw [decide_eq_true_eq, chanIndex_lt_iff]
    exact Int.not_lt.2 (h e he)

theorem firstChan_eq {h : Header} {c : Chan} (hc : c ∈ enabledChans h.setup)
    (hmin : ∀ e ∈ enabledChans h.setup, chanNumber c ≤ chanNumber e) : firstChan h = c := by
  have := head?_chans_filter (p := fun c => h.setup.get (.chOn c) == 1) (mem_enabledChans_iff.1 hc)
    fun e he => hmin e (mem_enabledChans_iff.2 he)
  rw [firstChan, List.headD_eq_head?_getD, enabledChans, this]
  rfl

theorem nextPass_eq {d : Draw} {seg : Nat} {c : Chan} (h : followsPass d seg c) :
    nextPass d.header d.segment d.chan = some (seg, c) := by
  rcases h with ⟨rfl, hc, hlt, hmin⟩ | ⟨rfl, hseg, hno, hc, hmin⟩
  · rw [nextPass, nextChan_eq hc hlt hmin]
  · rw [nextPass, nextChan_none hno, List.head?_nil]
    dsimp only
    rw [if_pos hseg, firstChan_eq hc hmin]

theorem nextPass_none {d : Draw} (h : lastPass d) : nextPass d.header d.segment d.chan = none := by
  rw [nextPass, nextChan_none h.2, List.head?_nil]
  exact if_neg (Nat.not_lt.2 h.1)

/-! ### The span pass -/

theorem exec_spanPass {d : Draw} {x : Nat × Header} {s : State} (he : s.raster.engine = .rendering)
    (hd : s.raster.draw = some d) (hx : findComplete s.store.slots d.number = some x)
    (hr : regionFits x.1 s.store.recordBytes d.header.setup d.segment d.header.points = true) :
    exec .spanPass s = .next (spanPassAt x.1 d s) := by
  have hex : exec .spanPass s = execSpanPass s := rfl
  rw [hex]
  simp only [execSpanPass, he, hd, hx, hr, if_true]

/-- The plane of the channel in draw before and after its pass. -/
def passOld (d : Draw) (s : State) : Memory :=
  if d.kind = .first ∧ d.view.persist = 0 ∧ d.segment = 0 then [] else s.raster.planes.get d.chan

def passPlane (k : Nat) (d : Draw) (s : State) : Memory :=
  addSpans (d.view.vectors == 1) (mappedPoints s.store.mem k s.store.recordBytes d.header d.view d.chan d.segment)
    (passOld d s)

theorem spanPassAt_next {k : Nat} {d : Draw} {seg : Nat} {c : Chan} (s : State) (h : followsPass d seg c) :
    spanPassAt k d s = s.withRaster { s.raster with
      planes := s.raster.planes.set d.chan (passPlane k d s), draw := some { d with segment := seg, chan := c } } := by
  simp only [spanPassAt, nextPass_eq h]
  rfl

/-- The state as a draw ends, its record DRAWN and the engine IDLE, before a held request is judged again. -/
def drawEnded (k : Nat) (d : Draw) (s : State) : State :=
  (s.withStore (setDrawn d.number .drawn s.store)).withRaster { s.raster with
    engine := .idle, draw := none, planes := s.raster.planes.set d.chan (passPlane k d s) }

theorem spanPassAt_last {k : Nat} {d : Draw} (s : State) (h : lastPass d) :
    spanPassAt k d s = selectDraw (reevaluate (drawEnded k d s)) := by
  simp only [spanPassAt, nextPass_none h]
  rfl

theorem memGet_passOld (d : Draw) (s : State) (a : Nat) : memGet (passOld d s) a =
    if d.kind = .first ∧ d.view.persist = 0 ∧ d.segment = 0 then 0#8 else memGet (s.raster.planes.get d.chan) a := by
  unfold passOld
  split
  · rfl
  · rfl

theorem memWf_passOld {d : Draw} {s : State} (hw : memWf (s.raster.planes.get d.chan) = true) :
    memWf (passOld d s) = true := by
  unfold passOld
  split
  · rfl
  · exact hw

/-- Settles O50: the plane is that of `memGet_addSpans`, and the pass that follows decides what comes after. -/
theorem spanPassAddsHits : Obligations.SpanPassAddsHits := by
  intro d k h s he hd hx hr hw
  refine ⟨passPlane k d s, memWf_addSpans _ _ (memWf_passOld hw), fun x y hpx _ => ?_, fun seg c hf => ?_, fun hl hh => ?_⟩
  · rw [← memGet_passOld d s]
    exact memGet_addSpans hpx (memWf_passOld hw)
  · rw [exec_spanPass he hd hx hr, spanPassAt_next s hf]
  · rw [exec_spanPass he hd hx hr, spanPassAt_last s hl, reevaluate_of_not_held (s := drawEnded k d s) hh]
    rfl

end Sys2Proof.Machine
end

section
/-! PROOFS. The link reset line (R199, R200), and a held slot request judged again (R113). -/

namespace Sys2Proof.Machine

/-! ### What a held request judged again changes -/

theorem reevaluate_cases (s : State) : reevaluate s = s ∨ s.store.held = true ∧ ∃ n lit, chooseSlot s = some n ∧
    reevaluate s = litTo lit ((s.withStore (grantedStore n s)).withSeq (grantedSeq n s)) := by
  unfold reevaluate
  split
  · next hh =>
    split
    · next n hn =>
      obtain ⟨lit, h⟩ := grantSlot_eq n s
      exact .inr ⟨hh, n, lit, hn, h⟩
    · exact .inl rfl
  · exact .inl rfl

/-- Only the Record Store, the sequencer and the LEDs can change. -/
theorem reevaluate_frame (s : State) : ∃ lit, reevaluate s =
    litTo lit ((s.withStore (reevaluate s).store).withSeq (reevaluate s).seq) := by
  rcases reevaluate_cases s with h | ⟨-, n, lit, -, h⟩
  · exact ⟨s.router.lit, by rw [h]; rfl⟩
  · exact ⟨lit, by rw [h]; rfl⟩

/-- What a grant leaves of the Record Store. -/
theorem reevaluate_store (s : State) : (reevaluate s).store.pinsList = s.store.pinsList ∧
    (reevaluate s).store.sub = s.store.sub ∧ (reevaluate s).store.notice = s.store.notice ∧
    (reevaluate s).store.mem = s.store.mem ∧
    ∀ l, s.store.sub.get l = false → (reevaluate s).store.missed.get l = s.store.missed.get l := by
  rcases reevaluate_cases s with h | ⟨-, n, lit, -, h⟩
  · rw [h]; exact ⟨rfl, rfl, rfl, rfl, fun _ _ => rfl⟩
  · obtain ⟨hmem, hsub, hpins, hnot, -⟩ := countReuse_kept (s.store.slots.getD n .free) s.store
    rw [h]
    refine ⟨hpins, hsub, hnot, hmem, fun l hl => ?_⟩
    change (countReuse (s.store.slots.getD n .free) s.store).missed.get l = _
    unfold countReuse
    split
    · cases l
      · exact if_neg (by rw [hl]; simp)
      · exact if_neg (by rw [hl]; simp)
    · rfl

/-- Both depend on these parts alone. -/
theorem reevaluate_congr {s t : State} (hst : t.store = s.store) (hsq : t.seq = s.seq) (hl : t.setup.live = s.setup.live)
    (hg : t.setup.gen = s.setup.gen) :
    (reevaluate t).store = (reevaluate s).store ∧ (reevaluate t).seq = (reevaluate s).seq := by
  have hc : chooseSlot t = chooseSlot s := by simp only [chooseSlot, hst, hl]
  unfold reevaluate
  rw [hc, hst]
  split
  · split
    · next n _ =>
      obtain ⟨lt, ht⟩ := grantSlot_eq n t
      obtain ⟨ls, hs⟩ := grantSlot_eq n s
      rw [ht, hs]
      refine ⟨?_, ?_⟩
      · change grantedStore n t = grantedStore n s
        simp only [grantedStore, hst, hl, hg]
      · change grantedSeq n t = grantedSeq n s
        simp only [grantedSeq, hst, hsq, hl, hg]
    · exact ⟨hst, hsq⟩
  · exact ⟨hst, hsq⟩

/-! ### The requests that judge again -/

/-- A change that judges again under a request in work, and the request then answered. -/
theorem answer_judged_working (l : Link) (tag kind : Byte) (status : Status) (payload : Payload) {st : RecordStore} (s : State)
    (h : st.held = true) : ∃ t, answer l status payload (reevaluate ((working l tag kind s).withStore st)) =
      replied l tag status payload t ∧ judgedAgain (s.withStore st) t := by
  have hj := judgedAgain_reevaluate (u := (working l tag kind s).withStore st) h
  have hlinks : (reevaluate ((working l tag kind s).withStore st)).links = (working l tag kind s).links := by
    obtain ⟨lit, he⟩ := reevaluate_frame ((working l tag kind s).withStore st)
    rw [he]; rfl
  refine ⟨(reevaluate ((working l tag kind s).withStore st)).withLinks s.links, answer_of_working _ _ hlinks, ?_, ?_⟩
  · intro n hn
    obtain ⟨x, r, h1, h2, h3, h4, h5, h6, h7, h8, h9, h10, h11, h12, h13, h14, h15, h16, h17, h18, h19, h20, h21, h22, h23,
      h24, -, h26⟩ := hj.1 n hn
    exact ⟨x, r, h1, h2, h3, h4, h5, h6, h7, h8, h9, h10, h11, h12, h13, h14, h15, h16, h17, h18, h19, h20, h21, h22, h23,
      h24, rfl, h26⟩
  · intro hno
    rw [hj.2 hno]
    rfl

/-! ### The assertion of the reset line (R199) -/

/-- The Record Store once a link has been reset, before a held request is judged again (R129). -/
def recordsReset (l : Link) (st : RecordStore) : RecordStore :=
  { st with
    slots := updateCompletes (fun h => releaseHeader l (pinHeader l false h)) st.slots
    pinsList := st.pinsList.set l []
    sub := st.sub.set l false
    missed := st.missed.set l 0#16
    notice := st.notice.set l startNotice }

/-- The state of a reset as its records are reached. -/
def linkTornDown (l : Link) (s : State) : State :=
  setQueue l startQueue ((setLink l (resetLink (s.links.get l)) s).withSetup
    { s.setup with batches := s.setup.batches.set l none })

theorem exec_linkResetAssert {l : Link} {s : State} (h : (s.links.get l).resetLine = false) :
    exec (.linkResetAssert l) s = .next (resetReceivers l (setLink l (resetLink (s.links.get l)) s)) :=
  if_neg (by rw [h]; exact Bool.false_ne_true)

theorem resetLockout_eq (l : Link) (s : State) : ∃ lit, resetLockout l s =
    (s.withRouter { s.router with lockout := if l = .remote then .localControl else s.router.lockout, lit := lit }).withLinks
      (if l = .remote ∧ s.router.lockout ≠ .localControl then (notify .console .lockout s).links else s.links) := by
  unfold resetLockout
  split
  · next h =>
    obtain ⟨lit, he⟩ := evalLeds_litTo (s.withRouter { s.router with lockout := .localControl })
    refine ⟨lit, ?_⟩
    rw [he, if_pos h.1]
    rfl
  · next h =>
    refine ⟨s.router.lit, ?_⟩
    have hk : (if l = .remote then .localControl else s.router.lockout) = s.router.lockout := by
      split
      · next hl => exact (Classical.not_not.1 fun hn => h ⟨hl, hn⟩).symm
      · rfl
    rw [hk]
    rfl

/-- A reset of a link, but for what its records do. -/
theorem resetReceivers_eq (l : Link) (s : State) : ∃ lit v, v = reevaluate ((linkTornDown l s).withStore (recordsReset l s.store)) ∧
    resetReceivers l (setLink l (resetLink (s.links.get l)) s) = ((((linkTornDown l s).withSaved { s.saved with
      queue := s.saved.queue.filter (fun r => r.source != some l)
      op := s.saved.op.map (fun op => if op.req.source = some l then { op with dropped := true } else op) }).withDisp
        { s.disp with overlay := s.disp.overlay.set l [] }).withRouter
        { s.router with lockout := if l = .remote then .localControl else s.router.lockout, lit := lit }
        |>.withLinks (if l = .remote ∧ s.router.lockout ≠ .localControl then
          (notify .console .lockout (linkTornDown l s)).links else (linkTornDown l s).links)
        |>.withPower (resetRequester l s.power)
        |>.withStore v.store).withSeq v.seq := by
  obtain ⟨lit1, h1⟩ := reevaluate_frame ((linkTornDown l s).withStore (recordsReset l s.store))
  generalize hv : reevaluate ((linkTornDown l s).withStore (recordsReset l s.store)) = v at h1 ⊢
  have hr : resetRecords l (linkTornDown l s) = v := hv
  obtain ⟨lit2, h2⟩ := resetLockout_eq l ((resetStore l v).withDisp
    { (resetStore l v).disp with overlay := (resetStore l v).disp.overlay.set l [] })
  refine ⟨lit2, v, rfl, ?_⟩
  have he : resetReceivers l (setLink l (resetLink (s.links.get l)) s) =
      (resetLockout l ((resetStore l (resetRecords l (linkTornDown l s))).withDisp
        { (resetStore l (resetRecords l (linkTornDown l s))).disp with
          overlay := (resetStore l (resetRecords l (linkTornDown l s))).disp.overlay.set l [] })).withPower
        (resetRequester l (resetLockout l ((resetStore l (resetRecords l (linkTornDown l s))).withDisp
        { (resetStore l (resetRecords l (linkTornDown l s))).disp with
          overlay := (resetStore l (resetRecords l (linkTornDown l s))).disp.overlay.set l [] })).power) := rfl
  rw [he, hr, h2]
  rw [h1]
  rfl

theorem tornDown_links (l : Link) (s : State) :
    (linkTornDown l s).links.get l = resetLink (s.links.get l) ∧
    (linkTornDown l s).links.get (otherLink l) = s.links.get (otherLink l) := by cases l <;> exact ⟨rfl, rfl⟩

/-- The links after a reset: the link's own as at start, and LOCKOUT on the console link when the lockout goes. -/
theorem resetLinks_get (l : Link) (s : State) (k : PerLink LinkState) (hk : k = if l = .remote ∧ s.router.lockout ≠ .localControl
      then (notify .console .lockout (linkTornDown l s)).links else (linkTornDown l s).links) :
    k.get l = resetLink (s.links.get l) ∧ k.get (otherLink l) = { s.links.get (otherLink l) with
      notices := if l = .remote ∧ s.router.lockout ≠ .localControl
        then (s.links.get (otherLink l)).notices ||| noticeMask .lockout else (s.links.get (otherLink l)).notices } := by
  subst hk
  by_cases h : l = .remote ∧ s.router.lockout ≠ .localControl
  · rw [if_pos h, if_pos h]
    obtain ⟨rfl, -⟩ := h
    exact ⟨rfl, rfl⟩
  · rw [if_neg h, if_neg h]
    exact tornDown_links l s

theorem resetRequester_other (l : Link) (p : Power) : (resetRequester l p).requester.map Prod.fst ≠ some l := by
  cases h : p.requester with
  | none => simp [resetRequester, h]
  | some r => simp [resetRequester, h]

/-- Settles O8: `resetReceivers_eq` names what the assertion leaves. -/
theorem linkResetLineTearsDownAndReopens : Obligations.LinkResetLineTearsDownAndReopens := by
  refine fun l s => ⟨fun h => ?assert, fun h => if_pos h⟩
  obtain ⟨lit, v, hv, he⟩ := resetReceivers_eq l s
  obtain ⟨hpins, hsub, hnot, hmem, hmissed⟩ := reevaluate_store ((linkTornDown l s).withStore (recordsReset l s.store))
  rw [← hv] at hpins hsub hnot hmem hmissed
  obtain ⟨hl, ho⟩ := resetLinks_get l s _ rfl
  refine ⟨_, exec_linkResetAssert h, ?_⟩
  rw [he]
  refine ⟨hl, ho, rfl, rfl, hpins, hsub, ?_, hnot, hmem, fun hh => ?_, rfl, rfl, rfl, rfl, rfl, resetRequester_other l s.power, rfl⟩
  · exact (hmissed l (PerLink.get_set_same ..)).trans (PerLink.get_set_same ..)
  · have hs : v = (linkTornDown l s).withStore (recordsReset l s.store) := hv.trans (reevaluate_of_not_held hh)
    rw [hs]
    exact ⟨rfl, rfl⟩

/-- Settles O35: each change is made, then `judgedAgain_reevaluate` says what becomes of the held request. -/
theorem releasesJudgeHeldRequestAgain : Obligations.ReleasesJudgeHeldRequestAgain := by
  refine fun l tag n s hh => ⟨fun ht => ⟨fun k h hx hp => ?unpin, ?release, fun u hu => ⟨fun hs => ?off, fun hs => ?on⟩⟩,
    fun hr => ?reset, fun d k h he hd hx hfit hl => ?draw⟩
  case unpin =>
    obtain ⟨t, ha, hj⟩ := answer_judged_working l tag 0x44#8 .ok .nothing (st := unpinned l n s.store) s hh
    exact ⟨t, request_next (tag := tag) (kind := 0x44#8) ht rfl ((ownRecUnpin_set tag _ hx hp).trans ha), hj⟩
  case release =>
    obtain ⟨t, ha, hj⟩ := answer_judged_working l tag 0x45#8 .ok (.released (releaseCount l n s.store.slots))
      (st := { s.store with slots := releasedTo l n s.store.slots }) s hh
    refine ⟨t, request_next (tag := tag) (kind := 0x45#8) ht rfl ((ownRecRelease_working tag _).trans (ha.trans ?_)), hj⟩
    rw [← releaseCount_eq l n s.store.slots (fun _ => rfl) rfl (fun _ => rfl)]
  case off =>
    have hne : s.store.sub.get l ≠ false := by simp [hs]
    obtain ⟨t, ha, hj⟩ := answer_judged_working l tag 0x46#8 .ok (.subscription true) (st := subscribed l false s.store) s hh
    refine ⟨t, request_next (tag := tag) (kind := 0x46#8) ht rfl ((ownRecSubscribe_changed tag _ rfl hne).trans ha), ?_⟩
    rw [hu, hs]
    exact hj
  case on =>
    have hne : s.store.sub.get l ≠ true := by simp [hs]
    refine request_next (tag := tag) (kind := 0x46#8) ht rfl ((ownRecSubscribe_changed tag _ rfl hne).trans ?_)
    rw [hu, hs]
    exact answer_withStore_working ..
  case reset =>
    obtain ⟨lit, v, hv, he⟩ := resetReceivers_eq l s
    obtain ⟨hst, hsq⟩ := reevaluate_congr (s := s.withStore (recordsReset l s.store))
      (t := (linkTornDown l s).withStore (recordsReset l s.store)) rfl rfl rfl rfl
    refine ⟨_, _, exec_linkResetAssert hr, ?_, ?_,
      judgedAgain_reevaluate (u := s.withStore (recordsReset l s.store)) hh⟩
    · rw [he, hv]; exact hst
    · rw [he, hv]; exact hsq
  case draw =>
    exact ⟨s.raster.planes.set d.chan (passPlane k d s), reevaluate (drawEnded k d s),
      (exec_spanPass he hd hx hfit).trans (congrArg Host.Outcome.next (spanPassAt_last s hl)),
      judgedAgain_reevaluate (u := drawEnded k d s) hh⟩

end Sys2Proof.Machine
end

section
/-! PROOFS. Selections and draw starts (R115, R134, R142 to R144, R146): the question, the draw that begins or is skipped, and how many
questions can follow one another. -/

namespace Sys2Proof.Machine

/-! ### The record of a number -/

/-- The COMPLETE records of this number changed. -/
def changeComplete (number : Word) (f : Header → Header) (slots : List Slot) : List Slot :=
  slots.map (fun sl => match sl with
    | .complete x => if x.number = number then .complete (f x) else sl
    | other => other)

theorem setDrawn_slots (number : Word) (d : Drawn) (st : RecordStore) : setDrawn number d st =
    { st with slots := changeComplete number (fun h => { h with drawn := d, prior := d }) st.slots } := rfl

theorem changeComplete_changeComplete (number : Word) (f g : Header → Header) (hf : ∀ h, (f h).number = h.number)
    (slots : List Slot) : changeComplete number g (changeComplete number f slots) =
      changeComplete number (fun h => g (f h)) slots := by
  rw [changeComplete, changeComplete, List.map_map]
  refine List.map_congr_left fun sl _ => ?_
  cases sl with
  | complete x => by_cases hx : x.number = number <;> simp [hx, hf]
  | free | filling => rfl

section
variable {slots : List Slot} (hd : (slots.filterMap slotNumber).Nodup) {k : Nat} {h : Header}
  (hk : slots[k]? = some (.complete h))
include hd

/-- A number that one slot holds is held by no other. -/
theorem slot_eq_of_number {i j : Nat} {a b : Slot} {n : Word} (hi : slots[i]? = some a) (hj : slots[j]? = some b)
    (ha : slotNumber a = some n) (hb : slotNumber b = some n) : i = j := by
  have key : ∀ (xs : List Slot) (i j : Nat), (xs.filterMap slotNumber).Nodup → xs[i]? = some a → xs[j]? = some b → i = j := by
    intro xs
    induction xs with
    | nil => intro i j _ hi; simp at hi
    | cons x rest ih =>
      intro i j hn hi hj
      have mem : ∀ m (y : Slot), slotNumber y = some n → rest[m]? = some y → n ∈ rest.filterMap slotNumber :=
        fun m y hy hm => List.mem_filterMap.2 ⟨y, List.mem_of_getElem? hm, hy⟩
      have hrest : (rest.filterMap slotNumber).Nodup := by
        rw [List.filterMap_cons] at hn
        split at hn
        · exact hn
        · exact (List.nodup_cons.1 hn).2
      cases i with
      | zero =>
        cases j with
        | zero => rfl
        | succ j =>
          rw [List.getElem?_cons_zero, Option.some.injEq] at hi
          rw [List.getElem?_cons_succ] at hj
          rw [hi, List.filterMap_cons_some ha] at hn
          exact absurd (mem j b hb hj) (List.nodup_cons.1 hn).1
      | succ i =>
        rw [List.getElem?_cons_succ] at hi
        cases j with
        | zero =>
          rw [List.getElem?_cons_zero, Option.some.injEq] at hj
          rw [hj, List.filterMap_cons_some hb] at hn
          exact absurd (mem i a ha hi) (List.nodup_cons.1 hn).1
        | succ j =>
          rw [List.getElem?_cons_succ] at hj
          rw [ih i j hrest hi hj]
  exact key slots i j hd hi hj

include hk

theorem findComplete_eq : findComplete slots h.number = some (k, h) := by
  have hm : (k, h) ∈ completes slots := mem_completes.2 hk
  cases hf : findComplete slots h.number with
  | none =>
    have := List.find?_eq_none.1 hf (k, h) hm
    simp at this
  | some y =>
    have hy := mem_completes.1 (List.mem_of_find?_eq_some hf : (y.1, y.2) ∈ completes slots)
    have hn : y.2.number = h.number := by simpa using List.find?_some hf
    have hi : y.1 = k := slot_eq_of_number hd hy hk (n := h.number) (by simp [slotNumber, slotHeader, hn]) rfl
    rw [hi, hk] at hy
    cases hy
    rw [← hi]

theorem changeComplete_eq_set (f : Header → Header) : changeComplete h.number f slots = slots.set k (.complete (f h)) := by
  refine List.ext_getElem? fun i => ?_
  rw [changeComplete, List.getElem?_map, List.getElem?_set]
  by_cases hi : k = i
  · subst hi
    rw [if_pos rfl, hk, if_pos (List.getElem?_eq_some_iff.1 hk).1]
    simp
  · rw [if_neg hi]
    cases hs : slots[i]? with
    | none => rfl
    | some sl =>
      cases sl with
      | free | filling => rfl
      | complete x =>
        have hx : x.number ≠ h.number := fun hx =>
          hi (slot_eq_of_number hd hk hs (n := h.number) rfl (by simp [slotNumber, slotHeader, hx]))
        simp [hx]

end

/-! ### Beginning a draw (R115, R143, R144) -/

/-- The record in draw: the view's clearing, and the slot as DRAWING. -/
def drawPlanes (kind : DrawKind) (h : Header) (s : State) : PerChan Memory :=
  if kind = .first ∧ (takeView s.setup.live).persist = 0 ∧ !outsideView h (takeView s.setup.live)
  then clearOthers h s.raster.planes else s.raster.planes

/-- The state as a draw begins, in view or not. -/
def drawStarted (kind : DrawKind) (h : Header) (s : State) : State :=
  (s.withStore { s.store with slots := changeComplete h.number markDrawing s.store.slots }).withRaster { s.raster with
    engine := .rendering
    draw := some ⟨h.number, markDrawing h, kind, takeView s.setup.live, 0, firstChan h⟩
    mark := some h.number
    planes := drawPlanes kind h s }

theorem beginDraw_inView {kind : DrawKind} {h : Header} {s : State} (hv : outsideView h (takeView s.setup.live) = false) :
    beginDraw kind h s = drawStarted kind h s := by
  rw [beginDraw]
  dsimp only
  rw [if_neg (by rw [hv]; exact Bool.false_ne_true)]
  rfl

/-- A record out of view, skipped. -/
def skipHeader (h : Header) : Header := { h with drawn := .skippedView, prior := .skippedView }

/-- The state as a record out of view is skipped, before a held request is judged again. -/
def drawSkipped (h : Header) (s : State) : State :=
  (s.withStore { s.store with slots := changeComplete h.number skipHeader s.store.slots }).withRaster { s.raster with engine := .idle, draw := none, mark := some h.number }

theorem beginDraw_outside {kind : DrawKind} {h : Header} {s : State} (hv : outsideView h (takeView s.setup.live) = true) :
    beginDraw kind h s = reevaluate (drawSkipped h s) := by
  have hs : finishDraw h.number .skippedView (drawStarted kind h s) = reevaluate (drawSkipped h s) := by
    have hp : drawPlanes kind h s = s.raster.planes := if_neg (by simp [hv])
    rw [finishDraw, setDrawn_slots, drawStarted, hp]
    have hc : changeComplete h.number skipHeader (changeComplete h.number markDrawing s.store.slots) =
        changeComplete h.number skipHeader s.store.slots :=
      changeComplete_changeComplete h.number markDrawing skipHeader (fun _ => rfl) _
    exact congrArg (fun sl => reevaluate ((s.withStore { s.store with slots := sl }).withRaster
      { s.raster with engine := .idle, draw := none, mark := some h.number })) hc
  rw [beginDraw]
  dsimp only
  rw [if_pos hv]
  exact hs

/-! ### How many questions can follow one another -/

/-- The record in a slot is still to be drawn. -/
def undrawnSlot : Slot → Bool
  | .complete h => h.drawn == .undrawn
  | _ => false

/-- What is left to ask for: the records still to be drawn, and a pending redraw. -/
def toAsk (s : State) : Nat := s.store.slots.countP undrawnSlot + if s.raster.redraw then 1 else 0

theorem countP_change_le (number : Word) {f : Header → Header} (hf : ∀ h, (f h).drawn ≠ .undrawn) (slots : List Slot) :
    (changeComplete number f slots).countP undrawnSlot ≤ slots.countP undrawnSlot ∧
    ((∃ h, Slot.complete h ∈ slots ∧ h.number = number ∧ h.drawn = .undrawn) →
      (changeComplete number f slots).countP undrawnSlot < slots.countP undrawnSlot) := by
  have step : ∀ sl, (changeComplete number f [sl]).countP undrawnSlot ≤ [sl].countP undrawnSlot ∧
      ((∃ h, Slot.complete h = sl ∧ h.number = number ∧ h.drawn = .undrawn) →
        (changeComplete number f [sl]).countP undrawnSlot < [sl].countP undrawnSlot) := by
    intro sl
    cases sl with
    | free => exact ⟨Nat.le_refl _, fun ⟨h, he, _⟩ => by cases he⟩
    | filling x => exact ⟨Nat.le_refl _, fun ⟨h, he, _⟩ => by cases he⟩
    | complete x =>
      by_cases hx : x.number = number
      · have hd := hf x
        refine ⟨by simp [changeComplete, hx, undrawnSlot, List.countP_cons, hd], fun ⟨h, he, _, hu⟩ => ?_⟩
        cases he
        simp [changeComplete, hx, undrawnSlot, hd, hu]
      · refine ⟨by simp [changeComplete, hx], fun ⟨h, he, hn, _⟩ => ?_⟩
        cases he
        exact absurd hn hx
  induction slots with
  | nil => exact ⟨Nat.le_refl _, fun ⟨h, hm, _⟩ => by cases hm⟩
  | cons sl rest ih =>
    obtain ⟨h1, h2⟩ := step sl
    obtain ⟨h3, h4⟩ := ih
    have e1 : changeComplete number f (sl :: rest) = changeComplete number f [sl] ++ changeComplete number f rest := rfl
    have e2 : sl :: rest = [sl] ++ rest := rfl
    rw [e1, e2, List.countP_append, List.countP_append]
    refine ⟨Nat.add_le_add h1 h3, fun ⟨h, hm, hn, hu⟩ => ?_⟩
    rcases List.mem_append.1 hm with hm | hm
    · have := h2 ⟨h, List.mem_singleton.1 hm, hn, hu⟩
      omega
    · have := h4 ⟨h, hm, hn, hu⟩
      omega

/-- A grant gives no record still to be drawn. -/
theorem toAsk_reevaluate (s : State) : toAsk (reevaluate s) ≤ toAsk s := by
  rcases reevaluate_cases s with h | ⟨-, n, lit, -, h⟩
  · rw [h]
  · rw [h]
    refine Nat.add_le_add ?_ (Nat.le_refl _)
    change (s.store.slots.set n (.filling (startHeader s))).countP undrawnSlot ≤ _
    by_cases hn : n < s.store.slots.length
    · rw [List.countP_set hn]
      simp [undrawnSlot]
    · rw [List.set_eq_of_length_le (by omega)]

theorem reevaluate_raster (s : State) : (reevaluate s).raster = s.raster := by
  obtain ⟨lit, h⟩ := reevaluate_frame s
  rw [h]; rfl

/-- Nothing is asked while the engine is at work. -/
theorem askDraw_busy {s : State} (h : s.raster.engine ≠ .idle) : askDraw s = s := if_pos h

theorem startDraw_none {s : State} (h : s.raster.chosen = none) (n : Nat) : startDraw n s = s := by
  have hc : choose none s = s := by
    have : s.raster = { s.raster with chosen := none } := by rw [← h]
    rw [choose, ← this]; rfl
  cases n with
  | zero => exact hc
  | succ n => simp only [startDraw, h]

theorem startDraw_busy {s : State} (h : s.raster.engine ≠ .idle) (n : Nat) : startDraw n s = choose none s := by
  cases n with
  | zero => rfl
  | succ n =>
    simp only [startDraw]
    split
    · next hc =>
      have : s.raster = { s.raster with chosen := none } := by rw [← hc]
      rw [choose, ← this]; rfl
    · next hc => rw [if_pos h]

/-- The engine as a pending redraw is cleared. -/
def redrawTaken (s : State) : State := s.withRaster { s.raster with redraw := false, planes := .all [] }

/-- The record that a selection in IDLE names: a redraw's, or the next undrawn. -/
def drawAsked (s : State) : Option (DrawKind × Word) :=
  if s.raster.redraw then (newestComplete s).map (fun x => (.redraw, x.2.number))
  else (nextUndrawn s).map (fun x => (.first, x.2.number))

theorem askDraw_idle {s : State} (h : s.raster.engine = .idle) :
    askDraw s = choose (drawAsked s) (if s.raster.redraw then redrawTaken s else s) := by
  rw [askDraw, if_neg (by rw [h]; simp), drawAsked]
  split
  · rfl
  · rfl

section
variable {s : State} {kind : DrawKind} {number : Word} (n : Nat) (hc : s.raster.chosen = some (kind, number))
  (hi : s.raster.engine = .idle)
include hc hi

/-- The draw start of the record that has been named. -/
theorem startDraw_found {x : Nat × Header} (hf : findComplete s.store.slots number = some x) :
    startDraw (n + 1) s = startDraw n (askDraw (beginDraw kind x.2 (choose none s))) := by
  simp [startDraw, hc, hi, hf]

theorem startDraw_refused (hf : findComplete s.store.slots number = none) :
    startDraw (n + 1) s = startDraw n (askDraw (choose none s)) := by
  simp [startDraw, hc, hi, hf]

end

theorem startDraw_asked {u : State} {kind : DrawKind} {number : Word} {x : Nat × Header} (n : Nat)
    (hi : u.raster.engine = .idle) (hf : findComplete u.store.slots number = some x) :
    startDraw (n + 1) (choose (some (kind, number)) u) = startDraw n (askDraw (beginDraw kind x.2 (choose none u))) :=
  startDraw_found (s := choose (some (kind, number)) u) n rfl hi hf

/-- A record that a question names is found, and one to be drawn for the first time is undrawn. -/
theorem drawAsked_found {s : State} {kind : DrawKind} {number : Word} (h : drawAsked s = some (kind, number)) :
    (∃ x, findComplete s.store.slots number = some x) ∧
    (s.raster.redraw = true ∨ ∃ h, Slot.complete h ∈ s.store.slots ∧ h.number = number ∧ h.drawn = .undrawn) := by
  have found : ∀ x ∈ completes s.store.slots, x.2.number = number → ∃ x, findComplete s.store.slots number = some x := by
    intro x hx hn
    refine Option.isSome_iff_exists.1 (List.find?_isSome.2 ⟨x, hx, by simpa using hn⟩)
  unfold drawAsked at h
  split at h
  · next hr =>
    obtain ⟨x, hx, he⟩ := Option.map_eq_some_iff.1 h
    cases he
    exact ⟨found x (newest_mem hx) rfl, .inl hr⟩
  · obtain ⟨x, hx, he⟩ := Option.map_eq_some_iff.1 h
    cases he
    obtain ⟨hm, hp⟩ := List.mem_filter.1 (oldest_mem hx)
    rw [Bool.and_eq_true, beq_iff_eq] at hp
    exact ⟨found x hm rfl, .inr ⟨x.2, List.mem_of_getElem? (mem_completes.1 hm), rfl, hp.1⟩⟩

/-- A draw that begins leaves no record named, and either sets the engine to work or leaves less to ask for. -/
theorem beginDraw_progress {s : State} {kind : DrawKind} {number : Word} {x : Nat × Header}
    (h : drawAsked s = some (kind, number)) (hf : findComplete s.store.slots number = some x) :
    let v := beginDraw kind x.2 (choose none (if s.raster.redraw then redrawTaken s else s))
    v.raster.chosen = none ∧ (v.raster.engine ≠ .idle ∨ toAsk v < toAsk s) := by
  intro v
  have hn : x.2.number = number := by simpa using List.find?_some hf
  have hst : (choose none (if s.raster.redraw then redrawTaken s else s)).store = s.store := by split <;> rfl
  cases hv : outsideView x.2 (takeView (choose none (if s.raster.redraw then redrawTaken s else s)).setup.live) with
  | false =>
    have he : v = drawStarted kind x.2 (choose none (if s.raster.redraw then redrawTaken s else s)) := beginDraw_inView hv
    rw [he]
    exact ⟨rfl, .inl (by simp [drawStarted])⟩
  | true =>
    have he : v = reevaluate (drawSkipped x.2 (choose none (if s.raster.redraw then redrawTaken s else s))) :=
      beginDraw_outside hv
    have hred : (drawSkipped x.2 (choose none (if s.raster.redraw then redrawTaken s else s))).raster.redraw = false := by
      cases hr : s.raster.redraw <;> simp [drawSkipped, choose, redrawTaken, hr]
    have hle := toAsk_reevaluate (drawSkipped x.2 (choose none (if s.raster.redraw then redrawTaken s else s)))
    rw [he]
    refine ⟨by rw [reevaluate_raster]; rfl, .inr (Nat.lt_of_le_of_lt hle ?_)⟩
    obtain ⟨hle', hlt⟩ := countP_change_le x.2.number (f := skipHeader) (fun _ => by simp [skipHeader]) s.store.slots
    have hcount : (drawSkipped x.2 (choose none (if s.raster.redraw then redrawTaken s else s))).store.slots =
        changeComplete x.2.number skipHeader s.store.slots := by
      rw [drawSkipped, hst]; rfl
    rw [toAsk, toAsk, hcount, hred]
    rcases (drawAsked_found h).2 with hr | hu
    · simp only [hr, if_true, Bool.false_eq_true, if_false]
      omega
    · have := hlt (hn ▸ hu)
      simp only [Bool.false_eq_true, if_false]
      omega

/-- One question more than there is to ask for changes nothing. -/
theorem startDraw_askDraw_succ {n : Nat} {s : State} (h : toAsk s < n) :
    startDraw n (askDraw s) = startDraw (n + 1) (askDraw s) := by
  induction n generalizing s with
  | zero => omega
  | succ n ih =>
    by_cases hi : s.raster.engine = .idle
    · rw [askDraw_idle hi]
      have hi' : (if s.raster.redraw then redrawTaken s else s).raster.engine = .idle := by split <;> exact hi
      have hst : (if s.raster.redraw then redrawTaken s else s).store = s.store := by split <;> rfl
      cases ha : drawAsked s with
      | none => rw [startDraw_none rfl, startDraw_none rfl]
      | some c =>
        obtain ⟨kind, number⟩ := c
        obtain ⟨x, hx⟩ := (drawAsked_found ha).1
        obtain ⟨hc, hp⟩ := beginDraw_progress ha hx
        have hx' : findComplete (if s.raster.redraw then redrawTaken s else s).store.slots number = some x := by
          rw [hst]; exact hx
        rw [startDraw_asked n hi' hx', startDraw_asked (n + 1) hi' hx']
        by_cases hb : (beginDraw kind x.2 (choose none (if s.raster.redraw then redrawTaken s else s))).raster.engine = .idle
        · exact ih (Nat.lt_of_lt_of_le (hp.resolve_left fun hn => hn hb) (Nat.le_of_lt_succ h))
        · have hbusy := askDraw_busy hb
          exact (congrArg (startDraw n) hbusy).trans ((startDraw_none hc n).trans
            ((startDraw_none hc (n + 1)).symm.trans (congrArg (startDraw (n + 1)) hbusy).symm))
    · rw [askDraw_busy hi, startDraw_busy hi, startDraw_busy hi]

/-- As many questions as slots and two are enough, and the selection allows more. -/
theorem startDraw_askDraw_eq {s : State} : startDraw (s.store.slots.length + 3) (askDraw s) = selectDraw s := by
  have hle : toAsk s < s.store.slots.length + 3 := by
    have := List.countP_le_length (p := undrawnSlot) (l := s.store.slots)
    unfold toAsk
    split <;> omega
  have hlen : (askDraw s).store.slots.length = s.store.slots.length := by
    unfold askDraw
    split
    · rfl
    · split <;> rfl
  rw [selectDraw, settleDraw, hlen]
  exact startDraw_askDraw_succ hle

/-! ### A selection in IDLE -/

theorem selectDraw_none {s : State} (hi : s.raster.engine = .idle) (ha : drawAsked s = none) :
    selectDraw s = choose none (if s.raster.redraw then redrawTaken s else s) := by
  rw [selectDraw, settleDraw, askDraw_idle hi, ha]
  exact startDraw_none rfl _

theorem outsideView_eq (h : Header) (s : State) : outsideView h (takeView s.setup.live) = true ↔ ¬ inView h s := by
  unfold outsideView inView takeView
  rw [Bool.or_eq_true, decide_eq_true_eq, decide_eq_true_eq]
  dsimp only
  omega

section
variable {s : State} {kind : DrawKind} {h : Header} (hi : s.raster.engine = .idle)
  (ha : drawAsked s = some (kind, h.number)) {k : Nat} (hf : findComplete s.store.slots h.number = some (k, h))
include hi ha hf

/-- A record in view: its draw begins. -/
theorem selectDraw_inView (hv : inView h s) :
    selectDraw s = drawStarted kind h (choose none (if s.raster.redraw then redrawTaken s else s)) := by
  have hst : (if s.raster.redraw then redrawTaken s else s).store = s.store := by split <;> rfl
  have hsu : (choose none (if s.raster.redraw then redrawTaken s else s)).setup = s.setup := by split <;> rfl
  have hi' : (if s.raster.redraw then redrawTaken s else s).raster.engine = .idle := by split <;> exact hi
  have ho : outsideView h (takeView (choose none (if s.raster.redraw then redrawTaken s else s)).setup.live) = false := by
    rw [hsu]
    exact Bool.eq_false_iff.2 fun ho => (outsideView_eq h s).1 ho hv
  have hb : (drawStarted kind h (choose none (if s.raster.redraw then redrawTaken s else s))).raster.engine ≠ .idle := by
    simp [drawStarted]
  have hn : (drawStarted kind h (choose none (if s.raster.redraw then redrawTaken s else s))).raster.chosen = none := rfl
  rw [selectDraw, settleDraw, askDraw_idle hi, ha]
  refine (startDraw_asked _ hi' (x := (k, h)) (by rw [hst]; exact hf)).trans ?_
  rw [beginDraw_inView ho, askDraw_busy hb]
  exact startDraw_none hn _

/-- A record out of view, with no slot request held: it is skipped, and the selection is made again. -/
theorem selectDraw_outside (hv : ¬ inView h s) (hh : s.store.held = false) :
    selectDraw s = selectDraw (drawSkipped h (choose none (if s.raster.redraw then redrawTaken s else s))) := by
  have hst : (if s.raster.redraw then redrawTaken s else s).store = s.store := by split <;> rfl
  have hsu : (choose none (if s.raster.redraw then redrawTaken s else s)).setup = s.setup := by split <;> rfl
  have hi' : (if s.raster.redraw then redrawTaken s else s).raster.engine = .idle := by split <;> exact hi
  have ho : outsideView h (takeView (choose none (if s.raster.redraw then redrawTaken s else s)).setup.live) = true := by
    rw [hsu]
    exact (outsideView_eq h s).2 hv
  have hheld : (drawSkipped h (choose none (if s.raster.redraw then redrawTaken s else s))).store.held = false := by
    change (if s.raster.redraw then redrawTaken s else s).store.held = false
    rw [hst]; exact hh
  have hlen : (drawSkipped h (choose none (if s.raster.redraw then redrawTaken s else s))).store.slots.length =
      s.store.slots.length := by
    change (changeComplete h.number skipHeader (if s.raster.redraw then redrawTaken s else s).store.slots).length = _
    rw [changeComplete, List.length_map, hst]
  have hlen' : (choose (some (kind, h.number)) (if s.raster.redraw then redrawTaken s else s)).store.slots.length =
      s.store.slots.length := congrArg (fun st => st.slots.length) hst
  rw [← startDraw_askDraw_eq (s := drawSkipped h _), hlen]
  conv_lhs => rw [selectDraw, settleDraw, askDraw_idle hi, ha, hlen']
  refine (startDraw_asked _ hi' (x := (k, h)) (by rw [hst]; exact hf)).trans ?_
  rw [beginDraw_outside ho, reevaluate_of_not_held hheld]

end

theorem raster_eta {r : RasterEngine} (hi : r.engine = .idle) (hc : r.chosen = none) :
    { r with engine := .idle, chosen := none } = r := by rw [← hi, ← hc]

/-- The draw that has begun, as section 7.4 says it. -/
theorem drawBegun_drawStarted {s : State} {kind : DrawKind} {k : Nat} {h : Header} (hd : numbersDistinct s)
    (hk : s.store.slots[k]? = some (.complete h)) (hon : enabledChans h.setup ≠ []) (planes : PerChan Memory) {u : State}
    (hu : u = s.withRaster { s.raster with redraw := false, chosen := none, planes := planes }) :
    drawBegun kind k h (drawPlanes kind h u) s (drawStarted kind h u) := by
  subst hu
  obtain ⟨c, rest, hc⟩ := List.exists_cons_of_ne_nil hon
  obtain ⟨h1, h2⟩ := head_enabledChans hc
  have hfirst : firstChan h = c := by rw [firstChan, hc]; rfl
  refine ⟨c, takeView s.setup.live, mem_enabledChans.2 h1, fun e he => h2 e (mem_enabledChans.1 he),
    ⟨fun c => ⟨perChan_get .., perChan_get .., perChan_get ..⟩, rfl, rfl, rfl, rfl⟩, ?_⟩
  have hs : changeComplete h.number markDrawing s.store.slots = drawingSlot k h s.store.slots :=
    changeComplete_eq_set hd hk markDrawing
  rw [← hs, ← hfirst]
  rfl

theorem mem_toDraw {s : State} {x : Nat × Header} : x ∈ (completes s.store.slots).filter (fun x =>
    x.2.drawn == .undrawn && (match s.raster.mark with
      | none => true
      | some m => newer x.2.number m)) ↔ s.store.slots[x.1]? = some (.complete x.2) ∧ toDraw s x.2 := by
  rw [List.mem_filter, ← mem_completes, Bool.and_eq_true, beq_iff_eq, toDraw]
  refine and_congr_right fun _ => and_congr_right fun _ => ?_
  cases s.raster.mark with
  | none => simp
  | some m => simp

theorem nextUndrawn_none {s : State} (h : ∀ h, Slot.complete h ∈ s.store.slots → ¬ toDraw s h) : nextUndrawn s = none := by
  refine oldest_eq_none.2 (List.eq_nil_iff_forall_not_mem.2 fun x hx => ?_)
  obtain ⟨hs, ht⟩ := mem_toDraw.1 hx
  exact h x.2 (List.mem_of_getElem? hs) ht

theorem nextUndrawn_eq {s : State} {k : Nat} {h : Header} (ho : oldestOf (toDraw s) k h s.store.slots) :
    nextUndrawn s = some (k, h) := by
  obtain ⟨hk, hp, hall⟩ := ho
  refine oldest_eq (mem_toDraw.2 ⟨hk, hp⟩) fun y hy hne => ?_
  obtain ⟨hs, hy⟩ := mem_toDraw.1 hy
  exact hall y.1 y.2 (complete_ne hk (mem_completes.2 hs) hne).1 hs hy

theorem drawPlanes_redraw (h : Header) (s : State) : drawPlanes .redraw h s = s.raster.planes := if_neg (by simp)

theorem drawPlanes_first {h : Header} {s : State} (hv : inView h s) : drawPlanes .first h s =
    if s.setup.live.get .dispPersist = 0 then
      perChan (fun c => if h.setup.get (.chOn c) = 1 then s.raster.planes.get c else []) else s.raster.planes := by
  have ho : outsideView h (takeView s.setup.live) = false := Bool.eq_false_iff.2 fun ho => (outsideView_eq h s).1 ho hv
  have hc : clearOthers h s.raster.planes =
      perChan (fun c => if h.setup.get (.chOn c) = 1 then s.raster.planes.get c else []) := by
    simp only [clearOthers, List.contains_iff_mem, mem_enabledChans]
  rw [drawPlanes, ho, hc]
  simp [takeView]

/-- The skip that a selection in IDLE makes, as section 7.4 says it. -/
theorem drawSkipped_eq {s : State} {k : Nat} {h : Header} (hd : numbersDistinct s)
    (hk : s.store.slots[k]? = some (.complete h)) {r : RasterEngine} (hi : r.engine = .idle) (hc : r.chosen = none) :
    drawSkipped h (choose none (s.withRaster r)) = (s.withStore { s.store with
      slots := s.store.slots.set k (.complete { h with drawn := .skippedView, prior := .skippedView }) }).withRaster
        { r with mark := some h.number, draw := none } := by
  have hs : changeComplete h.number skipHeader s.store.slots =
      s.store.slots.set k (.complete { h with drawn := .skippedView, prior := .skippedView }) :=
    changeComplete_eq_set hd hk skipHeader
  rw [← hs, ← raster_eta hi hc]
  rfl

/-- Settles O53: what the selection asks for decides, and the draw of the record named begins or is skipped. -/
theorem selectionBeginsDraw : Obligations.SelectionBeginsDraw := by
  intro s hd
  refine ⟨fun hc he => ?busy, fun hc hi hr => ⟨fun hno => ?noRecord, fun k h hk hon => ⟨fun hv => ?redraw,
    fun hv hh => ?redrawSkipped⟩⟩, fun hc hi hr => ⟨fun hno => ?nothing, fun k h ho hon => ⟨fun hv => ?first,
    fun hv hh => ?firstSkipped⟩⟩, fun kind number hc hi hno => ?refused⟩
  case busy =>
    rw [selectDraw, settleDraw, askDraw_busy he]
    exact startDraw_none hc _
  case noRecord =>
    have ha : drawAsked s = none := by rw [drawAsked, if_pos hr, newestComplete_none hno]; rfl
    rw [selectDraw_none hi ha, if_pos hr, choose, ← hc]
    rfl
  case redraw =>
    have ha : drawAsked s = some (.redraw, h.number) := by rw [drawAsked, if_pos hr, newestComplete_eq hk]; rfl
    rw [selectDraw_inView hi ha (findComplete_eq hd hk.1) hv, if_pos hr]
    have hb := drawBegun_drawStarted (kind := .redraw) hd hk.1 hon ⟨[], [], [], []⟩ rfl
    rw [drawPlanes_redraw] at hb
    exact hb
  case redrawSkipped =>
    have ha : drawAsked s = some (.redraw, h.number) := by rw [drawAsked, if_pos hr, newestComplete_eq hk]; rfl
    rw [selectDraw_outside hi ha (findComplete_eq hd hk.1) hv hh, if_pos hr, redrawTaken,
      drawSkipped_eq (r := { s.raster with redraw := false, planes := .all [] }) hd hk.1 hi hc]
    rfl
  case nothing =>
    have hnr : ¬ s.raster.redraw = true := by simp [hr]
    have ha : drawAsked s = none := by rw [drawAsked, if_neg hnr, nextUndrawn_none hno]; rfl
    rw [selectDraw_none hi ha, if_neg hnr, choose, ← hc]
    rfl
  case first =>
    have hnr : ¬ s.raster.redraw = true := by simp [hr]
    have ha : drawAsked s = some (.first, h.number) := by
      rw [drawAsked, if_neg hnr, nextUndrawn_eq ho]; rfl
    rw [selectDraw_inView hi ha (findComplete_eq hd ho.1) hv, if_neg hnr]
    have hu : choose none s = s.withRaster { s.raster with redraw := false, chosen := none, planes := s.raster.planes } := by
      rw [← hr]; rfl
    have hb := drawBegun_drawStarted (kind := .first) hd ho.1 hon s.raster.planes hu
    rw [drawPlanes_first (s := choose none s) hv] at hb
    exact hb
  case firstSkipped =>
    have hnr : ¬ s.raster.redraw = true := by simp [hr]
    have ha : drawAsked s = some (.first, h.number) := by
      rw [drawAsked, if_neg hnr, nextUndrawn_eq ho]; rfl
    rw [selectDraw_outside hi ha (findComplete_eq hd ho.1) hv hh, if_neg hnr]
    exact congrArg selectDraw (drawSkipped_eq hd ho.1 (r := s.raster) hi hc)
  case refused =>
    have hf : findComplete s.store.slots number = none := by
      refine List.find?_eq_none.2 fun x hx => ?_
      simpa using hno x.2 (List.mem_of_getElem? (mem_completes.1 hx))
    rw [settleDraw, startDraw_refused _ hc hi hf]
    exact startDraw_askDraw_eq (s := choose none s)

end Sys2Proof.Machine
end

section
/-! PROOFS. From points to rows and columns, and from those to spans (R132, R133, R135 to R138). -/

namespace Sys2Proof.Machine

/-! ### Floors -/

theorem floor_bounds (n : Int) {d : Int} (hd : 0 < d) : d * (n / d) ≤ n ∧ n < d * (n / d) + d := by
  have h1 := Int.mul_ediv_self_le (x := n) (k := d) hd.ne'
  have h2 := Int.lt_mul_ediv_self_add (x := n) hd
  exact ⟨h1, h2⟩

/-! ### Rows and columns (R132, R133) -/

theorem rowOf_rowAt (st : Setup) (v : View) (c : Chan) (value : Nat) :
    rowAt st v c value (rowOf (v.invert.get c == 1) (scaleUv (st.get (.chScale c))) (st.get (.chOffset c))
      (scaleUv (v.scale.get c)) (v.offset.get c) value) := by
  have hd : 0 < 128 * scaleUv (v.scale.get c) := Int.mul_pos (by decide) (scaleUv_pos _)
  have hs : (if (v.invert.get c == 1) = true then (-1 : Int) else 1) = if v.invert.get c = 1 then -1 else 1 :=
    if_congr (beq_iff_eq ..) rfl rfl
  have hf := floor_bounds ((if v.invert.get c = 1 then -1 else 1) * ((value : Int) - 32768) * scaleUv (st.get (.chScale c)) +
    6400 * (v.offset.get c - st.get (.chOffset c))) hd
  simp only [rowAt, rowOf, hs, add_sub_cancel_left]
  exact hf

theorem tbMantissa_pos (k : Int) : 0 < tbMantissa k := by
  unfold tbMantissa
  split <;> decide

/-- The two timebases, by their ratio. -/
theorem tbNs_ratio (kc kv : Int) : ∃ s : Nat, 0 < s ∧ tbNs kc = (horizontalRatio kc kv).1 * s ∧
    tbNs kv = (horizontalRatio kc kv).2 * s := by
  have split : ∀ a b : Nat, pow10 (a - b) * pow10 (min a b) = pow10 a := fun a b => by
    simp only [pow10, ← pow_add]
    congr 1
    omega
  refine ⟨pow10 (min (tbExponent kc) (tbExponent kv)), Nat.pow_pos (by decide), ?_, ?_⟩
  · rw [horizontalRatio, Nat.mul_assoc, split, tbNs]
  · rw [horizontalRatio, Nat.mul_assoc, Nat.min_comm, split, tbNs]

theorem columnOf_columnAt {points i : Nat} (kc kv pan : Int) (hi : i < points) :
    columnAt points kc kv pan i (columnOf points kc kv pan i) := by
  obtain ⟨s, hs, hc, hv⟩ := tbNs_ratio kc kv
  have hr : 0 < (horizontalRatio kc kv).2 := Nat.mul_pos (tbMantissa_pos kv) (Nat.pow_pos (by decide))
  have hd : 0 < (points : Int) * ((horizontalRatio kc kv).2 : Int) :=
    Int.mul_pos (by omega) (by omega)
  have hs' : (0 : Int) < s := by omega
  obtain ⟨h1, h2⟩ := floor_bounds (((i : Int) - (panPoint points pan : Int)) * 700 * ((horizontalRatio kc kv).1 : Int)) hd
  simp only [columnAt, columnOf, add_sub_cancel_left, hc, hv, panPoint] at h1 h2 ⊢
  generalize (((i : Int) - ((min (points - 1) (points * pan.toNat / 1000) : Nat) : Int)) * 700 *
    ((horizontalRatio kc kv).1 : Int)) / ((points : Int) * ((horizontalRatio kc kv).2 : Int)) = q at h1 h2 ⊢
  generalize ((i : Int) - ((min (points - 1) (points * pan.toNat / 1000) : Nat) : Int)) = a at h1 h2 ⊢
  have m1 := Int.mul_le_mul_of_nonneg_right h1 hs'.le
  have m2 := Int.mul_lt_mul_of_pos_right h2 hs'
  push_cast
  constructor
  · calc _ = (points : Int) * (horizontalRatio kc kv).2 * q * s := by ring
      _ ≤ _ := m1
      _ = _ := by ring
  · calc _ = a * 700 * (horizontalRatio kc kv).1 * s := by ring
      _ < _ := m2
      _ = _ := by ring

/-- The point that `mapPoint` gives. -/
theorem mapPoint_mappedAt (st : Setup) (v : View) (c : Chan) {points i : Nat} (bytes : List Byte) (hi : i < points) :
    mappedAt st v c points i bytes (mapPoint st v c points i bytes) := by
  refine ⟨?_, ?_, ?_, ?_⟩
  · have hx : (mapPoint st v c points i bytes).x = columnOf points (st.get .tbScale) v.tbScale v.pan i := by
      unfold mapPoint
      dsimp only
      split <;> rfl
    rw [hx]
    exact columnOf_columnAt _ _ _ hi
  · rintro hm a rfl
    simp only [mapPoint, hm, storedValues]
    exact ⟨rowOf_rowAt st v c _, trivial, trivial⟩
  · rintro hm a b rfl
    simp only [mapPoint, hm, storedValues]
    refine ⟨_, _, rowOf_rowAt st v c _, rowOf_rowAt st v c _, rfl, rfl, ?_, ?_⟩
    · omega
    · omega
  · rintro hm a b rfl
    simp only [mapPoint, hm, storedValues, half_toNat]
    exact ⟨rowOf_rowAt st v c _, trivial, trivial⟩

/-- Settles O51. -/
theorem pointsMapToRowsAndColumns : Obligations.PointsMapToRowsAndColumns := by
  refine fun mem k recordBytes h v c segment => ⟨by simp [mappedPoints], fun i hi => ⟨_, ?_, mapPoint_mappedAt h.setup v c _ hi⟩⟩
  simp [mappedPoints, hi, pointSize]

end Sys2Proof.Machine
end

section
/-! PROOFS. The rows hit in a column (R135 to R138): the span of its points, interpolation, join and clip. -/

namespace Sys2Proof.Machine

/-! ### Step 1 (R135) -/

/-- The span grown by one more point. -/
def growSpan (sp : Span) (q : Mapped) : Span := (min sp.1 q.lo, max sp.2 q.hi)

theorem foldl_growSpan (rest : List Mapped) (sp : Span) :
    (rest.foldl growSpan sp).1 ≤ sp.1 ∧ sp.2 ≤ (rest.foldl growSpan sp).2 ∧
    (∀ q ∈ rest, (rest.foldl growSpan sp).1 ≤ q.lo ∧ q.hi ≤ (rest.foldl growSpan sp).2) ∧
    ((rest.foldl growSpan sp).1 = sp.1 ∨ ∃ q ∈ rest, q.lo = (rest.foldl growSpan sp).1) ∧
    ((rest.foldl growSpan sp).2 = sp.2 ∨ ∃ q ∈ rest, q.hi = (rest.foldl growSpan sp).2) := by
  induction rest generalizing sp with
  | nil => simp
  | cons q rest ih =>
    obtain ⟨h1, h2, h3, h4, h5⟩ := ih (growSpan sp q)
    rw [List.foldl_cons]
    have e1 : (growSpan sp q).1 = min sp.1 q.lo := rfl
    have e2 : (growSpan sp q).2 = max sp.2 q.hi := rfl
    rw [e1] at h1 h4
    rw [e2] at h2 h5
    refine ⟨h1.trans (min_le_left _ _), (le_max_left _ _).trans h2, fun p hp => ?_, ?_, ?_⟩
    · rcases List.mem_cons.1 hp with rfl | hp
      · exact ⟨h1.trans (min_le_right _ _), (le_max_right _ _).trans h2⟩
      · exact h3 p hp
    · rcases h4 with h4 | ⟨p, hp, h4⟩
      · rcases Int.le_total sp.1 q.lo with hle | hle
        · exact .inl (h4.trans (min_eq_left hle))
        · exact .inr ⟨q, by simp, (h4.trans (min_eq_right hle)).symm⟩
      · exact .inr ⟨p, by simp [hp], h4⟩
    · rcases h5 with h5 | ⟨p, hp, h5⟩
      · rcases Int.le_total sp.2 q.hi with hle | hle
        · exact .inr ⟨q, by simp, (h5.trans (max_eq_right hle)).symm⟩
        · exact .inl (h5.trans (max_eq_left hle))
      · exact .inr ⟨p, by simp [hp], h5⟩

theorem step1_none {pts : List Mapped} {x : Int} (h : ∀ p ∈ pts, p.x ≠ x) : step1 pts x = none := by
  have hf : pts.filter (fun p => p.x == x) = [] := List.filter_eq_nil_iff.2 fun p hp => by simpa using h p hp
  rw [step1, hf]

/-- The span of the points that map to a column. -/
theorem step1_spanOne (pts : List Mapped) (x : Int) : spanOne pts x (step1 pts x) := by
  refine ⟨step1_none, fun ⟨p0, hp0, hx0⟩ => ?_⟩
  have mem : ∀ p, p ∈ pts.filter (fun p => p.x == x) ↔ p ∈ pts ∧ p.x = x := fun p => by simp [List.mem_filter]
  cases hf : pts.filter (fun p => p.x == x) with
  | nil =>
    have := (mem p0).2 ⟨hp0, hx0⟩
    rw [hf] at this
    cases this
  | cons p rest =>
    rw [hf] at mem
    have hs : step1 pts x = some (rest.foldl growSpan (p.lo, p.hi)) := by
      rw [step1, hf]; rfl
    obtain ⟨h1, h2, h3, h4, h5⟩ := foldl_growSpan rest (p.lo, p.hi)
    have hin : ∀ q ∈ pts, q.x = x →
        (rest.foldl growSpan (p.lo, p.hi)).1 ≤ q.lo ∧ q.hi ≤ (rest.foldl growSpan (p.lo, p.hi)).2 := fun q hq hx => by
      rcases List.mem_cons.1 ((mem q).2 ⟨hq, hx⟩) with rfl | hm
      · exact ⟨h1, h2⟩
      · exact h3 q hm
    obtain ⟨hp, hpx⟩ := (mem p).1 (by simp)
    refine ⟨_, _, hs, ?_, fun q hq hx => (hin q hq hx).1, ?_, fun q hq hx => (hin q hq hx).2⟩
    · rcases h4 with h4 | ⟨q, hq, h4⟩
      · exact ⟨p, hp, hpx, h4.symm⟩
      · obtain ⟨hq, hqx⟩ := (mem q).1 (List.mem_cons_of_mem _ hq)
        exact ⟨q, hq, hqx, h4⟩
    · rcases h5 with h5 | ⟨q, hq, h5⟩
      · exact ⟨p, hp, hpx, h5.symm⟩
      · obtain ⟨hq, hqx⟩ := (mem q).1 (List.mem_cons_of_mem _ hq)
        exact ⟨q, hq, hqx, h5⟩

/-! ### Step 2 (R136) -/

theorem leftAnchor_eq {pts : List Mapped} {x : Int} {a : Mapped} (h : lastLeft pts x a) : leftAnchor pts x = some a := by
  obtain ⟨pre, post, rfl, ha, hpost⟩ := h
  have hp : post.filter (fun p => decide (p.x < x)) = [] := List.filter_eq_nil_iff.2 fun q hq => by
    have := hpost q hq
    simpa using this
  rw [leftAnchor, List.filter_append, List.filter_cons_of_pos (by simpa using ha), hp, List.getLast?_append]
  rfl

theorem rightAnchor_eq {pts : List Mapped} {x : Int} {b : Mapped} (h : firstRight pts x b) : rightAnchor pts x = some b := by
  obtain ⟨pre, post, rfl, hb, hpre⟩ := h
  have hp : pre.find? (fun p => decide (x < p.x)) = none := List.find?_eq_none.2 fun q hq => by
    have := hpre q hq
    simpa using this
  rw [rightAnchor, List.find?_append, hp, List.find?_cons_of_pos (by simpa using hb)]
  rfl

theorem leftAnchor_none {pts : List Mapped} {x : Int} (h : ∀ p ∈ pts, x ≤ p.x) : leftAnchor pts x = none := by
  have hf : pts.filter (fun p => decide (p.x < x)) = [] := List.filter_eq_nil_iff.2 fun q hq => by
    have := h q hq
    simpa using this
  rw [leftAnchor, hf]
  rfl

theorem rightAnchor_none {pts : List Mapped} {x : Int} (h : ∀ p ∈ pts, p.x ≤ x) : rightAnchor pts x = none :=
  List.find?_eq_none.2 fun q hq => by
    have := h q hq
    simpa using this

theorem step2_spanTwo (pts : List Mapped) (x : Int) : spanTwo pts x (step2 pts x) := by
  have h1 := step1_spanOne pts x
  refine ⟨fun hp => ?_, fun hno => ⟨fun h => ?_, fun a b ha hb => ?_⟩⟩
  · obtain ⟨lo, hi, hs, -⟩ := h1.2 hp
    have : step2 pts x = step1 pts x := by rw [step2, hs]
    rw [this]
    exact h1
  · rw [step2, step1_none hno]
    rcases h with h | h
    · rw [leftAnchor_none h]
    · rw [rightAnchor_none h]
      cases leftAnchor pts x <;> rfl
  · obtain ⟨_, _, _, hax, _⟩ := ha
    obtain ⟨_, _, _, hbx, _⟩ := hb
    obtain ⟨f1, f2⟩ := floor_bounds ((b.anchor - a.anchor) * (x - a.x)) (d := b.x - a.x) (by omega)
    refine ⟨a.anchor + (b.anchor - a.anchor) * (x - a.x) / (b.x - a.x), ?_, ?_, ?_⟩
    · rw [step2, step1_none hno, leftAnchor_eq ⟨_, _, ‹_›, hax, ‹_›⟩, rightAnchor_eq ⟨_, _, ‹_›, hbx, ‹_›⟩]
    · rw [add_sub_cancel_left]; exact f1
    · rw [add_sub_cancel_left]; exact f2

/-! ### Steps 3 and 4 (R137, R138) -/

theorem step3_spanJoined (pts : List Mapped) (x : Nat) : spanJoined pts x (step3 pts x) := by
  refine ⟨step2 pts (x - 1), step2 pts x, step2_spanTwo _ _, step2_spanTwo _ _, fun h => ?_,
    fun lo hi lo' hi' hc hl hx => ?_⟩
  · unfold step3
    cases hc : step2 pts x with
    | none => rfl
    | some cur =>
      dsimp only
      split
      · rfl
      · next hx =>
        have hn : step2 pts (x - 1) = none := (h.resolve_left (by simp [hc])).resolve_right (by omega)
        rw [hn]
  · unfold step3
    rw [hc, hl]
    dsimp only
    exact if_neg (by omega)

theorem clipSpan_clipped (sp : Option Span) : clipped sp (sp.bind clipSpan) := by
  refine ⟨fun h => by rw [h]; rfl, fun lo hi h hle => ⟨fun ho => ?_, fun h1 h2 => ?_⟩⟩
  · rw [h]
    exact if_pos (by dsimp only; omega)
  · rw [h]
    exact if_neg (by dsimp only; omega)

/-- Settles O52: the model's spans are those of the rules, each step by its own lemma. -/
theorem spansFollowPoints : Obligations.SpansFollowPoints := fun pts x _ _ =>
  ⟨⟨_, step1_spanOne pts x, clipSpan_clipped _⟩, ⟨_, step3_spanJoined pts x, clipSpan_clipped _⟩⟩

end Sys2Proof.Machine
end

section
/-! PROOFS. Frame events and the display link (R151, R152, R157, R158, R162, R163). -/

namespace Sys2Proof.Machine

/-! ### The decay (R152) -/

theorem memGet_memMap {f : Byte → Byte} (h0 : f 0#8 = 0#8) {m : Memory} (hw : memWf m = true) (a : Nat) :
    memGet (memMap f m) a = f (memGet m a) := by
  induction m with
  | nil => exact h0.symm
  | cons p rest ih =>
    obtain ⟨k, v⟩ := p
    obtain ⟨-, habove, hrest⟩ := (memWf_cons k v rest).1 hw
    rw [memMap, memGet]
    by_cases ha : k = a
    · subst ha
      rw [if_pos rfl]
      split
      · next hv => rw [ih hrest, memGet_above hrest habove (Nat.le_refl k), h0, hv]
      · rw [memGet, if_pos rfl]
    · rw [if_neg ha]
      split
      · exact ih hrest
      · rw [memGet, if_neg ha]; exact ih hrest

theorem decayCell_toNat (p : Nat) (v : Byte) : (decayCell p v).toNat =
    if v = 0#8 then 0 else v.toNat - max 1 (v.toNat / 2 ^ p) := by
  unfold decayCell
  split
  · rfl
  · rw [BitVec.toNat_ofNat]
    have := v.isLt
    omega

theorem decayPlanes_get {persist : Int} {planes : PerChan Memory} {c : Chan} (hw : memWf (planes.get c) = true)
    (h1 : 1 ≤ persist) (h7 : persist ≤ 7) (a : Nat) : (memGet ((decayPlanes persist planes).get c) a).toNat =
      if memGet (planes.get c) a = 0#8 then 0
      else (memGet (planes.get c) a).toNat - max 1 ((memGet (planes.get c) a).toNat / 2 ^ persist.toNat) := by
  rw [decayPlanes, if_pos ⟨h1, h7⟩, perChan_get, memGet_memMap (by simp [decayCell]) hw, decayCell_toNat]

theorem decayPlanes_kept {persist : Int} (planes : PerChan Memory) (h : persist < 1 ∨ 7 < persist) :
    decayPlanes persist planes = planes := if_neg (by omega)

/-! ### The frame event (R151, R157, R158) -/

/-- The composer once a frame event has counted, restarted the timer and ended a transmission. -/
def frameCounted (c : Composer) : Composer :=
  { c with
    frames := c.frames + 1#32
    framePhase := nextPhase c.framePhase
    frameTimer := some (frameInterval (nextPhase c.framePhase))
    sent := if c.sending = none then c.sent else c.sent + 1#32
    sending := none }

/-- The state once the planes have decayed too. -/
def frameDecayed (s : State) : State :=
  (s.withDisp (frameCounted s.disp)).withRaster { s.raster with
    planes := decayPlanes (s.setup.live.get .dispPersist) s.raster.planes }

theorem finishSending_eq (c : Composer) : finishSending c =
    { c with sent := if c.sending = none then c.sent else c.sent + 1#32, sending := none } := by
  unfold finishSending
  split
  · next h => rw [if_neg (by simp [h])]
  · next h =>
    rw [if_pos h]
    exact (congrArg (fun x => { c with sending := x }) h : { c with sending := c.sending } = { c with sending := none })

theorem exec_frameEvent {s : State} (h : s.disp.frameTimer ≠ none) : exec .frameEvent s =
    .next (if s.disp.link = .locked
      then (frameDecayed s).withDisp { frameCounted s.disp with sending := some (composeFrame (frameDecayed s)) }
      else frameDecayed s) := by
  have he : exec .frameEvent s = execFrameEvent s := rfl
  rw [he, execFrameEvent, if_neg h, finishSending_eq]
  by_cases hl : s.disp.link = .locked
  · exact (if_pos hl).trans (congrArg Host.Outcome.next (if_pos hl).symm)
  · exact (if_neg hl).trans (congrArg Host.Outcome.next (if_neg hl).symm)

/-- Settles O54: the state left is `frameDecayed`, with the frame composed of it in LOCKED. -/
theorem frameEventDecaysPlanes : Obligations.FrameEventDecaysPlanes := by
  intro s hs
  refine ⟨_, exec_frameEvent hs, ?_⟩
  have phases : (s.disp.framePhase = 0 → nextPhase s.disp.framePhase = 1 ∧
        some (frameInterval (nextPhase s.disp.framePhase)) = some 16666667) ∧
      (s.disp.framePhase = 1 → nextPhase s.disp.framePhase = 2 ∧
        some (frameInterval (nextPhase s.disp.framePhase)) = some 16666666) ∧
      (s.disp.framePhase = 2 → nextPhase s.disp.framePhase = 0 ∧
        some (frameInterval (nextPhase s.disp.framePhase)) = some 16666667) := by
    refine ⟨?_, ?_, ?_⟩ <;> intro h <;> rw [h] <;> exact ⟨rfl, rfl⟩
  have planes : ∀ c a, memWf (s.raster.planes.get c) = true →
      1 ≤ s.setup.live.get .dispPersist → s.setup.live.get .dispPersist ≤ 7 → _ := fun c a hw h1 h7 =>
    decayPlanes_get hw h1 h7 a
  have kept : s.setup.live.get .dispPersist < 1 ∨ 7 < s.setup.live.get .dispPersist →
      (frameDecayed s).raster = s.raster := fun h => by
    change { s.raster with planes := decayPlanes (s.setup.live.get .dispPersist) s.raster.planes } = s.raster
    rw [decayPlanes_kept _ h]
  obtain ⟨p0, p1, p2⟩ := phases
  by_cases hl : s.disp.link = .locked
  · rw [if_pos hl, if_pos hl]
    exact ⟨p0, p1, p2, rfl, rfl, planes, kept, rfl⟩
  · rw [if_neg hl, if_neg hl]
    exact ⟨p0, p1, p2, rfl, rfl, planes, kept, rfl⟩

/-! ### The display link (R158, R162, R163) -/

/-- A move of the link that neither enters LOCKED nor leaves it. -/
theorem setDispLink_silent {d : DispLink} {s : State} (h1 : s.disp.link ≠ .locked) (h2 : d ≠ .locked) :
    setDispLink d s = s.withDisp { s.disp with link := d, sending := none } := by
  simp [setDispLink, h1, h2]

theorem setDispLink_enters {s : State} (h : s.disp.link ≠ .locked) :
    setDispLink .locked s = notifyBoth .display (s.withDisp { s.disp with link := .locked }) := by
  simp [setDispLink, h]

theorem setDispLink_leaves {d : DispLink} {s : State} (h : s.disp.link = .locked) (hd : d ≠ .locked) :
    setDispLink d s = notifyBoth .display (s.withDisp { s.disp with link := d, sending := none }) := by
  simp [setDispLink, h, hd]

theorem notifyBoth_links (n : Notice) (s : State) (l : Link) : (notifyBoth n s).links.get l =
    { s.links.get l with notices := (s.links.get l).notices ||| noticeMask n } := by cases l <;> rfl

/-- A move that gives DISPLAY on both links. -/
theorem notified_display (d : Composer) (s : State) : ∃ t, notifyBoth .display (s.withDisp d) = t ∧
    t = (s.withDisp d).withLinks t.links ∧
    ∀ l, t.links.get l = { s.links.get l with notices := (s.links.get l).notices ||| noticeMask .display } :=
  ⟨_, rfl, rfl, fun l => notifyBoth_links .display (s.withDisp d) l⟩

theorem exec_presentChange {high : Bool} {s : State} (hp : s.power.phase = .up) (hs : s.power.state ≠ .standby)
    (h : s.disp.present ≠ high) : exec (.panelPresentChange high) s =
      .next (setDispLink (afterPresent high s.disp.lock s.disp.link) (s.withDisp { s.disp with present := high })) := by
  have he : exec (.panelPresentChange high) s = execPanelPresentChange high s := rfl
  rw [he, execPanelPresentChange, if_neg h]
  exact if_pos (by simp [takesLines, hp, hs])

theorem exec_lockChange {high : Bool} {s : State} (hp : s.power.phase = .up) (hs : s.power.state ≠ .standby)
    (h : s.disp.lock ≠ high) : exec (.lockChange high) s =
      .next (setDispLink (afterLock high s.disp.link) (s.withDisp { s.disp with lock := high })) := by
  have he : exec (.lockChange high) s = execLockChange high s := rfl
  rw [he, execLockChange, if_neg h]
  exact if_pos (by simp [takesLines, hp, hs])

/-- Settles O56: by the line that changes and the state of the link. -/
theorem displayLinesMoveLink : Obligations.DisplayLinesMoveLink := by
  refine fun s => ⟨fun f hf => ?sent, fun hp hs => ⟨fun h1 h2 h3 => ?training, fun h1 h2 => ?absent, fun i d h => ?display⟩⟩
  case sent =>
    have he : exec .transmissionComplete s = .next (s.withDisp (finishSending s.disp)) := rfl
    rw [he, finishSending, hf]
  case training =>
    rw [exec_presentChange hp hs (by simp [h1]), h2, h3]
    exact congrArg Host.Outcome.next (setDispLink_silent (by simp [h2]) (by simp [afterPresent]))
  case absent =>
    rw [exec_presentChange hp hs (by simp [h1]), h2]
    exact congrArg Host.Outcome.next (setDispLink_silent (by simp [h2]) (by simp [afterPresent]))
  case display =>
    rcases h with ⟨h1, h2, h3, rfl, rfl⟩ | ⟨h1, h2, rfl, rfl⟩ | ⟨h1, h2, rfl, rfl⟩ | ⟨h1, h2, rfl, rfl⟩
    · obtain ⟨t, ht, hrest⟩ := notified_display { s.disp with present := true, link := .locked } s
      refine ⟨t, ?_, hrest⟩
      rw [exec_presentChange hp hs (by simp [h1]), h2, h3, ← ht]
      exact congrArg Host.Outcome.next (setDispLink_enters (by simp [h2]))
    · obtain ⟨t, ht, hrest⟩ := notified_display { s.disp with lock := true, link := .locked } s
      refine ⟨t, ?_, hrest⟩
      rw [exec_lockChange hp hs (by simp [h1]), h2, ← ht]
      exact congrArg Host.Outcome.next (setDispLink_enters (by simp [h2]))
    · obtain ⟨t, ht, hrest⟩ := notified_display { s.disp with present := false, link := .absent, sending := none } s
      refine ⟨t, ?_, hrest⟩
      rw [exec_presentChange hp hs (by simp [h1]), h2, ← ht]
      exact congrArg Host.Outcome.next (setDispLink_leaves h2 (by simp [afterPresent]))
    · obtain ⟨t, ht, hrest⟩ := notified_display { s.disp with lock := false, link := .training, sending := none } s
      refine ⟨t, ?_, hrest⟩
      rw [exec_lockChange hp hs (by simp [h1]), h2, ← ht]
      exact congrArg Host.Outcome.next (setDispLink_leaves h2 (by simp [afterLock]))

end Sys2Proof.Machine
end

section
/-! PROOFS. The pixels of a composed frame and their order on the display link (R153 to R156, R158). -/

namespace Sys2Proof.Machine

/-! ### Lists of equal blocks -/

theorem drop_take_flatMap {α β : Type} (g : α → List β) {n : Nat} (l : List α) (hg : ∀ a ∈ l, (g a).length = n) (i : Nat) :
    ((l.flatMap g).drop (i * n)).take n = ((l[i]?).map g).getD [] := by
  induction l generalizing i with
  | nil => simp
  | cons a rest ih =>
    have ha := hg a (by simp)
    rw [List.flatMap_cons]
    cases i with
    | zero => simp [← ha]
    | succ i =>
      have hd : (i + 1) * n = (g a).length + i * n := by rw [ha]; ring
      rw [hd, List.drop_append, List.getElem?_cons_succ, Nat.add_sub_cancel_left,
        List.drop_eq_nil_of_le (by omega), List.nil_append]
      exact ih (fun b hb => hg b (List.mem_cons_of_mem _ hb)) i

theorem getElem?_flatMap_block {α β : Type} (g : α → List β) {n : Nat} (l : List α) (hg : ∀ a ∈ l, (g a).length = n)
    {i j : Nat} {a : α} (hi : l[i]? = some a) (hj : j < n) : (l.flatMap g)[i * n + j]? = (g a)[j]? := by
  have h := drop_take_flatMap g l hg i
  rw [hi] at h
  change _ = g a at h
  rw [← h, List.getElem?_take_of_lt hj, List.getElem?_drop]

theorem length_flatMap_block {α β : Type} (g : α → List β) {n : Nat} (l : List α) (hg : ∀ a ∈ l, (g a).length = n) :
    (l.flatMap g).length = l.length * n := by
  induction l with
  | nil => simp
  | cons a rest ih =>
    rw [List.flatMap_cons, List.length_append, hg a (by simp), ih fun b hb => hg b (List.mem_cons_of_mem _ hb),
      List.length_cons]
    ring

/-! ### The order of the pixels (R158) -/

/-- The frame's pixels, row by row. -/
def framePixels (f : Frame) : List Colour := (List.range Config.frameHeight).flatMap (frameRow f)

theorem length_frameRow (f : Frame) (y : Nat) : (frameRow f y).length = 800 := by
  rw [frameRow, List.length_map, List.length_range, Config.frameWidth]

theorem length_framePixels (f : Frame) : (framePixels f).length = 480 * 800 := by
  rw [framePixels, length_flatMap_block (frameRow f) _ fun y _ => length_frameRow f y, List.length_range, Config.frameHeight]

theorem framePixels_getElem? (f : Frame) {x y : Nat} (hx : x < 800) (hy : y < 480) :
    (framePixels f)[y * 800 + x]? = some (framePixel f x y) := by
  have hr : (List.range Config.frameHeight)[y]? = some y := List.getElem?_range hy
  rw [framePixels, getElem?_flatMap_block (frameRow f) _ (fun y _ => length_frameRow f y) hr hx, frameRow,
    List.getElem?_map, List.getElem?_range (by exact hx)]
  rfl

/-- A pixel as the link carries it. -/
def pixelBytes (c : Colour) : List Byte := [c.red, c.green, c.blue]

theorem carriedFrame_eq (f : Frame) : carriedFrame f = (framePixels f).flatMap pixelBytes := rfl

theorem carriedFrame_pixel (f : Frame) {x y : Nat} (hx : x < 800) (hy : y < 480) :
    ((carriedFrame f).drop ((y * 800 + x) * 3)).take 3 =
      [(framePixel f x y).red, (framePixel f x y).green, (framePixel f x y).blue] := by
  rw [carriedFrame_eq, drop_take_flatMap pixelBytes (n := 3) _ fun _ _ => rfl, framePixels_getElem? f hx hy]
  rfl

/-! ### The pixels (R153 to R156) -/

theorem overlaid_zero {palette : Vector Colour 255} {layer : Memory} {a : Nat} (under : Colour)
    (h : (memGet layer a).toNat = 0) : overlaid palette layer a under = under := if_pos h

theorem overlaid_index {palette : Vector Colour 255} {layer : Memory} {a : Nat} (under : Colour) (i : Fin 255)
    (h : (memGet layer a).toNat = i.val + 1) : overlaid palette layer a under = palette[i] := by
  rw [overlaid, h, if_neg (by omega), Nat.add_sub_cancel, List.getD_eq_getElem?_getD, List.getElem?_eq_getElem (by simp)]
  simp

/-- The colour under the overlays. -/
def baseOf (f : Frame) (x y : Nat) : Colour :=
  if 50 ≤ x ∧ x ≤ 749 ∧ 40 ≤ y ∧ y ≤ 439 then cellColour f (x - 50) (439 - y) else background

theorem framePixel_eq (f : Frame) (x y : Nat) : framePixel f x y =
    overlaid f.palette f.overlay.remote (y * 800 + x) (overlaid f.palette f.overlay.console (y * 800 + x) (baseOf f x y)) := rfl

/-- The lowest channel with hits at a cell. -/
theorem lowestHit {p : Chan → Bool} {c : Chan} (hp : p c = true) (hlow : ∀ e, chanNumber e < chanNumber c → p e = false) :
    Config.chans.find? p = some c := by
  rw [← List.head?_filter]
  refine head?_chans_filter hp fun e he => ?_
  rcases lt_or_ge (chanNumber e) (chanNumber c) with h | h
  · rw [hlow e h] at he; cases he
  · exact h

theorem cellAddress_eq (x y : Nat) : cellAddress x y = y * 700 + x := rfl

theorem cellColour_hit {f : Frame} {x y : Nat} {c : Chan} (hv : memGet (f.planes.get c) (y * 700 + x) ≠ 0#8)
    (hlow : ∀ e, chanNumber e < chanNumber c → memGet (f.planes.get e) (y * 700 + x) = 0#8) :
    cellColour f x y = rampColour c (cellLevel (memGet (f.planes.get c) (y * 700 + x)) f.grade) := by
  have hf : Config.chans.find? (fun c => memGet (f.planes.get c) (cellAddress x y) != 0#8) = some c :=
    lowestHit (by simpa [cellAddress_eq] using hv) fun e he => by simpa [cellAddress_eq] using hlow e he
  rw [cellColour, hf]
  rfl

theorem cellColour_dark {f : Frame} {x y : Nat} (h : ∀ e, memGet (f.planes.get e) (y * 700 + x) = 0#8) :
    cellColour f x y = if onGrid f.grid x y then graticule else background := by
  have hf : Config.chans.find? (fun c => memGet (f.planes.get c) (cellAddress x y) != 0#8) = none :=
    List.find?_eq_none.2 fun e _ => by simp [cellAddress_eq, h e]
  rw [cellColour, hf]

/-- A ramp's component fits a byte. -/
theorem rampPart_toNat {b level : Nat} (hb : b ≤ 255) (hl : level ≤ 255) :
    (rampPart b level).toNat = b * (level + 32) / 287 := by
  rw [rampPart, BitVec.toNat_ofNat]
  have h : b * (level + 32) / 287 ≤ 255 := by
    refine Nat.div_le_of_le_mul ?_
    calc b * (level + 32) ≤ 255 * 287 := Nat.mul_le_mul hb (by omega)
      _ = 287 * 255 := by norm_num
  omega

theorem rampColour_parts {c : Chan} {level : Nat} {b : Nat × Nat × Nat} (hl : level ≤ 255)
    (hb : (c = .ch1 ∧ b = (255, 224, 0)) ∨ (c = .ch2 ∧ b = (0, 224, 255)) ∨
      (c = .ch3 ∧ b = (255, 64, 255)) ∨ (c = .ch4 ∧ b = (64, 255, 64))) :
    (rampColour c level).red.toNat = b.1 * (level + 32) / 287 ∧
    (rampColour c level).green.toNat = b.2.1 * (level + 32) / 287 ∧
    (rampColour c level).blue.toNat = b.2.2 * (level + 32) / 287 := by
  have hbase : baseColour c = b ∧ b.1 ≤ 255 ∧ b.2.1 ≤ 255 ∧ b.2.2 ≤ 255 := by
    rcases hb with ⟨rfl, rfl⟩ | ⟨rfl, rfl⟩ | ⟨rfl, rfl⟩ | ⟨rfl, rfl⟩ <;> decide
  obtain ⟨rfl, h1, h2, h3⟩ := hbase
  exact ⟨rampPart_toNat h1 hl, rampPart_toNat h2 hl, rampPart_toNat h3 hl⟩

/-- The lines of the graticule (R156). -/
theorem onGrid_iff {grid : Int} {x y : Nat} (hx : x < 700) (hy : y < 400) : onGrid grid x y = true ↔
    (grid = 0 ∧ (x % 70 = 0 ∨ x = 699 ∨ y % 50 = 0 ∨ y = 399)) ∨ (grid = 1 ∧ (x = 350 ∨ y = 200)) := by
  have cols : [0, 70, 140, 210, 280, 350, 420, 490, 560, 630, 699].contains x = true ↔ x % 70 = 0 ∨ x = 699 := by
    simp only [List.contains_iff_mem, List.mem_cons, List.not_mem_nil, or_false]
    omega
  have rows : [0, 50, 100, 150, 200, 250, 300, 350, 399].contains y = true ↔ y % 50 = 0 ∨ y = 399 := by
    simp only [List.contains_iff_mem, List.mem_cons, List.not_mem_nil, or_false]
    omega
  unfold onGrid
  split
  · next h => rw [Bool.or_eq_true, cols, rows]; simp [h, or_assoc]
  · next h =>
    split
    · next h1 => simp [h1]
    · next h1 => simp [h, h1]

/-- Settles O55: the layers from the top, then the cell below them. -/
theorem framePixelsAreComposed : Obligations.FramePixelsAreComposed := by
  refine fun f _ _ => ⟨fun x y hx hy remote console hr hc => ⟨fun i hi => ?remote, fun h0 i hi => ?console,
    fun h0 h1 => ⟨fun ho => ?outside, fun cx cy hcx h7 hcy h4 => ⟨fun c v hv hne hlow b hb => ?hit, fun hno => ⟨fun hg => ?line,
      fun hg => ?dark⟩⟩⟩⟩, ?length, fun x y hx hy => carriedFrame_pixel f hx hy⟩
  case remote => rw [framePixel_eq]; exact overlaid_index _ i (hr ▸ hi)
  case console =>
    rw [framePixel_eq, overlaid_zero _ (hr ▸ h0)]
    exact overlaid_index _ i (hc ▸ hi)
  case length =>
    rw [carriedFrame_eq, length_flatMap_block pixelBytes (n := 3) _ fun _ _ => rfl, length_framePixels]
  all_goals rw [framePixel_eq, overlaid_zero _ (hr ▸ h0), overlaid_zero _ (hc ▸ h1), baseOf]
  case outside => exact if_neg (by omega)
  all_goals
    have ex : x - 50 = cx := by omega
    have ey : 439 - y = cy := by omega
    rw [if_pos (by omega), ex, ey]
  case hit =>
    rw [cellColour_hit (fun h => hne (by rw [hv, h]; rfl)) hlow, hv]
    exact rampColour_parts (Nat.min_le_left ..) hb
  case line => rw [cellColour_dark hno, if_pos ((onGrid_iff h7 h4).2 hg)]; rfl
  case dark =>
    rw [cellColour_dark hno, if_neg fun h => ?_]
    · rfl
    · have := (onGrid_iff h7 h4).1 h
      omega

end Sys2Proof.Machine
end

section
/-! PROOFS. The idle step (logs 3 and 5): the expiries that are due, and one nanosecond. -/

namespace Sys2Proof.Machine

/-! ### The expiries that are due -/

theorem exists_link {P : Link → Prop} : (∃ l, P l) ↔ P .console ∨ P .remote :=
  ⟨fun ⟨l, h⟩ => by cases l; exacts [.inl h, .inr h], fun h => h.elim (fun h => ⟨_, h⟩) fun h => ⟨_, h⟩⟩

theorem mem_dueIf {t : Timer} {act f : State → Result} : act ∈ dueIf t f ↔ t = some 0 ∧ act = f := by
  unfold dueIf expired
  by_cases h : t = some 0 <;> simp [h]

theorem mem_dueExpiries {s : State} {act : State → Result} : act ∈ dueExpiries s ↔ due act s := by
  simp only [dueExpiries, List.mem_append, List.mem_flatMap, List.mem_finRange, true_and, mem_dueIf, due, exists_link,
    or_assoc]
  exact Iff.rfl

theorem dueExpiries_withRaces (s : State) (x : Races) : dueExpiries (s.withRaces x) = dueExpiries s := rfl

/-! ### The step on an empty queue -/

theorem step_idle {s : State} (h : s.pending = []) : step s = tick s := by
  unfold step
  rw [h]

theorem tick_noSupply {s : State} (h : s.power.phase = .noSupply) : tick s = .next s := if_pos h

section
variable {s : State} (hp : s.power.phase ≠ .noSupply)
include hp

theorem tick_none (h : dueExpiries s = []) : tick s = .next (nanosecond s) := by
  rw [tick, if_neg hp, h]

theorem tick_one {act : State → Result} (h : dueExpiries s = [act]) : tick s = act s := by
  rw [tick, if_neg hp, h]

theorem tick_several (h : 2 ≤ (dueExpiries s).length) : tick s =
    ((dueExpiries s).getD (s.races.head % (dueExpiries s).length) Host.Outcome.next) (s.withRaces s.races.tail) := by
  rw [tick, if_neg hp]
  match hd : dueExpiries s, h with
  | a :: b :: rest, _ => rfl

/-- An expiry that is due is taken, by the next number of `races` where there are several. -/
theorem tick_due (h : dueExpiries s ≠ []) : ∃ act ∈ dueExpiries s, ∃ x, (x = s.races ∨ x = s.races.tail) ∧
    tick s = act (s.withRaces x) := by
  rcases Nat.lt_or_ge (dueExpiries s).length 2 with h2 | h2
  · have h1 : (dueExpiries s).length = 1 := by
      have := List.length_pos_iff.2 h
      omega
    obtain ⟨act, ha⟩ := List.length_eq_one_iff.1 h1
    exact ⟨act, by simp [ha], s.races, .inl rfl, tick_one hp ha⟩
  · have hi : s.races.head % (dueExpiries s).length < (dueExpiries s).length := Nat.mod_lt _ (by omega)
    refine ⟨(dueExpiries s)[s.races.head % (dueExpiries s).length], List.getElem_mem _, s.races.tail, .inr rfl, ?_⟩
    rw [tick_several hp h2, List.getD_eq_getElem _ _ hi]

/-- Any expiry that is due can be the one taken. -/
theorem tick_any {act : State → Result} (h : act ∈ dueExpiries s) : ∃ x y, tick (s.withRaces x) = act (s.withRaces y) := by
  rcases Nat.lt_or_ge (dueExpiries s).length 2 with h2 | h2
  · have h1 : (dueExpiries s).length = 1 := by
      have := List.length_pos_of_mem h
      omega
    obtain ⟨b, hb⟩ := List.length_eq_one_iff.1 h1
    obtain rfl : act = b := by simpa [hb] using h
    exact ⟨s.races, s.races, tick_one (s := s.withRaces s.races) hp hb⟩
  · obtain ⟨i, hi, rfl⟩ := List.mem_iff_getElem.1 h
    refine ⟨⟨[i], 0⟩, Races.tail ⟨[i], 0⟩, ?_⟩
    rw [tick_several (s := s.withRaces ⟨[i], 0⟩) hp h2]
    have hm : (s.withRaces ⟨[i], 0⟩).races.head % (dueExpiries s).length = i := Nat.mod_eq_of_lt hi
    rw [dueExpiries_withRaces, hm, List.getD_eq_getElem _ _ hi]
    rfl

end

/-! ### One nanosecond -/

theorem ageKeys_eq (p : PanelScanner) : ageKeys p =
    { p with keys := p.keys.map (fun k => { k with timer := k.timer.map (fun n => n - 1) }) } := by
  have hk : (Vector.ofFn fun i : Fin 64 => { p.keys[i] with timer := countDown p.keys[i].timer }) =
      p.keys.map (fun k => { k with timer := k.timer.map (fun n => n - 1) }) := by
    refine Vector.ext fun i hi => ?_
    rw [Vector.getElem_ofFn, Vector.getElem_map]
    rfl
  rw [ageKeys, hk]

theorem ageMs_eq (s : State) : ageMs s = (s.withSubMs (if s.subMs + 1 < 1000000 then s.subMs + 1 else 0)).withPanel
    { s.panel with ms := if s.subMs + 1 < 1000000 then s.panel.ms else s.panel.ms + 1#32 } := by
  unfold ageMs
  split
  · next h =>
    have h' : s.subMs + 1 < 1000000 := h
    rw [if_pos h', if_pos h']
    rfl
  · next h =>
    have h' : ¬ s.subMs + 1 < 1000000 := h
    rw [if_neg h', if_neg h']

/-- Settles O2: an expiry that is due by `tick_due` and `tick_any`, else one nanosecond field by field. -/
theorem idleStepTakesExpiryOrNanosecond : Obligations.IdleStepTakesExpiryOrNanosecond := by
  refine ⟨fun s hs hp => (step_idle hs).trans (tick_noSupply hp), fun s hs hp => ⟨fun ⟨act, ha⟩ => ?_, fun act ha => ?_⟩,
    fun s hs hp hno => ?_⟩
  · obtain ⟨b, hb, x, hx, ht⟩ := tick_due hp (List.ne_nil_of_mem (mem_dueExpiries.2 ha))
    exact ⟨b, mem_dueExpiries.1 hb, x, hx, (step_idle hs).trans ht⟩
  · obtain ⟨x, y, h⟩ := tick_any hp (mem_dueExpiries.2 ha)
    exact ⟨x, y, (step_idle (s := s.withRaces x) hs).trans h⟩
  · have hnil : dueExpiries s = [] := List.eq_nil_iff_forall_not_mem.2 fun act ha => hno act (mem_dueExpiries.1 ha)
    rw [step_idle hs, tick_none hp hnil]
    simp only [nanosecond, ageMs_eq, ageKeys_eq]
    rfl

end Sys2Proof.Machine
end

section
/-! PROOFS. The EEPROM access in hand and its 20 ms (R167, R168, R177, R179, R180). -/

namespace Sys2Proof.Machine

/-- The 32 bytes of a page of an image. -/
theorem pageBytes_spec (img : Image) {j : Nat} (hj : j < 6) : (pageBytes img j).length = 32 ∧
    ∀ i < 32, (pageBytes img j)[i]? = some (imageByte img (32 * j + i)) := by
  have hlen : img.toList.length = 192 := img.length_toList
  have hp : pageBytes img j = (img.toList.drop (j * 32)).take 32 := rfl
  refine ⟨by rw [hp, List.length_take, List.length_drop, hlen]; omega, fun i hi => ?_⟩
  rw [hp, List.getElem?_take_of_lt hi, List.getElem?_drop, imageByte, List.getD_eq_getElem?_getD, Nat.mul_comm j 32,
    List.getElem?_eq_getElem (by rw [hlen]; omega), Option.getD_some]

theorem pageAddress_zero (n : Nat) : pageAddress n 0 = n * 256 := by
  rw [pageAddress, Nat.zero_mul, Nat.add_zero, Config.slotStride]

theorem slotRead_eq (n : Nat) : slotRead n = .read (n * 256) 192 := by
  rw [slotRead, pageAddress_zero, Config.imageBytes]

theorem writesPage_iff (sv : SavedStore) : writesPage sv = true ↔ ∃ a b, accessInHand sv = some (.write a b) := by
  unfold writesPage
  cases h : accessInHand sv with
  | none => simp
  | some x => cases x <;> simp

theorem accessLimit_polling {s : State} (h : s.saved.limit ≠ none) (hp : s.saved.polling = true) :
    accessLimit s = exec .eepromAccessFault s := by
  rw [accessLimit, if_neg h, if_pos hp]; rfl

theorem accessLimit_addressing {s : State} (h : s.saved.limit ≠ none) (hp : s.saved.polling = false) : accessLimit s =
    if s.races.head % 2 = 0 then exec .eepromAccessFault (s.withRaces s.races.tail)
    else if writesPage s.saved then
      .next ((s.withRaces s.races.tail).withSaved { s.saved with limit := some 20000000, polling := true })
    else .next ((s.withRaces s.races.tail).withSaved { s.saved with limit := none }) := by
  rw [accessLimit, if_neg h, if_neg (by simp [hp])]; rfl

theorem accessInHand_op {sv : SavedStore} {op : Op} (hn : sv.scanSlot = none) (ho : sv.op = some op) :
    accessInHand sv = some (phaseAccess op.req.slot.val op.phase) := by
  rw [accessInHand, hn, ho]; rfl

/-- Settles O57: the access by its phase, and its limit by whether a page write polls. -/
theorem eepromAccessAndItsLimit : Obligations.EepromAccessAndItsLimit := by
  refine fun s => ⟨fun n hn => ?scan, fun hn => ⟨fun ho => ?none, fun op ho => ⟨fun hp => ?read, fun img g j hp hj => ?page,
    fun hp => ?erase, fun img hp => ?lock⟩⟩, fun hl => ⟨accessLimit_polling hl, fun hp => ⟨fun h0 => ?fault,
    fun h1 => ⟨fun hw => ?polls, fun hw => ?goesOn⟩⟩⟩⟩
  case scan => rw [accessInHand, hn]; exact congrArg some (slotRead_eq n.val)
  case none => rw [accessInHand, hn, ho]; rfl
  case read => rw [accessInHand_op hn ho]; rcases hp with hp | hp <;> rw [hp, phaseAccess, slotRead_eq]
  case page =>
    obtain ⟨h1, h2⟩ := pageBytes_spec img hj
    refine ⟨pageBytes img j, ?_, h1, h2⟩
    rw [accessInHand_op hn ho, hp, phaseAccess, pageAddress, Config.slotStride, Config.pageSize, Nat.mul_comm j 32]
  case erase => rw [accessInHand_op hn ho, hp, phaseAccess, pageAddress_zero, Config.pageSize]
  case lock =>
    obtain ⟨h1, h2⟩ := pageBytes_spec img (j := 0) (by decide)
    refine ⟨pageBytes img 0, ?_, h1, fun i hi => by simpa using h2 i hi⟩
    rw [accessInHand_op hn ho, hp, phaseAccess, pageAddress_zero]
  case fault => rw [accessLimit_addressing hl hp, if_pos h0]
  case polls => rw [accessLimit_addressing hl hp, if_neg (by omega), if_pos ((writesPage_iff _).2 hw)]
  case goesOn =>
    have hnw : ¬ writesPage s.saved = true := fun h => by
      obtain ⟨a, b, hab⟩ := (writesPage_iff _).1 h
      exact hw a b hab
    rw [accessLimit_addressing hl hp, if_neg (by omega), if_neg hnw]

end Sys2Proof.Machine
end

section
/-! PROOFS. Detectors, bins and closing bins (R73 to R76, R87 to R89, R92, R99 to R101). -/

namespace Sys2Proof.Machine

/-! ### Detectors (R99 to R101) -/

theorem risingStep_fires (primed : Bool) (l h c : Int) :
    (risingStep primed l h c).2 = true ↔ primed = true ∧ l ≤ c := by
  unfold risingStep
  by_cases hp : primed = true ∧ l ≤ c
  · simp [hp]
  · rw [if_neg (by simpa using hp)]
    refine iff_of_false ?_ hp
    split <;> exact Bool.false_ne_true

theorem risingStep_primed (primed : Bool) {l h c : Int} (hh : 1 ≤ h) :
    (risingStep primed l h c).1 = true ↔ c ≤ l - h ∨ (primed = true ∧ c < l) := by
  unfold risingStep
  by_cases hp : primed = true ∧ l ≤ c
  · rw [if_pos (by simpa using hp)]
    refine iff_of_false Bool.false_ne_true ?_
    omega
  · rw [if_neg (by simpa using hp)]
    split
    · next h1 => simp [h1]
    · next h1 =>
      refine ⟨fun h2 => .inr ⟨h2, ?_⟩, fun h2 => (h2.resolve_left h1).1⟩
      exact not_le.1 fun h3 => hp ⟨h2, h3⟩

theorem fallingStep_fires (primed : Bool) (l h c : Int) :
    (fallingStep primed l h c).2 = true ↔ primed = true ∧ c ≤ l := by
  unfold fallingStep
  by_cases hp : primed = true ∧ c ≤ l
  · simp [hp]
  · rw [if_neg (by simpa using hp)]
    refine iff_of_false ?_ hp
    split <;> exact Bool.false_ne_true

theorem fallingStep_primed (primed : Bool) {l h c : Int} (hh : 1 ≤ h) :
    (fallingStep primed l h c).1 = true ↔ l + h ≤ c ∨ (primed = true ∧ l < c) := by
  unfold fallingStep
  by_cases hp : primed = true ∧ c ≤ l
  · rw [if_pos (by simpa using hp)]
    refine iff_of_false Bool.false_ne_true ?_
    omega
  · rw [if_neg (by simpa using hp)]
    split
    · next h1 => simp [h1]
    · next h1 =>
      refine ⟨fun h2 => .inr ⟨h2, ?_⟩, fun h2 => (h2.resolve_left h1).1⟩
      exact not_le.1 fun h3 => hp ⟨h2, h3⟩

theorem zoneStep_inside (z : Zone) {l u h c : Int} (h1 : l ≤ c) (h2 : c ≤ u) : zoneStep z l u h c = .inside := if_pos ⟨h1, h2⟩

theorem zoneStep_outside (z : Zone) {l u h c : Int} (hh : 1 ≤ h) (hc : c < l - h ∨ u + h < c) :
    zoneStep z l u h c = .outside := by
  rw [zoneStep, if_neg (by omega), if_pos hc]

theorem zoneStep_kept (z : Zone) {l u h c : Int} (hc : (l - h ≤ c ∧ c < l) ∨ (u < c ∧ c ≤ u + h)) (hlu : l ≤ u) :
    zoneStep z l u h c = z := by
  rw [zoneStep, if_neg (by omega), if_neg (by omega)]

/-- Settles O47: an edge detector is `risingStep` or `fallingStep`, the window detector `zoneStep`. -/
theorem detectorsFireOnEdgesAndZones : Obligations.DetectorsFireOnEdgesAndZones := by
  intro st lower upper d code c h fire after hh
  refine ⟨fun ht hs => ?rising, fun ht hs => ?falling, fun ht hs => ?either, fun ht hlu => ?window⟩
  case rising =>
    have hd : detect st lower upper d code = ({ d with rise := (risingStep d.rise lower h c).1 },
        (risingStep d.rise lower h c).2) := by simp [detect, ht, hs, h, c]
    simp only [fire, after, hd]
    exact ⟨risingStep_fires .., risingStep_primed _ hh, trivial, trivial⟩
  case falling =>
    have hd : detect st lower upper d code = ({ d with fall := (fallingStep d.fall lower h c).1 },
        (fallingStep d.fall lower h c).2) := by simp [detect, ht, hs, h, c]
    simp only [fire, after, hd]
    exact ⟨fallingStep_fires .., fallingStep_primed _ hh, trivial, trivial⟩
  case either =>
    have hd : detect st lower upper d code = ({ d with
        rise := (risingStep d.rise lower h c).1, fall := (fallingStep d.fall lower h c).1 },
        (risingStep d.rise lower h c).2 || (fallingStep d.fall lower h c).2) := by simp [detect, ht, hs, h, c]
    simp only [fire, after, hd, Bool.or_eq_true]
    exact ⟨or_congr (risingStep_fires ..) (fallingStep_fires ..), risingStep_primed _ hh, fallingStep_primed _ hh⟩
  case window =>
    have hd : after = { d with zone := zoneStep d.zone lower upper h c } := by simp [after, detect, ht, h, c]
    have hz : after.zone = zoneStep d.zone lower upper h c := by rw [hd]
    refine ⟨fun h1 h2 => ?_, fun h1 => ?_, fun h1 => ?_, fun hs => ?_, fun hs => ?_⟩
    · rw [hz, zoneStep_inside _ h1 h2]
    · rw [hz, zoneStep_outside _ hh h1]
    · rw [hz, zoneStep_kept _ h1 (by omega)]
    · rw [hz]; simp [fire, detect, ht, hs, h, c]
    · rw [hz]; simp [fire, detect, ht, hs, h, c]

/-! ### Bins and points (R73 to R76) -/

theorem binAdd_emptyBin (code : Byte) : binAdd emptyBin code = ⟨1, code, code, code, code.toNat⟩ := rfl

/-- What a bin has gathered after one code more. -/
theorem gathered_binAdd {codes : List Byte} {b : Bin} (h : gathered codes b) (code : Byte) :
    gathered (codes ++ [code]) (binAdd b code) := by
  obtain ⟨hcount, hfirst, hlow, hleast, hhigh, hmost, hsum⟩ := h
  have hne : codes ≠ [] := List.ne_nil_of_mem hlow
  have hadd : binAdd b code = ⟨b.count + 1, b.first, if code < b.low then code else b.low,
      if b.high < code then code else b.high, b.sum + code.toNat⟩ :=
    if_neg (hcount ▸ fun h0 => hne (List.length_eq_zero_iff.1 h0))
  rw [hadd]
  refine ⟨by simp [hcount], by rw [List.head?_append_of_ne_nil _ hne]; exact hfirst, ?_, fun x hx => ?_, ?_, fun x hx => ?_,
    by simp [hsum]⟩
  · dsimp only
    split <;> simp [hlow]
  · have hx' : x ∈ codes ∨ x = code := by simpa using hx
    dsimp only
    split
    · next hlt =>
      have := BitVec.lt_def.1 hlt
      exact hx'.elim (fun hm => by have := hleast x hm; omega) (fun he => he ▸ le_rfl)
    · next hlt =>
      have := mt BitVec.lt_def.2 hlt
      exact hx'.elim (hleast x) (fun he => by subst he; omega)
  · dsimp only
    split <;> simp [hhigh]
  · have hx' : x ∈ codes ∨ x = code := by simpa using hx
    dsimp only
    split
    · next hlt =>
      have := BitVec.lt_def.1 hlt
      exact hx'.elim (fun hm => by have := hmost x hm; omega) (fun he => he ▸ le_rfl)
    · next hlt =>
      have := mt BitVec.lt_def.2 hlt
      exact hx'.elim (hmost x) (fun he => by subst he; omega)

/-- The two bytes of a word of 16 bits, low first, carry it. -/
theorem le16_carries (n : Nat) : ∃ lo hi : Byte, le16 (BitVec.ofNat 16 n) = [lo, hi] ∧
    (n < 65536 → lo.toNat + 256 * hi.toNat = n) := by
  refine ⟨_, _, rfl, fun h => ?_⟩
  simp only [BitVec.extractLsb'_toNat, BitVec.toNat_ofNat, Nat.shiftRight_eq_div_pow]
  omega

theorem hiresValue_lt {k sum : Nat} (h : sum ≤ 255 * 2 ^ k) : hiresValue k sum < 65536 := by
  unfold hiresValue
  split
  · next hk =>
    have hp : 2 ^ k * 2 ^ (8 - k) = 256 := by rw [← pow_add, Nat.add_sub_cancel' hk]; rfl
    calc sum * 2 ^ (8 - k) ≤ 255 * 2 ^ k * 2 ^ (8 - k) := Nat.mul_le_mul_right _ h
      _ = 255 * 256 := by rw [mul_assoc, hp]
      _ < 65536 := by norm_num
  · next hk =>
    obtain ⟨j, rfl⟩ : ∃ j, k = j + 9 := ⟨k - 9, by omega⟩
    rw [Nat.div_lt_iff_lt_mul (by positivity)]
    have h1 : j + 9 - 8 = j + 1 := by omega
    have h2 : j + 9 - 9 = j := by omega
    rw [h1, h2, pow_succ]
    rw [pow_add] at h
    have : 0 < 2 ^ j := by positivity
    omega

theorem PerChan.ext_get {α : Type} {p q : PerChan α} (h : ∀ c, p.get c = q.get c) : p = q := by
  obtain ⟨p1, p2, p3, p4⟩ := p
  obtain ⟨q1, q2, q3, q4⟩ := q
  exact PerChan.mk.injEq .. |>.mpr ⟨h .ch1, h .ch2, h .ch3, h .ch4⟩

theorem closedPoints_eq {r : Record} {p : PointSet}
    (h : ∀ c, p.get c = if r.setup.get (.chOn c) = 1 then binPoint (r.setup.get .acqMode) r.plan.k (r.bins.get c) else []) :
    closedPoints r = p := by
  refine PerChan.ext_get fun c => ?_
  rw [closedPoints, perChan_get, h c]
  exact if_congr (by rw [List.contains_iff_mem, mem_enabledChans]) rfl rfl

/-! ### Closing bins (R87 to R89, R92) -/

section ClosingBin
variable {r : Record} {s : State}

theorem closeBin_candidate (hr : s.seq.current = some r)
    (h : (s.seq.cap = .prefill ∧ r.bin + 1 ≠ r.plan.trigIndex) ∨ s.seq.cap = .armed) :
    closeBin s = setCurrent (some (binClosed ((closedPoints r :: r.before).take r.plan.trigIndex) r.after r)) s := by
  obtain ⟨hc, hne⟩ | hc := h
  · rw [closeBin, hr]; simp only [hc, if_neg hne]; rfl
  · rw [closeBin, hr]; simp only [hc]; rfl

theorem closeBin_arms (hr : s.seq.current = some r) (hc : s.seq.cap = .prefill) (h : r.bin + 1 = r.plan.trigIndex) :
    closeBin s =
      arm (setCurrent (some (binClosed ((closedPoints r :: r.before).take r.plan.trigIndex) r.after r)) s) := by
  rw [closeBin, hr]; simp only [hc, if_pos h]; rfl

theorem closeBin_stores (hr : s.seq.current = some r) (hc : s.seq.cap = .postfill) {t : Trigger} (ht : r.trigger = some t)
    (h : r.bin + 1 < t.bin + (r.plan.points - r.plan.trigIndex)) :
    closeBin s = setCurrent (some (binClosed r.before (closedPoints r :: r.after) r)) s := by
  rw [closeBin, hr]; simp only [hc, ht, if_neg (not_le.2 h), binClosed]

theorem closeBin_completes (hr : s.seq.current = some r) (hc : s.seq.cap = .postfill) {t : Trigger} (ht : r.trigger = some t)
    (h : t.bin + (r.plan.points - r.plan.trigIndex) ≤ r.bin + 1) :
    closeBin s = completeSegment (binClosed r.before (closedPoints r :: r.after) r) t s := by
  rw [closeBin, hr]; simp only [hc, ht, if_pos h, binClosed]

end ClosingBin

/-- Settles O48: `gathered` grows with `binAdd`, a point is `binPoint`, and a closing bin is `binClosed`, armed at the T-th. -/
theorem closingBinGivesPoints : Obligations.ClosingBinGivesPoints := by
  refine ⟨fun codes code b hb => ?bin, fun k b => ⟨rfl, rfl, ?hires⟩, fun r s p hr hp => ?closing⟩
  case bin =>
    rcases hb with ⟨rfl, rfl⟩ | hb
    · exact ⟨rfl, rfl, by simp [binAdd_emptyBin], by simp [binAdd_emptyBin], by simp [binAdd_emptyBin],
        by simp [binAdd_emptyBin], by simp [binAdd_emptyBin]⟩
    · exact gathered_binAdd hb code
  case hires =>
    obtain ⟨lo, hi, hle, hcarry⟩ := le16_carries (hiresValue k b.sum)
    exact ⟨lo, hi, hle, fun hsum _ => hcarry (hiresValue_lt hsum)⟩
  case closing =>
    obtain rfl := closedPoints_eq hp
    refine ⟨fun h => closeBin_candidate hr h, fun hc hT => ⟨_, rfl, ?_⟩, fun t hc ht hlt => closeBin_stores hr hc ht hlt⟩
    rw [closeBin_arms hr hc hT]
    obtain ⟨lit, harm⟩ := arm_eq (s := setCurrent (some (binClosed ((closedPoints r :: r.before).take r.plan.trigIndex)
      r.after r)) s) rfl
    rw [harm]
    refine ⟨fun hf => ?_, fun hf => ?_, rfl, rfl, rfl⟩
    · change armedSeq s.setup.live _ { s.seq with current := _ } = _
      rw [armedSeq, if_neg (by simp [hf])]
      by_cases hm : s.setup.live.get .trigMode = 0
      · rw [if_pos hm, if_pos hm]; rfl
      · rw [if_neg hm, if_neg hm]; rfl
    · change armedSeq s.setup.live _ { s.seq with current := _ } = _
      rw [armedSeq, if_pos hf]
      simp only [triggered, ← hT]
      rfl

end Sys2Proof.Machine
end

section
/-! PROOFS. A sampling instant taken whole (R73, R77, R81, R90, R102). -/

namespace Sys2Proof.Machine

theorem binAdd_count (b : Bin) (code : Byte) : (binAdd b code).count = b.count + 1 := by
  unfold binAdd
  split
  · next h => rw [h]
  · rfl

/-- The record in progress once the codes of an instant have joined its bins, marks and detectors. -/
def sampled (codes : PerChan Byte) (r : Record) : Record :=
  { r with
    marks := addMarks r.marks (perChan (fun c => (enabledChans r.setup).contains c && (codes.get c == 0#8 || codes.get c == 255#8)))
    detectors := (detect r.setup r.lower r.upper r.detectors (codes.get (sourceChan r.setup))).1
    bins := perChan (fun c => if (enabledChans r.setup).contains c then binAdd (r.bins.get c) (codes.get c) else r.bins.get c) }

theorem contains_enabledChans (st : Setup) (c : Chan) : (enabledChans st).contains c = true ↔ st.get (.chOn c) = 1 := by
  rw [List.contains_iff_mem, mem_enabledChans]

section Sampled
variable (codes : PerChan Byte) {r : Record} {c : Chan}

theorem sampled_bins_of_on (h : r.setup.get (.chOn c) = 1) : (sampled codes r).bins.get c = binAdd (r.bins.get c) (codes.get c) := by
  rw [sampled, perChan_get, if_pos ((contains_enabledChans _ _).2 h)]

theorem sampled_marks_of_on (h : r.setup.get (.chOn c) = 1) :
    (sampled codes r).marks.get c = true ↔ (r.marks.get c = true ∨ codes.get c = 0#8 ∨ codes.get c = 255#8) := by
  simp only [sampled, addMarks, perChan_get, (contains_enabledChans _ _).2 h, Bool.true_and, Bool.or_eq_true, beq_iff_eq]

theorem sampled_of_off (h : r.setup.get (.chOn c) ≠ 1) :
    (sampled codes r).bins.get c = r.bins.get c ∧ (sampled codes r).marks.get c = r.marks.get c := by
  have hc : (enabledChans r.setup).contains c = false := Bool.eq_false_iff.2 (mt (contains_enabledChans _ _).1 h)
  constructor
  · rw [sampled, perChan_get, hc, if_neg Bool.false_ne_true]
  · simp only [sampled, addMarks, perChan_get, hc, Bool.false_and, Bool.or_false]

end Sampled

/-- The state once the instant's codes have joined, before its bins close. -/
def instantSampled (codes : PerChan Byte) (r : Record) (s : State) : State :=
  if (detect r.setup r.lower r.upper r.detectors (codes.get (sourceChan r.setup))).2 ∧ s.seq.cap = .armed ∧ s.seq.holdoff = none then
    takeTrigger ⟨r.bin, s.seq.time, false⟩ (sampled codes r) (setCurrent (some (sampled codes r)) s)
  else setCurrent (some (sampled codes r)) s

theorem takeInstant_eq {codes : PerChan Byte} {r : Record} {c0 : Chan} (s : State) (h : (enabledChans r.setup).head? = some c0) :
    takeInstant codes r s =
      if (r.bins.get c0).count + 1 = 2 ^ r.plan.k then closeBin (instantSampled codes r s) else instantSampled codes r s := by
  have hd : (enabledChans r.setup).headD .ch1 = c0 := by rw [List.headD_eq_head?_getD, h]; rfl
  have hbins : ((sampled codes r).bins.get ((enabledChans r.setup).headD .ch1)).count = (r.bins.get c0).count + 1 := by
    rw [hd, sampled_bins_of_on codes (mem_enabledChans.1 (List.mem_of_mem_head? h)), binAdd_count]
  rw [← hbins]
  rfl

/-- Settles O46: the instant joins the record as `sampled`, and a firing taken is the trigger (`takeTrigger_eq`). -/
theorem instantIsTakenWhole : Obligations.InstantIsTakenWhole := by
  intro codes r s c0 hr hcap hhead
  by_cases hfire : (detect r.setup r.lower r.upper r.detectors (codes.get (sourceChan r.setup))).2 = true ∧ s.seq.cap = .armed ∧
      s.seq.holdoff = none
  · obtain ⟨lit, ht⟩ := takeTrigger_eq ⟨r.bin, s.seq.time, false⟩ (sampled codes r) (setCurrent (some (sampled codes r)) s)
    have hu : instantSampled codes r s = _ := (if_pos hfire).trans ht
    refine ⟨instantSampled codes r s, { sampled codes r with trigger := some ⟨r.bin, s.seq.time, false⟩ }, by rw [hu]; rfl,
      fun c => ⟨fun hc => ⟨sampled_bins_of_on codes hc, sampled_marks_of_on codes hc⟩, fun hc => sampled_of_off codes hc⟩,
      rfl, rfl, fun _ _ _ => ⟨rfl, ?_, ?_, ?_⟩, fun hn => ?_, takeInstant_eq s hhead⟩
    · rw [hu]
      have hh := hfire.2.2
      change triggered _ _ { s.seq with current := _ } = _
      rw [triggered, hh]
      rfl
    · rw [hu]; rfl
    · rw [hu]; rfl
    · obtain ⟨hf, ha, hh⟩ := hfire
      rcases hn with hn | hn | hn
      · rw [hf] at hn; cases hn
      · exact absurd ha hn
      · exact absurd hh hn
  · refine ⟨instantSampled codes r s, sampled codes r, by rw [instantSampled, if_neg hfire]; rfl,
      fun c => ⟨fun hc => ⟨sampled_bins_of_on codes hc, sampled_marks_of_on codes hc⟩, fun hc => sampled_of_off codes hc⟩,
      rfl, rfl, fun hf ha hh => absurd ⟨hf, ha, hh⟩ hfire, fun _ => ⟨rfl, ?_⟩, takeInstant_eq s hhead⟩
    rw [instantSampled, if_neg hfire]
    rfl

end Sys2Proof.Machine
end

section
/-! PROOFS. No code waits after a sampling instant that leaves none waiting (R68): whatever the instant brings on, another record
start among it, the streams gain no code. -/

namespace Sys2Proof.Machine

/-- No code waits for its sampling instant. -/
def noneWaiting (s : State) : Prop := ∀ k : Fin 4, s.seq.front.waiting[k] = []

theorem noneWaiting_congr {s t : State} (h : t.seq.front = s.seq.front) (hs : noneWaiting s) : noneWaiting t :=
  fun k => (congrArg (fun f : Front => f.waiting[k]) h).trans (hs k)

theorem noneWaiting_alignFront (en : List Chan) (f : Front) (k : Fin 4) : (alignFront en f).waiting[k] = [] := by
  simp [alignFront]

theorem noneWaiting_setCap (c : CapState) {s : State} (h : noneWaiting s) : noneWaiting (setCap c s) := by
  obtain ⟨lit, he⟩ := setCap_eq c s
  exact he ▸ h

theorem noneWaiting_setRun (r : RunState) {s : State} (h : noneWaiting s) : noneWaiting (setRun r s) := by
  obtain ⟨lit, he⟩ := setRun_eq r s
  exact he ▸ h

theorem noneWaiting_takeTrigger (t : Trigger) (r : Record) {s : State} (h : noneWaiting s) : noneWaiting (takeTrigger t r s) := by
  obtain ⟨lit, he⟩ := takeTrigger_eq t r s
  exact he ▸ h

theorem armedSeq_front (live : Setup) (r : Record) (q : Sequencer) : (armedSeq live r q).front = q.front := by
  unfold armedSeq triggered
  split
  · rfl
  · split <;> rfl

theorem begunSeq_front (live : Setup) (r : Record) (q : Sequencer) : (begunSeq live r q).front = q.front := by
  unfold begunSeq
  split
  · rw [armedSeq_front]
  · rfl

theorem noneWaiting_arm {s : State} (h : noneWaiting s) : noneWaiting (arm s) := by
  cases hr : s.seq.current with
  | none => rw [arm, hr]; exact h
  | some r =>
    obtain ⟨lit, he⟩ := arm_eq hr
    exact noneWaiting_congr (by rw [he]; exact armedSeq_front ..) h

theorem noneWaiting_segmentStart {s : State} (h : noneWaiting s) : noneWaiting (segmentStart s) := by
  cases hr : s.seq.current with
  | none => rw [segmentStart, hr]; exact h
  | some r =>
    obtain ⟨lit, he⟩ := segmentStart_eq hr
    exact noneWaiting_congr (by rw [he]; exact begunSeq_front ..) h

theorem noneWaiting_grantSlot (n : Nat) (s : State) : noneWaiting (grantSlot n s) := by
  obtain ⟨lit, he⟩ := grantSlot_eq n s
  intro k
  have hf : (grantSlot n s).seq.front =
      alignFront (enabledChans (freshHeader s.store.next s.setup.gen s.setup.live).setup) s.seq.front := by
    rw [he]; exact begunSeq_front ..
  rw [hf]
  exact noneWaiting_alignFront ..

theorem noneWaiting_requestSlot {s : State} (h : noneWaiting s) : noneWaiting (requestSlot s) := by
  unfold requestSlot
  split
  · exact noneWaiting_grantSlot _ _
  · exact noneWaiting_setCap _ h

theorem noneWaiting_reevaluate {s : State} (h : noneWaiting s) : noneWaiting (reevaluate s) := by
  unfold reevaluate
  split
  · split
    · exact noneWaiting_grantSlot _ _
    · exact h
  · exact h

/-! ### Drawing, which a grant may follow -/

theorem noneWaiting_beginDraw (kind : DrawKind) (x : Header) {s : State} (h : noneWaiting s) : noneWaiting (beginDraw kind x s) := by
  unfold beginDraw
  dsimp only
  split
  · exact noneWaiting_reevaluate h
  · exact h

theorem noneWaiting_askDraw {s : State} (h : noneWaiting s) : noneWaiting (askDraw s) := by
  unfold askDraw
  split
  · exact h
  · split <;> exact h

theorem noneWaiting_startDraw (n : Nat) {s : State} (h : noneWaiting s) : noneWaiting (startDraw n s) := by
  induction n generalizing s with
  | zero => exact h
  | succ n ih =>
    unfold startDraw
    split
    · exact h
    · split
      · exact h
      · split
        · exact ih (noneWaiting_askDraw (noneWaiting_beginDraw _ _ h))
        · exact ih (noneWaiting_askDraw h)

/-! ### Closing a record -/

theorem evalLeds_seq (s : State) : (evalLeds s).seq = s.seq := by
  obtain ⟨lit, he⟩ := evalLeds_eq s
  rw [he]; rfl

theorem composerStop_seq (s : State) : (composerStop s).seq = s.seq := by
  unfold composerStop
  dsimp only
  split <;> rfl

theorem finalStatus_seq (l : Link) (held : Bool) (st : Status) (p : Payload) (s : State) :
    (finalStatus l held st p s).seq = s.seq := by
  unfold finalStatus
  split
  · rfl
  · dsimp only
    split <;> rfl

theorem enterStandby_seq (s : State) : (enterStandby s).seq = s.seq := by
  have hs (t u : State) (p : PanelScanner) (hu : u = composerStop t) : (evalLeds (u.withPanel p)).seq = t.seq := by
    rw [evalLeds_seq, State.withPanel_seq, hu, composerStop_seq]
  unfold enterStandby
  dsimp only
  split
  · rw [finalStatus_seq, hs _ _ _ rfl]; rfl
  · rw [hs _ _ _ rfl]; rfl

theorem noneWaiting_enterIdle {s : State} (h : noneWaiting s) : noneWaiting (enterIdle s) := by
  have hr (t : State) (ht : noneWaiting t) : noneWaiting (reportIdle t) := by
    unfold reportIdle
    split
    · unfold tryStandby
      split
      · exact noneWaiting_congr (congrArg Sequencer.front (enterStandby_seq _)) ht
      · exact ht
    · exact ht
  exact hr _ (noneWaiting_setRun _ (noneWaiting_setCap _ h))

theorem noneWaiting_countCompletionOn (l : Link) {s : State} (h : noneWaiting s) : noneWaiting (countCompletionOn l s) := by
  unfold countCompletionOn
  dsimp only
  split <;> exact h

theorem noneWaiting_closeRecord {next : State → State} (hn : ∀ s, noneWaiting s → noneWaiting (next s)) {s : State}
    (h : noneWaiting s) : noneWaiting (closeRecord next s) := by
  unfold closeRecord
  split
  · exact hn _ h
  · dsimp only
    split
    · refine takeAll_keeps (P := noneWaiting) (fun _ _ ht => ht) (fun _ ht => noneWaiting_startDraw _ ht) _ (fun act ha t ht => ?_) _
        (noneWaiting_countCompletionOn _ (noneWaiting_countCompletionOn _ h))
      rcases List.mem_pair.1 ha with rfl | rfl
      · exact noneWaiting_askDraw ht
      · exact hn _ ht
    · exact hn _ h

/-! ### A sampling instant -/

theorem noneWaiting_completeSegment (r : Record) (t : Trigger) {s : State} (h : noneWaiting s) :
    noneWaiting (completeSegment r t s) := by
  unfold completeSegment
  dsimp only
  split
  · exact noneWaiting_closeRecord (fun _ => noneWaiting_enterIdle) h
  · split
    · exact noneWaiting_segmentStart h
    · split
      · exact noneWaiting_closeRecord (fun _ => noneWaiting_requestSlot) h
      · exact noneWaiting_closeRecord (fun _ => noneWaiting_enterIdle) h

theorem noneWaiting_closeBin {s : State} (h : noneWaiting s) : noneWaiting (closeBin s) := by
  unfold closeBin
  split
  · exact h
  · dsimp only
    split
    · split
      · exact noneWaiting_arm h
      · exact h
    · exact h
    · split
      · split
        · exact noneWaiting_completeSegment _ _ h
        · exact h
      · exact h
    · exact h

theorem noneWaiting_takeInstant (codes : PerChan Byte) (r : Record) {s : State} (h : noneWaiting s) :
    noneWaiting (takeInstant codes r s) := by
  have h2 : noneWaiting (instantSampled codes r s) := by
    unfold instantSampled
    split
    · exact noneWaiting_takeTrigger _ _ h
    · exact h
  change noneWaiting (if _ then closeBin (instantSampled codes r s) else instantSampled codes r s)
  split
  · exact noneWaiting_closeBin h2
  · exact h2

end Sys2Proof.Machine
end

section
/-! PROOFS. A code joins its sampling instant (R67, R68). -/

namespace Sys2Proof.Machine

/-! ### The instants of a core period (R67) -/

/-- The sixteen sets of channels that can be enabled, each in ascending order. -/
def chanSets : List (List Chan) := Config.chans.sublists

theorem enabledChans_mem_chanSets (st : Setup) : enabledChans st ∈ chanSets :=
  List.mem_sublists.2 List.filter_sublist

/-- The pairs of channels of different partners. -/
def crossPairs : List (List Chan) := [[Chan.ch1, .ch3], [.ch1, .ch4], [.ch2, .ch3], [.ch2, .ch4]]

theorem unpairedTwo_iff : ∀ en ∈ chanSets, unpairedTwo en = true ↔ en ∈ crossPairs := by decide

theorem crossPair_length : ∀ en ∈ crossPairs, en.length = 2 := by decide

section Instants
variable {en : List Chan}

theorem instantCores_single (h : en.length = 1) : instantCores en = [[0], [1], [2], [3]] := if_pos h

theorem instantCores_pair (hs : en ∈ chanSets) (h : en ∈ crossPairs) : instantCores en = [[0, 2], [1, 3]] := by
  have h2 := crossPair_length en h
  rw [instantCores, if_neg (by omega), if_pos ((unpairedTwo_iff en hs).2 h)]

theorem coreChan_own (hs : en ∈ chanSets) (h1 : en.length ≠ 1) (h2 : en ∉ crossPairs) (k : Fin 4) :
    coreChan en k = if coreOwn k ∈ en then some (coreOwn k) else none := by
  rw [coreChan, if_neg h1, if_neg (mt (unpairedTwo_iff en hs).1 h2)]
  exact if_congr List.contains_iff_mem rfl rfl

theorem instantCores_together (hs : en ∈ chanSets) (h1 : en.length ≠ 1) (h2 : en ∉ crossPairs) :
    instantCores en = [(List.finRange 4).filter (fun core => decide (coreOwn core ∈ en))] := by
  rw [instantCores, if_neg h1, if_neg (mt (unpairedTwo_iff en hs).1 h2)]
  refine congrArg (fun l => [l]) (List.filter_congr fun k _ => ?_)
  rw [coreChan_own hs h1 h2]
  split
  · next h => exact (decide_eq_true h).symm
  · next h => exact (decide_eq_false h).symm

theorem instantCores_length (hs : en ∈ chanSets) :
    (instantCores en).length = if en ∈ crossPairs then 2 else if en.length = 1 then 4 else 1 := by
  by_cases h2 : en ∈ crossPairs
  · rw [if_pos h2, instantCores_pair hs h2]; rfl
  · rw [if_neg h2]
    by_cases h1 : en.length = 1
    · rw [if_pos h1, instantCores_single h1]; rfl
    · rw [if_neg h1, instantCores_together hs h1 h2]; rfl

/-- The cores of an instant, as the model lists them. -/
theorem coresAt_of_instantOf (hs : en ∈ chanSets) {j : Nat} {instant : List (Fin 4)} (h : instantOf en j instant) :
    coresAt en j = instant ∧ j < (instantCores en).length := by
  rcases h with ⟨c, rfl, core, rfl, rfl⟩ | ⟨h2, hj⟩ | ⟨h1, h2, rfl, rfl⟩
  · have hsingle : ∀ core : Fin 4, [[0], [1], [2], [3]].getD core.val [] = [core] := by decide
    rw [coresAt, instantCores_single (en := [c]) rfl]
    exact ⟨hsingle core, core.isLt⟩
  · rw [coresAt, instantCores_pair hs h2]
    rcases hj with ⟨rfl, rfl⟩ | ⟨rfl, rfl⟩ <;> exact ⟨rfl, by decide⟩
  · rw [coresAt, instantCores_together hs h1 h2]
    exact ⟨rfl, Nat.one_pos⟩

end Instants

/-- A core samples at one instant of the period, and serves a channel then. -/
theorem instantIndex_of_mem : ∀ en ∈ chanSets, ∀ (j core : Fin 4), core ∈ coresAt en j →
    instantIndex en core = j ∧ (coreChan en core).isSome = true := by decide

/-- No two cores of an instant serve the same channel. -/
theorem coreChan_inj : ∀ en ∈ chanSets, ∀ (j a b : Fin 4), a ∈ coresAt en j → b ∈ coresAt en j →
    coreChan en a = coreChan en b → a = b := by decide

/-! ### Streams followed from a code -/

section Begin
variable {en : List Chan} (free : Nat) {core k : Fin 4}

theorem not_mem_fellows (en : List Chan) (core : Fin 4) : (fellows en core).contains core = false := by
  simp [fellows]

theorem beginStreams_got : (beginStreams en free core).got[core] = false := by
  simp [beginStreams, alignFront, fellows]

theorem beginStreams_doubt (h : (beginStreams en free core).doubt[k] = true) : k ∈ coresAt en (instantIndex en core) ∧ k ≠ core := by
  have hf : (fellows en core).contains k = true := by
    simp only [beginStreams, alignFront, Fin.getElem_fin, Vector.getElem_ofFn, Bool.and_eq_true] at h
    exact h.1
  simpa [fellows] using hf

/-- Where a period has several instants no choice is read. -/
theorem beginStreams_zero (h : (instantCores en).length ≠ 1) : beginStreams en free core = beginStreams en 0 core := by
  simp [beginStreams, beq_eq_false_iff_ne.2 h]

theorem beginStreams_apart : ∀ en ∈ chanSets, en.length = 1 ∨ en ∈ crossPairs → ∀ core : Fin 4,
    (beginStreams en 0 core).next = instantIndex en core ∧ ∀ k : Fin 4, (beginStreams en 0 core).skip[k] = false ∧
      (k ∈ coresAt en (instantIndex en core) → k ≠ core → (beginStreams en 0 core).doubt[k] = true) := by decide

end Begin

/-! ### A code joins those that wait -/

theorem fillingState_iff (c : CapState) : fillingState c = true ↔ c = .prefill ∨ c = .armed ∨ c = .postfill := by
  cases c <;> decide

theorem instantReady_iff (en : List Chan) (f : Front) :
    instantReady en f = true ↔ coresAt en f.next ≠ [] ∧ ∀ k ∈ coresAt en f.next, f.waiting[k] ≠ [] := by
  simp [instantReady]

/-- The streams once a core's code has been delivered and has joined those that wait. -/
def codeJoined (en : List Chan) (core : Fin 4) (code : Byte) (f : Front) : Front := joinFront core code (coreDelivers en core f)

/-- A code that ends no doubt and belongs to no passed instant waits behind the core's earlier ones. -/
theorem codeJoined_eq {en : List Chan} {core : Fin 4} (code : Byte) {f : Front} (hd : endsDoubt en core f = false)
    (hs : f.skip[core] = false) : ∃ got doubt skip, codeJoined en core code f =
      { f with got := got, doubt := doubt, skip := skip, waiting := f.waiting.set core (f.waiting[core] ++ [code]) } := by
  obtain ⟨f1, rfl, ⟨-, h⟩ | ⟨-, h⟩⟩ := coreDelivers_cases en core f
  · rw [codeJoined, h, hd, if_neg Bool.false_ne_true, joinFront, if_neg (by simp)]
    exact ⟨_, _, _, rfl⟩
  · rw [codeJoined, h, hd, if_neg Bool.false_ne_true, joinFront, if_neg (by simp [hs])]
    exact ⟨_, _, _, rfl⟩

/-- Once the first instant heard has been passed over, the code is delivered as with no core in doubt. -/
theorem codeJoined_passFirst {en : List Chan} {core : Fin 4} (code : Byte) {f : Front} (h : endsDoubt en core f = true) :
    codeJoined en core code (passFirst en f) = codeJoined en core code f := by
  have hn : endsDoubt en core (passFirst en f) = false := endsDoubt_none (fun k => by simp)
  rw [codeJoined, codeJoined, coreDelivers, coreDelivers, h, hn, if_pos rfl, if_neg Bool.false_ne_true]

theorem waitingCodes_pos {f : Front} {k : Fin 4} (h : f.waiting[k] ≠ []) : 0 < waitingCodes f := by
  have hmem : f.waiting[k].length ∈ f.waiting.toList.map List.length :=
    List.mem_map_of_mem (Vector.mem_toList_iff.2 (Vector.getElem_mem k.isLt))
  exact (List.length_pos_iff.2 h).trans_le (List.single_le_sum (fun _ _ => Nat.zero_le _) _ hmem)

/-! ### Taking instants -/

section Taking
variable {en : List Chan} {core : Fin 4} {code : Byte} {r : Record} {s : State}

theorem takeInstants_waits (n : Nat) (hr : s.seq.current = some r) (h : instantReady (enabledChans r.setup) s.seq.front = false) :
    takeInstants n s = s := by
  cases n with
  | zero => rfl
  | succ n => rw [takeInstants, hr]; simp [h]

theorem takeInstants_of_noneWaiting (n : Nat) (h : noneWaiting s) : takeInstants n s = s := by
  cases hr : s.seq.current with
  | none => cases n with
    | zero => rfl
    | succ n => rw [takeInstants, hr]
  | some r =>
    refine takeInstants_waits n hr (Bool.eq_false_iff.2 fun hready => ?_)
    obtain ⟨hne, hall⟩ := (instantReady_iff _ _).1 hready
    obtain ⟨k, hk⟩ := List.exists_mem_of_ne_nil _ hne
    exact hall k hk (h k)

/-- The instant that is next is taken, and no later one while it leaves no code. -/
theorem takeInstants_last {n : Nat} (hn : 0 < n) (hr : s.seq.current = some r) (hf : fillingState s.seq.cap = true)
    (hready : instantReady (enabledChans r.setup) s.seq.front = true)
    (hnone : noneWaiting (setFront (passInstant (enabledChans r.setup) s.seq.front) s)) :
    takeInstants n s = takeInstant (perChan (codeAt (enabledChans r.setup) s.seq.front)) r
      (setFront (passInstant (enabledChans r.setup) s.seq.front) s) := by
  obtain ⟨m, rfl⟩ := Nat.exists_eq_succ_of_ne_zero (by omega : n ≠ 0)
  rw [takeInstants, hr]
  simp only [hf, hready, and_self, if_true]
  exact takeInstants_of_noneWaiting m (noneWaiting_takeInstant _ _ hnone)

theorem exec_sample {t : State} (h : currentFits s = true) (he : takeSample core code s = t) :
    exec (.sample core code) s = .next t := he ▸ if_pos h

theorem takeSample_dropped (code : Byte) (hr : s.seq.current = some r) (hc : coreChan (enabledChans r.setup) core = none) :
    takeSample core code s = s := by
  simp [takeSample, routing, hr, hc]

theorem takeSample_takeCode (code : Byte) (hr : s.seq.current = some r)
    (hc : (coreChan (enabledChans r.setup) core).isSome = true) :
    takeSample core code s = takeCode (enabledChans r.setup) core code (followStreams (enabledChans r.setup) core s) := by
  simp [takeSample, routing, hr, hc]

theorem followStreams_followed (core : Fin 4) (h : s.seq.front.routing = some en) : followStreams en core s = s := if_pos h

/-- A code of a followed stream while the record is being filled. -/
theorem takeSample_joins (code : Byte) (hr : s.seq.current = some r) (hf : fillingState s.seq.cap = true)
    (hc : (coreChan (enabledChans r.setup) core).isSome = true) (hroute : s.seq.front.routing = some (enabledChans r.setup)) :
    takeSample core code s = takeInstants (waitingCodes (codeJoined (enabledChans r.setup) core code s.seq.front))
      (setFront (codeJoined (enabledChans r.setup) core code s.seq.front) s) := by
  rw [takeSample_takeCode code hr hc, followStreams_followed core hroute]
  simp only [takeCode, hr, hf, Option.isSome_some, and_self, if_true]
  rfl

/-- The code of the core that serves a channel at the instant that is next. -/
theorem codeAt_eq {f : Front} (hs : en ∈ chanSets) (hn : f.next < 4) {k : Fin 4} (hk : k ∈ coresAt en f.next) {c : Chan}
    (hc : coreChan en k = some c) : codeAt en f c = f.waiting[k].headD 0#8 := by
  have hfind : (coresAt en f.next).find? (fun core => coreChan en core == some c) = some k := by
    have hsome : ((coresAt en f.next).find? (fun core => coreChan en core == some c)).isSome = true :=
      List.find?_isSome.2 ⟨k, hk, by rw [hc]; exact beq_self_eq_true _⟩
    obtain ⟨k', hk'⟩ := Option.isSome_iff_exists.1 hsome
    have hserves : coreChan en k' = some c := beq_iff_eq.1 (List.find?_some (p := fun core => coreChan en core == some c) hk')
    rw [hk', coreChan_inj en hs ⟨f.next, hn⟩ k' k (List.mem_of_find?_eq_some hk') hk (hserves.trans hc.symm)]
  rw [codeAt, hfind]

end Taking

/-! ### The cases of a code -/

section Cases
variable {en : List Chan} {core : Fin 4} {code : Byte} {r : Record} {s : State}

/-- With no record being filled only the streams are followed. -/
theorem takeSample_idle (core : Fin 4) (code : Byte) (h : s.seq.current = none ∨ s.seq.cap = .idle ∨ s.seq.cap = .waitSlot) :
    ∃ f x, (x = s.races ∨ x = s.races.tail) ∧
      takeSample core code s = (s.withRaces x).withSeq { s.seq with front := f } := by
  have hn (u : State) (hu : u.seq.current = s.seq.current) (hcap : u.seq.cap = s.seq.cap) :
      ¬(u.seq.current.isSome = true ∧ fillingState u.seq.cap = true) := by
    rintro ⟨h1, h2⟩
    rw [hu] at h1
    rw [hcap] at h2
    rcases h with h | h | h
    · rw [h] at h1; cases h1
    · rw [h] at h2; cases h2
    · rw [h] at h2; cases h2
  unfold takeSample
  split
  · exact ⟨s.seq.front, s.races, .inl rfl, rfl⟩
  · next en _ =>
    split
    · rcases followStreams_cases en core s with ⟨-, he⟩ | ⟨-, he⟩
      · rw [he, takeCode]
        exact ⟨_, s.races, .inl rfl, if_neg (hn s rfl rfl)⟩
      · rw [he, takeCode]
        exact ⟨_, s.races.tail, .inr rfl, if_neg (hn _ rfl rfl)⟩
    · exact ⟨s.seq.front, s.races, .inl rfl, rfl⟩

/-- The first code under a routing begins the streams, and is then taken as any code of a followed stream. -/
theorem takeSample_begins (code : Byte) (hr : s.seq.current = some r) (hroute : s.seq.front.routing ≠ some (enabledChans r.setup))
    (hc : (coreChan (enabledChans r.setup) core).isSome = true) :
    takeSample core code s = takeSample core code ((s.withRaces s.races.tail).withSeq
      { s.seq with front := beginStreams (enabledChans r.setup) s.races.head core }) := by
  rw [takeSample_takeCode code hr hc, takeSample_takeCode (s := (s.withRaces s.races.tail).withSeq
      { s.seq with front := beginStreams (enabledChans r.setup) s.races.head core }) code hr hc,
    followStreams_followed (s := (s.withRaces s.races.tail).withSeq
      { s.seq with front := beginStreams (enabledChans r.setup) s.races.head core }) core rfl,
    (followStreams_cases (enabledChans r.setup) core s).resolve_left (fun h => hroute h.1) |>.2]

/-- A code that ends the doubt: what has come of the first instant is passed over. -/
theorem takeSample_passesFirst (code : Byte) (hr : s.seq.current = some r) (hf : fillingState s.seq.cap = true)
    (hc : (coreChan (enabledChans r.setup) core).isSome = true) (hroute : s.seq.front.routing = some (enabledChans r.setup))
    (hd : endsDoubt (enabledChans r.setup) core s.seq.front = true) :
    takeSample core code s =
      takeSample core code (s.withSeq { s.seq with front := passFirst (enabledChans r.setup) s.seq.front }) := by
  rw [takeSample_joins code hr hf hc hroute, takeSample_joins (s := s.withSeq
      { s.seq with front := passFirst (enabledChans r.setup) s.seq.front }) code hr hf hc hroute]
  exact (congrArg (fun f => takeInstants (waitingCodes f) (setFront f s)) (codeJoined_passFirst code hd)).symm

/-- A code waits while another core of the next instant has not delivered. -/
theorem takeSample_waits (code : Byte) (hr : s.seq.current = some r) (hf : fillingState s.seq.cap = true)
    (hc : (coreChan (enabledChans r.setup) core).isSome = true) (hroute : s.seq.front.routing = some (enabledChans r.setup))
    (hd : endsDoubt (enabledChans r.setup) core s.seq.front = false) (hs : s.seq.front.skip[core] = false)
    (hk : ∃ k ∈ coresAt (enabledChans r.setup) s.seq.front.next, k ≠ core ∧ s.seq.front.waiting[k] = []) :
    ∃ f, takeSample core code s = s.withSeq { s.seq with front := f } ∧ f.routing = some (enabledChans r.setup) ∧
      f.next = s.seq.front.next ∧ f.waiting = s.seq.front.waiting.set core (s.seq.front.waiting[core] ++ [code]) := by
  obtain ⟨got, doubt, skip, hj⟩ := codeJoined_eq code hd hs
  obtain ⟨k, hmem, hne, hnil⟩ := hk
  rw [takeSample_joins code hr hf hc hroute, hj]
  refine ⟨_, takeInstants_waits _ hr (Bool.eq_false_iff.2 fun hready => ?_), hroute, rfl, rfl⟩
  refine ((instantReady_iff _ _).1 hready).2 k hmem ?_
  change (s.seq.front.waiting.set core (s.seq.front.waiting[core] ++ [code]))[k.val] = []
  rw [Vector.getElem_set_ne (h := Fin.val_ne_of_ne hne.symm)]
  exact hnil

/-- The last code of the next instant has the instant taken. -/
theorem takeSample_completes (hs : en ∈ chanSets) (hen : enabledChans r.setup = en) (hr : s.seq.current = some r)
    (hf : fillingState s.seq.cap = true) (hroute : s.seq.front.routing = some en)
    (hd : endsDoubt en core s.seq.front = false) (hskip : s.seq.front.skip[core] = false)
    (hnext : s.seq.front.next < 4) (hcore : core ∈ coresAt en s.seq.front.next) (hw : s.seq.front.waiting[core] = [])
    {x : Fin 4 → Byte} (hx : x core = code)
    (hothers : ∀ k : Fin 4, k ≠ core →
      s.seq.front.waiting[k] = if k ∈ coresAt en s.seq.front.next then [x k] else []) :
    ∃ f codes, takeSample core code s = takeInstant codes r (s.withSeq { s.seq with front := f }) ∧
      (∀ k ∈ coresAt en s.seq.front.next, ∀ c, coreChan en k = some c → codes.get c = x k) ∧ (∀ k : Fin 4, f.waiting[k] = []) ∧
      f.routing = some en ∧ f.next = (s.seq.front.next + 1) % (instantCores en).length := by
  subst hen
  obtain ⟨got, doubt, skip, hj⟩ := codeJoined_eq code hd hskip
  have hall : ∀ k : Fin 4, (codeJoined (enabledChans r.setup) core code s.seq.front).waiting[k] =
      if k ∈ coresAt (enabledChans r.setup) s.seq.front.next then [x k] else [] := by
    intro k
    rw [hj]
    change (s.seq.front.waiting.set core (s.seq.front.waiting[core] ++ [code]))[k.val] = _
    by_cases hk : k = core
    · subst hk
      rw [Vector.getElem_set_self, hw, if_pos hcore, hx, List.nil_append]
    · rw [Vector.getElem_set_ne (h := Fin.val_ne_of_ne (Ne.symm hk))]
      exact hothers k hk
  have hjn : (codeJoined (enabledChans r.setup) core code s.seq.front).next = s.seq.front.next := by rw [hj]
  have hjr : (codeJoined (enabledChans r.setup) core code s.seq.front).routing = s.seq.front.routing := by rw [hj]
  have hc : (coreChan (enabledChans r.setup) core).isSome = true :=
    (instantIndex_of_mem _ hs ⟨_, hnext⟩ core hcore).2
  rw [takeSample_joins code hr hf hc hroute]
  clear hj
  generalize codeJoined (enabledChans r.setup) core code s.seq.front = f at hall hjn hjr
  have hempty : noneWaiting (setFront (passInstant (enabledChans r.setup) f) s) := by
    intro k
    change (passInstant (enabledChans r.setup) f).waiting[k.val] = []
    simp only [passInstant, hjn, Vector.getElem_ofFn]
    by_cases hk : k ∈ coresAt (enabledChans r.setup) s.seq.front.next
    · rw [if_pos (List.contains_iff_mem.2 hk)]
      exact (congrArg List.tail ((hall k).trans (if_pos hk)))
    · rw [if_neg (mt List.contains_iff_mem.1 hk)]
      exact (hall k).trans (if_neg hk)
  have hready : instantReady (enabledChans r.setup) f = true := by
    rw [instantReady_iff, hjn]
    refine ⟨List.ne_nil_of_mem hcore, fun k hk => ?_⟩
    rw [hall k, if_pos hk]
    exact List.cons_ne_nil _ _
  have hpos : 0 < waitingCodes f := by
    refine waitingCodes_pos (k := core) ?_
    rw [hall core, if_pos hcore]
    exact List.cons_ne_nil _ _
  refine ⟨_, _, takeInstants_last hpos hr hf hready hempty, fun k hk c hkc => ?_, hempty, hjr.trans hroute, ?_⟩
  · change (perChan (codeAt (enabledChans r.setup) f)).get c = x k
    rw [perChan_get, codeAt_eq hs (hjn ▸ hnext) (hjn ▸ hk) hkc, hall k, if_pos hk]
    rfl
  · change (f.next + 1) % _ = _
    rw [hjn]

end Cases

/-- Cores of the first instant in doubt stay in doubt when the code is of their own instant and its core has not delivered. -/
theorem endsDoubt_of_same_instant {en : List Chan} (hs : en ∈ chanSets) {f : Front} {core j : Fin 4} (hcore : core ∈ coresAt en j)
    (h : ∀ k : Fin 4, f.doubt[k] = true → k ∈ coresAt en j ∧ f.got[core] = false) : endsDoubt en core f = false := by
  refine Bool.eq_false_iff.2 fun hd => ?_
  simp only [endsDoubt, List.any_eq_true, Bool.and_eq_true, Bool.or_eq_true, Bool.not_eq_true', bne_iff_ne] at hd
  obtain ⟨k, -, hk, hor⟩ := hd
  obtain ⟨hkj, hgot⟩ := h k hk
  rcases hor with hg | ⟨hfe, hne⟩
  · rw [hgot] at hg; cases hg
  · refine absurd (List.contains_iff_mem.2 (?_ : core ∈ fellows en k)) (Bool.eq_false_iff.1 hfe)
    rw [fellows, (instantIndex_of_mem en hs j k hkj).1]
    exact List.mem_filter.2 ⟨hcore, bne_iff_ne.2 hne.symm⟩

/-- A code of another instant, or a second one of its core, ends the doubt. -/
theorem endsDoubt_of_later {en : List Chan} (hs : en ∈ chanSets) {f : Front} {core k j : Fin 4} (hk : f.doubt[k] = true)
    (hkj : k ∈ coresAt en j) (h : core ∉ coresAt en j ∨ f.got[core] = true) : endsDoubt en core f = true := by
  simp only [endsDoubt, List.any_eq_true, Bool.and_eq_true, Bool.or_eq_true, Bool.not_eq_true', bne_iff_ne]
  refine ⟨k, List.mem_finRange k, hk, ?_⟩
  rcases h with h | h
  · refine .inr ⟨Bool.eq_false_iff.2 fun hc => h ?_, fun he => h (he ▸ hkj)⟩
    have hmem := List.contains_iff_mem.1 hc
    rw [fellows, (instantIndex_of_mem en hs j k hkj).1] at hmem
    exact (List.mem_filter.1 hmem).1
  · exact .inl h

/-- Settles O45: R67 is the routing's case split (`coreChan`), and a code is one of the cases above. -/
theorem samplesJoinTheirInstant : Obligations.SamplesJoinTheirInstant := by
  intro core code s hfits
  refine ⟨fun h => ?idle, fun r en hr hcap hen => ?_⟩
  case idle =>
    obtain ⟨f, x, hx, he⟩ := takeSample_idle core code h
    exact ⟨f, x, hx, exec_sample hfits he⟩
  have hs : en ∈ chanSets := hen ▸ enabledChans_mem_chanSets _
  have hfill : fillingState s.seq.cap = true := (fillingState_iff _).2 hcap
  have hlen : (instantCores en).length ≤ 4 := by
    rw [instantCores_length hs]
    split
    · decide
    · split <;> decide
  refine ⟨⟨fun c hc k => by rw [hc]; rfl, fun a b hab ha hb => ?pair, fun h1 h2 k => coreChan_own hs h1 h2 k⟩,
    fun hnone => ?dropped, fun j instant hroute hinst hcore => ?begins, fun hroute => ⟨fun k j instant hk hinst hkj hor hsome => ?first,
      fun instant x hinst hcore hx hskip hw hdoubt => ?joins, fun instant hinst hcore hskip hsome hk hdoubt => ?waits⟩⟩
  case pair =>
    have hp : unpairedTwo en = true := by
      rw [hab]
      fin_cases ha <;> fin_cases hb <;> rfl
    rw [hab] at hp
    subst hab
    refine ⟨?_, ?_, ?_, ?_⟩ <;> rw [coreChan, if_neg (by simp), if_pos hp] <;> rfl
  case dropped =>
    exact exec_sample hfits (takeSample_dropped code hr (hen ▸ hnone))
  case begins =>
    obtain ⟨rfl, hj⟩ := coresAt_of_instantOf hs hinst
    obtain ⟨hindex, hsome⟩ := instantIndex_of_mem en hs ⟨j, hj.trans_le hlen⟩ core hcore
    have hapart (h : en.length = 1 ∨ en ∈ crossPairs) : (instantCores en).length ≠ 1 := by
      rw [instantCores_length hs]
      by_cases h2 : en ∈ crossPairs
      · rw [if_pos h2]; decide
      · rw [if_neg h2, if_pos (h.resolve_right h2)]; decide
    refine ⟨beginStreams en s.races.head core, rfl, ?_, beginStreams_got _, fun k => ⟨by simp, fun hk => ?_⟩,
      fun h k => ?_, ?_⟩
    · by_cases h : en.length = 1 ∨ en ∈ crossPairs
      · rw [beginStreams_zero _ (hapart h), (beginStreams_apart en hs h core).1, hindex]
      · have h1 : (instantCores en).length = 1 := by
          rw [instantCores_length hs, if_neg (fun h2 => h (.inr h2)), if_neg (fun h1 => h (.inl h1))]
        have hj0 : j = 0 := by omega
        simp only [beginStreams, alignFront, h1, Nat.mod_one, hj0]
    · have hdoubt := beginStreams_doubt _ hk
      rwa [hindex] at hdoubt
    · rw [beginStreams_zero _ (hapart h)]
      obtain ⟨hsk, hdo⟩ := (beginStreams_apart en hs h core).2 k
      exact ⟨hsk, fun hkj hne => hdo (hindex ▸ hkj) hne⟩
    · subst hen
      refine (exec_sample hfits (takeSample_begins code hr hroute hsome)).trans (exec_sample ?_ rfl).symm
      exact hfits
  case first =>
    obtain ⟨rfl, hj⟩ := coresAt_of_instantOf hs hinst
    have hd := endsDoubt_of_later (j := ⟨j, hj.trans_le hlen⟩) hs hk hkj hor
    refine ⟨passFirst en s.seq.front, hroute, fun m => ⟨by simp, passFirst_got .., by simp, passFirst_skip ..⟩, fun hnone => ?_, fun hsomeone => ?_, ?_⟩
    · refine if_pos (List.all_eq_true.2 fun l hl => ?_)
      obtain ⟨m, hm, rfl⟩ := Vector.mem_iff_getElem.1 (Vector.mem_toList_iff.1 hl)
      exact List.isEmpty_iff.2 (hnone ⟨m, hm⟩)
    · have hne : ¬s.seq.front.waiting.toList.all List.isEmpty = true := by
        obtain ⟨m, hm⟩ := hsomeone
        intro hall
        exact hm (List.isEmpty_iff.1 (List.all_eq_true.1 hall _ (Vector.mem_toList_iff.2 (Vector.getElem_mem m.isLt))))
      refine (if_neg hne).trans ?_
      rw [instantCores_length hs]
      by_cases h2 : en ∈ crossPairs
      · rw [if_pos h2]; exact (if_pos h2).symm
      · rw [if_neg h2]
        refine Eq.trans ?_ (if_neg h2).symm
        split
        · rfl
        · exact Nat.mod_one _
    · subst hen
      refine (exec_sample hfits (takeSample_passesFirst code hr hfill hsome hroute hd)).trans (exec_sample ?_ rfl).symm
      exact hfits
  case joins =>
    obtain ⟨rfl, hj⟩ := coresAt_of_instantOf hs hinst
    have hlt : s.seq.front.next < 4 := hj.trans_le hlen
    have hd := endsDoubt_of_same_instant (j := ⟨_, hlt⟩) hs hcore hdoubt
    have hsome := (instantIndex_of_mem en hs ⟨_, hlt⟩ core hcore).2
    constructor
    · intro hk
      subst hen
      obtain ⟨f, he, hfr, hfn, hfw⟩ := takeSample_waits code hr hfill hsome hroute hd hskip hk
      exact ⟨f, exec_sample hfits he, hfr, hfn, by rw [hfw, hw, List.nil_append]⟩
    · intro hothers
      obtain ⟨f, codes, he, hcodes, hempty, hfr, hfn⟩ :=
        takeSample_completes hs hen hr hfill hroute hd hskip hlt hcore hw hx hothers
      refine ⟨f, codes, exec_sample hfits he, hcodes, hempty, hfr, fun h1 => ?_, fun h1 => ?_⟩
      · rw [hfn, instantCores_single h1]; rfl
      · rw [hfn]
        rw [instantCores_length hs] at hj ⊢
        by_cases h2 : en ∈ crossPairs
        · rw [if_pos h2] at hj ⊢
          refine Eq.trans ?_ (if_pos h2).symm
          omega
        · rw [if_neg h2, if_neg h1, Nat.mod_one]
          exact (if_neg h2).symm
  case waits =>
    obtain ⟨rfl, -⟩ := coresAt_of_instantOf hs hinst
    obtain ⟨k, hkj, hnil⟩ := hk
    subst hen
    obtain ⟨f, he, hf⟩ := takeSample_waits code hr hfill hsome hroute (endsDoubt_none hdoubt) hskip
      ⟨k, hkj, fun hkc => hcore (hkc ▸ hkj), hnil⟩
    exact ⟨f, exec_sample hfits he, hf⟩

end Sys2Proof.Machine
end

section
/-! PROOFS. The offer of a closed record among what follows it (R106, R114, R141, R142): what the selection of the offer and the next
step of the sequencer make of the Raster Engine and the slots, in whatever order they are taken. -/

namespace Sys2Proof.Machine

/-! ### What drawing and granting read and write -/

/-- The parts of the state that selections, draw starts and grants read and write. -/
structure Drawing where
  raster : RasterEngine
  slots : List Slot
  next : Word
  held : Bool
  sub : PerLink Bool
  live : Setup
  gen : Word

def drawing (s : State) : Drawing := ⟨s.raster, s.store.slots, s.store.next, s.store.held, s.store.sub, s.setup.live, s.setup.gen⟩

section Congruence
variable {s t : State}

theorem drawing_eq_iff : drawing s = drawing t ↔ s.raster = t.raster ∧ s.store.slots = t.store.slots ∧
    s.store.next = t.store.next ∧ s.store.held = t.store.held ∧ s.store.sub = t.store.sub ∧ s.setup.live = t.setup.live ∧
    s.setup.gen = t.setup.gen := by
  simp only [drawing, Drawing.mk.injEq]

theorem drawAsked_congr (h : drawing s = drawing t) : drawAsked s = drawAsked t := by
  obtain ⟨hr, hs, -⟩ := drawing_eq_iff.1 h
  simp only [drawAsked, newestComplete, nextUndrawn, hr, hs]

theorem drawing_choose (c : Option (DrawKind × Word)) (h : drawing s = drawing t) : drawing (choose c s) = drawing (choose c t) := by
  obtain ⟨hr, hs⟩ := drawing_eq_iff.1 h
  exact drawing_eq_iff.2 ⟨by simp only [choose, State.withRaster_raster, hr], hs⟩

theorem drawing_askDraw (h : drawing s = drawing t) : drawing (askDraw s) = drawing (askDraw t) := by
  obtain ⟨hr, hs⟩ := drawing_eq_iff.1 h
  by_cases hi : s.raster.engine = .idle
  · rw [askDraw_idle hi, askDraw_idle (hr ▸ hi), drawAsked_congr h]
    refine drawing_choose _ ?_
    rw [← hr]
    split
    · exact drawing_eq_iff.2 ⟨by simp only [redrawTaken, State.withRaster_raster, hr], hs⟩
    · exact h
  · rw [askDraw_busy hi, askDraw_busy (hr ▸ hi), h]

theorem chooseSlot_congr (h : drawing s = drawing t) : chooseSlot s = chooseSlot t := by
  obtain ⟨-, hs, -, -, hsub, hl, -⟩ := drawing_eq_iff.1 h
  simp only [chooseSlot, hs, hsub, hl]

theorem drawing_grantSlot (n : Nat) (h : drawing s = drawing t) : drawing (grantSlot n s) = drawing (grantSlot n t) := by
  obtain ⟨hr, hs, hn, -, hsub, hl, hg⟩ := drawing_eq_iff.1 h
  have hsame (u : State) : (countReuse (u.store.slots.getD n .free) u.store).sub = u.store.sub := (countReuse_kept _ _).2.1
  obtain ⟨lit, he⟩ := grantSlot_eq n s
  obtain ⟨lit', he'⟩ := grantSlot_eq n t
  rw [he, he']
  refine drawing_eq_iff.2 ⟨hr, ?_, ?_, rfl, ?_, hl, hg⟩
  · change s.store.slots.set n _ = t.store.slots.set n _
    rw [hs, hn, hg, hl]
  · change s.store.next + 1#32 = t.store.next + 1#32
    rw [hn]
  · exact (hsame s).trans (hsub.trans (hsame t).symm)

theorem drawing_setCap (c : CapState) (s : State) : drawing (setCap c s) = drawing s := by
  obtain ⟨lit, he⟩ := setCap_eq c s
  rw [he]; rfl

theorem drawing_requestSlot (h : drawing s = drawing t) : drawing (requestSlot s) = drawing (requestSlot t) := by
  rw [requestSlot, requestSlot, chooseSlot_congr h]
  split
  · exact drawing_grantSlot _ h
  · obtain ⟨hr, hs, hn, -, hrest⟩ := drawing_eq_iff.1 h
    rw [drawing_setCap, drawing_setCap]
    exact drawing_eq_iff.2 ⟨hr, hs, hn, rfl, hrest⟩

theorem drawing_reevaluate (h : drawing s = drawing t) : drawing (reevaluate s) = drawing (reevaluate t) := by
  have hh : s.store.held = t.store.held := (drawing_eq_iff.1 h).2.2.2.1
  rw [reevaluate, reevaluate, chooseSlot_congr h, hh]
  split
  · split
    · exact drawing_grantSlot _ h
    · exact h
  · exact h

theorem drawing_finishDraw (n : Word) (d : Drawn) (h : drawing s = drawing t) :
    drawing (finishDraw n d s) = drawing (finishDraw n d t) := by
  obtain ⟨hr, hs, hrest⟩ := drawing_eq_iff.1 h
  refine drawing_reevaluate (drawing_eq_iff.2 ⟨?_, ?_, hrest⟩)
  · simp only [dropDraw, State.withRaster_raster, State.withStore_raster, hr]
  · simp only [dropDraw, State.withRaster_store, State.withStore_store, setDrawn_slots, hs]

theorem drawing_beginDraw (kind : DrawKind) (x : Header) (h : drawing s = drawing t) :
    drawing (beginDraw kind x s) = drawing (beginDraw kind x t) := by
  obtain ⟨hr, hs, hn, hh, hsub, hl, hg⟩ := drawing_eq_iff.1 h
  unfold beginDraw
  dsimp only
  rw [hl, hr, hs]
  have hd (u v : State) (hu : drawing u = drawing v) : drawing (if outsideView x (takeView t.setup.live) = true then
      finishDraw x.number .skippedView u else u) = drawing (if outsideView x (takeView t.setup.live) = true then
      finishDraw x.number .skippedView v else v) := by
    split
    · exact drawing_finishDraw _ _ hu
    · exact hu
  refine hd _ _ (drawing_eq_iff.2 ⟨?_, rfl, hn, hh, hsub, hl, hg⟩)
  simp only [State.withRaster_raster, State.withStore_raster, hr]

theorem drawing_startDraw (n : Nat) (h : drawing s = drawing t) : drawing (startDraw n s) = drawing (startDraw n t) := by
  induction n generalizing s t with
  | zero => exact drawing_choose _ h
  | succ n ih =>
    obtain ⟨hr, hs, -⟩ := drawing_eq_iff.1 h
    cases hc : s.raster.chosen with
    | none => rw [startDraw_none hc, startDraw_none (hr ▸ hc), h]
    | some x =>
      by_cases hi : s.raster.engine = .idle
      · cases hf : findComplete s.store.slots x.2 with
        | none =>
          rw [startDraw_refused n hc hi hf, startDraw_refused n (hr ▸ hc) (hr ▸ hi) (hs ▸ hf)]
          exact ih (drawing_askDraw (drawing_choose _ h))
        | some y =>
          rw [startDraw_found n hc hi hf, startDraw_found n (hr ▸ hc) (hr ▸ hi) (hs ▸ hf)]
          exact ih (drawing_askDraw (drawing_beginDraw _ _ (drawing_choose _ h)))
      · rw [startDraw_busy hi, startDraw_busy (hr ▸ hi)]
        exact drawing_choose _ h

theorem drawing_settleDraw (h : drawing s = drawing t) : drawing (settleDraw s) = drawing (settleDraw t) := by
  have hs : s.store.slots = t.store.slots := (drawing_eq_iff.1 h).2.1
  rw [settleDraw, settleDraw, hs]
  exact drawing_startDraw _ h

theorem drawing_selectDraw (h : drawing s = drawing t) : drawing (selectDraw s) = drawing (selectDraw t) :=
  drawing_settleDraw (drawing_askDraw h)

theorem drawnAs_of_drawing (h : drawing t = drawing s) : drawnAs s t := by
  obtain ⟨hr, hs, -⟩ := drawing_eq_iff.1 h
  exact ⟨hr, hs⟩

end Congruence

/-! ### The offer and the next step -/

theorem settleDraw_none {s : State} (h : s.raster.chosen = none) : settleDraw s = s := startDraw_none h _

theorem lateStart_none {s : State} (h : s.raster.chosen = none) : interleave.lateStart s = [] := by
  rw [interleave.lateStart, h]; rfl

theorem lateStart_some {s : State} (h : s.raster.chosen ≠ none) : interleave.lateStart s = [settleDraw] := by
  rw [interleave.lateStart, if_pos (Option.isSome_iff_ne_none.2 h)]

theorem interleave_nil (n : Nat) (s : State) : interleave n [] s = s := by cases n <;> rfl

theorem interleave_single (n : Nat) (act : State → State) (s : State) :
    interleave (n + 1) [act] s = interleave n (interleave.lateStart (act s)) (act s) := rfl

theorem interleave_settle (n : Nat) (s : State) : interleave (n + 1) [settleDraw] s = settleDraw s := by
  rw [interleave_single, lateStart_none (settleDraw_chosen s), interleave_nil]

/-- One of two reactions is taken first. -/
theorem interleave_pair (n : Nat) (a b : State → State) (s : State) :
    (∃ x, interleave (n + 1) [a, b] s =
      interleave n (interleave.lateStart (a (s.withRaces x)) ++ [b]) (a (s.withRaces x))) ∨
    (∃ x, interleave (n + 1) [a, b] s =
      interleave n (interleave.lateStart (b (s.withRaces x)) ++ [a]) (b (s.withRaces x))) := by
  have hlt : s.races.head % 2 < 2 := Nat.mod_lt _ (by decide)
  obtain h | h : s.races.head % 2 = 0 ∨ s.races.head % 2 = 1 := by omega
  · refine .inl ⟨s.races.tail, ?_⟩
    simp only [interleave, List.length_cons, List.length_nil, h]
    rfl
  · refine .inr ⟨s.races.tail, ?_⟩
    simp only [interleave, List.length_cons, List.length_nil, h]
    rfl

section Order
variable {next : State → State}

/-- What the next step establishes and drawing keeps holds once the offer and the next step have been taken. -/
theorem takeAll_offer_keeps {P Q : State → Prop} (hPr : ∀ s x, P s → P (s.withRaces x)) (hPa : ∀ s, P s → P (askDraw s))
    (hPs : ∀ s, P s → P (settleDraw s)) (hQr : ∀ s x, Q s → Q (s.withRaces x)) (hQa : ∀ s, Q s → Q (askDraw s))
    (hQs : ∀ s, Q s → Q (settleDraw s)) (hnext : ∀ s, P s → Q (next s)) {s : State} (hs : P s) :
    Q (takeAll [offer, next] s) := by
  have hdraw (u : State) : ∀ act ∈ interleave.lateStart u, ∀ v, Q v → Q (act v) := by
    intro act ha
    unfold interleave.lateStart at ha
    split at ha
    · rw [List.mem_singleton.1 ha]; exact hQs
    · cases ha
  have hrest (n : Nat) (u : State) (act : State → State) (hact : ∀ v, Q v → Q (act v)) (hu : Q u) :
      Q (interleave n (interleave.lateStart u ++ [act]) u) :=
    interleave_keeps hQr hQs n _ (fun a ha => (List.mem_append.1 ha).elim (hdraw u a)
      (fun h => by rw [List.mem_singleton.1 h]; exact hact)) u hu
  have hlast (n : Nat) (u : State) (hu : P u) : Q (interleave (n + 1) [next] u) := by
    rw [interleave_single]
    exact interleave_keeps hQr hQs n _ (hdraw _) _ (hnext u hu)
  change Q (interleave 4 [offer, next] s)
  rcases interleave_pair 3 offer next s with ⟨x, h⟩ | ⟨x, h⟩
  · rw [h]
    have ht : P (offer (s.withRaces x)) := hPa _ (hPr s x hs)
    generalize offer (s.withRaces x) = t at ht
    by_cases hc : t.raster.chosen = none
    · rw [lateStart_none hc]
      exact hlast 2 t ht
    · rw [lateStart_some hc]
      rcases interleave_pair 2 settleDraw next t with ⟨y, h'⟩ | ⟨y, h'⟩
      · rw [List.singleton_append, h', lateStart_none (settleDraw_chosen _)]
        exact hlast 1 _ (hPs _ (hPr t y ht))
      · rw [List.singleton_append, h']
        exact hrest 2 _ settleDraw hQs (hnext _ (hPr t y ht))
  · rw [h]
    exact hrest 3 _ offer hQa (hnext _ (hPr s x hs))

/-- The selection of the offer comes before the next step, after it, or with its draw start after it. -/
theorem drawing_takeAll_offer (hcongr : ∀ s t, drawing s = drawing t → drawing (next s) = drawing (next t))
    (hchosen : ∀ s, (next s).raster.chosen = s.raster.chosen) {s : State} (hc : s.raster.chosen = none) :
    drawing (takeAll [offer, next] s) = drawing (next (selectDraw s)) ∨
      drawing (takeAll [offer, next] s) = drawing (settleDraw (next (askDraw s))) ∨
      drawing (takeAll [offer, next] s) = drawing (selectDraw (next s)) := by
  have hraces (u : State) (x : Races) : drawing (u.withRaces x) = drawing u := rfl
  have hlast (n : Nat) (u : State) (hu : u.raster.chosen = none) : interleave (n + 1) [next] u = next u := by
    rw [interleave_single, lateStart_none ((hchosen u).trans hu), interleave_nil]
  change drawing (interleave 4 [offer, next] s) = _ ∨ drawing (interleave 4 [offer, next] s) = _ ∨
    drawing (interleave 4 [offer, next] s) = _
  rcases interleave_pair 3 offer next s with ⟨x, h⟩ | ⟨x, h⟩
  · rw [h]
    have ht : drawing (offer (s.withRaces x)) = drawing (askDraw s) := drawing_askDraw (hraces s x)
    generalize offer (s.withRaces x) = t at ht
    by_cases hct : t.raster.chosen = none
    · have hsel : drawing t = drawing (selectDraw s) := by
        rw [ht, selectDraw, settleDraw_none ((congrArg RasterEngine.chosen (drawing_eq_iff.1 ht).1).symm.trans hct)]
      rw [lateStart_none hct]
      exact .inl ((congrArg drawing (hlast 2 t hct)).trans (hcongr _ _ hsel))
    · rw [lateStart_some hct]
      rcases interleave_pair 2 settleDraw next t with ⟨y, h'⟩ | ⟨y, h'⟩
      · refine .inl ?_
        rw [List.singleton_append, h', lateStart_none (settleDraw_chosen _), List.nil_append, hlast 1 _ (settleDraw_chosen _)]
        exact hcongr _ _ (drawing_settleDraw ht)
      · refine .inr (.inl ?_)
        have hn : (next (t.withRaces y)).raster.chosen ≠ none := by rw [hchosen]; exact hct
        have htwo (u : State) : drawing (interleave 2 [settleDraw, settleDraw] u) = drawing (settleDraw u) := by
          rcases interleave_pair 1 settleDraw settleDraw u with ⟨z, h3⟩ | ⟨z, h3⟩ <;>
          · rw [h3, lateStart_none (settleDraw_chosen _), List.nil_append, interleave_settle,
              settleDraw_none (settleDraw_chosen _)]
            exact drawing_settleDraw rfl
        rw [List.singleton_append, h', lateStart_some hn, List.singleton_append]
        exact (htwo _).trans (drawing_settleDraw (hcongr _ _ ht))
  · refine .inr (.inr ?_)
    have hn : (next (s.withRaces x)).raster.chosen = none := (hchosen _).trans hc
    rw [h, lateStart_none hn, List.nil_append, interleave_single]
    have hask : drawing (offer (next (s.withRaces x))) = drawing (askDraw (next s)) :=
      drawing_askDraw (hcongr _ _ (hraces s x))
    generalize offer (next (s.withRaces x)) = t at hask
    by_cases hct : t.raster.chosen = none
    · rw [lateStart_none hct, interleave_nil, hask, selectDraw,
        settleDraw_none ((congrArg RasterEngine.chosen (drawing_eq_iff.1 hask).1).symm.trans hct)]
    · rw [lateStart_some hct, interleave_settle]
      exact drawing_settleDraw hask

end Order

end Sys2Proof.Machine
end

section
/-! PROOFS. What a closed record leaves (R93, R106, R114, R125): its slot, the notices of both links, and the sequencer in IDLE or at
the next record start, whatever the offer draws meanwhile. -/

namespace Sys2Proof.Machine

/-! ### What drawing leaves while no slot request is held -/

/-- s with this drawing done. -/
def drawnFrom (s : State) (r : RasterEngine) (slots : List Slot) (x : Races) : State :=
  ((s.withRaces x).withRaster r).withStore { s.store with slots := slots }

/-- t is s but for the drawing that selections of it can have done. -/
structure DrawnOnly (s t : State) : Prop where
  rest : t = drawnFrom s t.raster t.store.slots t.races
  slots : t.store.slots.map drawnAside = s.store.slots.map drawnAside
  busy : s.raster.engine ≠ .idle → t.store.slots = s.store.slots ∧ t.raster.engine = s.raster.engine

theorem DrawnOnly.refl (s : State) : DrawnOnly s s := ⟨rfl, rfl, fun _ => ⟨rfl, rfl⟩⟩

theorem DrawnOnly.trans {s t u : State} (h : DrawnOnly s t) (k : DrawnOnly t u) : DrawnOnly s u where
  rest := k.rest.trans (congrArg (fun x : State => drawnFrom x u.raster u.store.slots u.races) h.rest |>.trans rfl)
  slots := k.slots.trans h.slots
  busy hi := by
    obtain ⟨hs, he⟩ := h.busy hi
    obtain ⟨hs', he'⟩ := k.busy (he ▸ hi)
    exact ⟨hs'.trans hs, he'.trans he⟩

section Fields
variable {s t : State} (h : DrawnOnly s t)
include h

theorem DrawnOnly.held : t.store.held = s.store.held := (congrArg (fun x : State => x.store.held) h.rest).trans rfl
theorem DrawnOnly.seq : t.seq = s.seq := (congrArg (fun x : State => x.seq) h.rest).trans rfl
theorem DrawnOnly.setup : t.setup = s.setup := (congrArg (fun x : State => x.setup) h.rest).trans rfl
theorem DrawnOnly.links : t.links = s.links := (congrArg (fun x : State => x.links) h.rest).trans rfl
theorem DrawnOnly.store : t.store = { s.store with slots := t.store.slots } := (congrArg (fun x : State => x.store) h.rest).trans rfl

end Fields

theorem drawnOnly_withRaces (s : State) (x : Races) : DrawnOnly s (s.withRaces x) := ⟨rfl, rfl, fun _ => ⟨rfl, rfl⟩⟩

theorem drawnOnly_choose (c : Option (DrawKind × Word)) (s : State) : DrawnOnly s (choose c s) := ⟨rfl, rfl, fun _ => ⟨rfl, rfl⟩⟩

theorem drawnOnly_askDraw (s : State) : DrawnOnly s (askDraw s) := by
  by_cases hi : s.raster.engine = .idle
  · rw [askDraw_idle hi]
    split
    · exact ⟨rfl, rfl, fun h => absurd hi h⟩
    · exact drawnOnly_choose _ s
  · rw [askDraw_busy hi]
    exact .refl s

theorem map_drawnAside_changeComplete (number : Word) {f : Header → Header}
    (hf : ∀ h, drawnAside (.complete (f h)) = drawnAside (.complete h)) (slots : List Slot) :
    (changeComplete number f slots).map drawnAside = slots.map drawnAside := by
  rw [changeComplete, List.map_map]
  refine List.map_congr_left fun sl _ => ?_
  cases sl with
  | complete h =>
    simp only [Function.comp_apply]
    split
    · exact hf h
    · rfl
  | free | filling => rfl

theorem drawnOnly_beginDraw (kind : DrawKind) (x : Header) {s : State} (hh : s.store.held = false)
    (hi : s.raster.engine = .idle) : DrawnOnly s (beginDraw kind x s) := by
  by_cases hv : outsideView x (takeView s.setup.live) = true
  · rw [beginDraw_outside hv, reevaluate_of_not_held (s := drawSkipped x s) hh]
    exact ⟨rfl, map_drawnAside_changeComplete x.number (f := skipHeader) (fun _ => rfl) _, fun h => absurd hi h⟩
  · rw [beginDraw_inView (Bool.eq_false_iff.2 hv)]
    exact ⟨rfl, map_drawnAside_changeComplete x.number (f := markDrawing) (fun _ => rfl) _, fun h => absurd hi h⟩

theorem drawnOnly_startDraw (n : Nat) {s : State} (hh : s.store.held = false) : DrawnOnly s (startDraw n s) := by
  induction n generalizing s with
  | zero => exact drawnOnly_choose _ s
  | succ n ih =>
    have again {u : State} (hu : DrawnOnly s u) : DrawnOnly s (startDraw n (askDraw u)) := by
      have ha := hu.trans (drawnOnly_askDraw u)
      exact ha.trans (ih (ha.held.trans hh))
    cases hc : s.raster.chosen with
    | none => rw [startDraw_none hc]; exact .refl s
    | some x =>
      by_cases hi : s.raster.engine = .idle
      · cases hf : findComplete s.store.slots x.2 with
        | none =>
          rw [startDraw_refused n hc hi hf]
          exact again (drawnOnly_choose _ s)
        | some y =>
          rw [startDraw_found n hc hi hf]
          exact again ((drawnOnly_choose none s).trans (drawnOnly_beginDraw (s := choose none s) _ _ hh hi))
      · rw [startDraw_busy hi]
        exact drawnOnly_choose _ s

theorem drawnOnly_settleDraw {s : State} (hh : s.store.held = false) : DrawnOnly s (settleDraw s) := drawnOnly_startDraw _ hh

/-! ### The sequencer in IDLE -/

/-- The sequencer in IDLE and STOPPED. -/
def idleSeq (q : Sequencer) : Sequencer :=
  { q with
    run := .stopped
    cap := .idle
    stopPending := false
    forcePending := false
    holdoff := none
    auto := none
    current := none }

/-- The sequencer reaches IDLE, before it reports. -/
theorem enterIdle_reports (s : State) : ∃ lit, enterIdle s = reportIdle (litTo lit (s.withSeq (idleSeq s.seq))) := by
  obtain ⟨lit, hc⟩ := setCap_eq .idle (s.withSeq { s.seq with
    stopPending := false, forcePending := false, holdoff := none, auto := none, current := none })
  obtain ⟨lit', hr⟩ := setRun_eq .stopped (litTo lit (s.withSeq { s.seq with
    cap := .idle, stopPending := false, forcePending := false, holdoff := none, auto := none, current := none }))
  exact ⟨lit', congrArg reportIdle ((congrArg (setRun .stopped) hc).trans hr)⟩

theorem enterIdle_eq {s : State} (h : s.seq.standbyStop = false) :
    ∃ lit, enterIdle s = litTo lit (s.withSeq (idleSeq s.seq)) := by
  obtain ⟨lit, he⟩ := enterIdle_reports s
  exact ⟨lit, he.trans (if_neg (by simp [litTo, idleSeq, h]))⟩

/-! ### Completions counted (R125) -/

/-- A link's record notice reaches its pace with the completion counted. -/
def paceReached (n : RecordNotice) : Prop := n.pace ≤ (satInc n.unreported).toNat

theorem countCompletion_notice (n : RecordNotice) : (countCompletion n).1 = noticeAfterClose n := by
  unfold countCompletion noticeAfterClose
  dsimp only
  by_cases h : n.pace ≤ (satInc n.unreported).toNat
  · rw [if_pos h, if_pos h]
  · rw [if_neg h, if_neg h]
    rfl

theorem countCompletion_told (n : RecordNotice) : (countCompletion n).2 = true ↔ paceReached n := by
  unfold countCompletion paceReached
  dsimp only
  by_cases h : n.pace ≤ (satInc n.unreported).toNat
  · rw [if_pos h]; exact iff_of_true rfl h
  · rw [if_neg h]; exact iff_of_false Bool.false_ne_true h

/-- The record notices of both links once a completion has been counted. -/
def noticesCounted (n : PerLink RecordNotice) : PerLink RecordNotice := ⟨noticeAfterClose n.console, noticeAfterClose n.remote⟩

/-- A link once a completion has been counted: RECORDS where the pace has been reached. -/
def linkCounted (n : RecordNotice) (k : LinkState) : LinkState :=
  if (countCompletion n).2 then { k with notices := k.notices ||| noticeMask .records } else k

def linksCounted (n : PerLink RecordNotice) (k : PerLink LinkState) : PerLink LinkState :=
  ⟨linkCounted n.console k.console, linkCounted n.remote k.remote⟩

/-- The state once a completion has been counted for both links. -/
def countedOn (s : State) : State :=
  (s.withStore { s.store with notice := noticesCounted s.store.notice }).withLinks (linksCounted s.store.notice s.links)

theorem countCompletionOn_eq (l : Link) (s : State) : countCompletionOn l s =
    (s.withStore { s.store with notice := s.store.notice.set l (noticeAfterClose (s.store.notice.get l)) }).withLinks
      (s.links.set l (linkCounted (s.store.notice.get l) (s.links.get l))) := by
  unfold countCompletionOn linkCounted
  dsimp only
  rw [countCompletion_notice]
  split
  · rfl
  · cases l <;> rfl

theorem countCompletionOn_both (s : State) : countCompletionOn .remote (countCompletionOn .console s) = countedOn s := by
  rw [countCompletionOn_eq, countCompletionOn_eq]
  rfl

theorem or_and_mask (x m : BitVec 7) : (x ||| m) &&& m = m := by
  ext i hi
  simpa using fun h => .inr h

/-- Both links' record notices and RECORDS bits as the completion has left them. -/
theorem closeCounted_countedOn {completed : Nat} (h0 : completed ≠ 0) {s t : State}
    (hn : t.store.notice = noticesCounted s.store.notice) (hl : t.links = linksCounted s.store.notice s.links) :
    closeCounted completed s t := by
  have hbit (n : RecordNotice) (k : LinkState) :
      (linkCounted n k).notices &&& noticeMask .records =
        if completed ≠ 0 ∧ n.pace ≤ (satInc n.unreported).toNat then noticeMask .records
        else k.notices &&& noticeMask .records := by
    unfold linkCounted
    by_cases hp : paceReached n
    · rw [if_pos ((countCompletion_told n).2 hp), if_pos ⟨h0, hp⟩]
      exact or_and_mask ..
    · rw [if_neg (mt (countCompletion_told n).1 hp), if_neg (fun h => hp h.2)]
  intro l
  rw [hn, hl, if_neg h0]
  cases l
  · exact ⟨rfl, hbit ..⟩
  · exact ⟨rfl, hbit ..⟩

theorem closeCounted_zero {s t : State} (hn : t.store.notice = s.store.notice) (hl : t.links = s.links) :
    closeCounted 0 s t := by
  intro l
  rw [hn, hl, if_pos rfl, if_neg (fun h => h.1 rfl)]
  exact ⟨rfl, rfl⟩

/-! ### The close of a record (R106, R114) -/

/-- The record's slot closed and the sequencer without it, before the notices are told. -/
def recordClosed (r : Record) (s : State) : State := setCurrent none (s.withStore (closeSlot r.number r.completed s.store))

theorem closeSlot_slots (number : Word) (completed : Nat) (st : RecordStore) : closeSlot number completed st =
    { st with slots := slotsAfterClose number completed st.sub st.slots } := by
  have hslot (h : Header) : closedSlot completed st.sub h = slotAfterClose completed st.sub h := by
    unfold closedSlot slotAfterClose
    by_cases h0 : completed = 0
    · rw [if_pos h0, if_pos h0]
    · rw [if_neg h0, if_neg h0]
      by_cases hp : h.planned ≤ completed
      · rw [if_pos hp, if_neg (not_lt.2 hp)]; rfl
      · rw [if_neg hp, if_pos (not_le.1 hp)]; rfl
  refine congrArg (fun slots => { st with slots := slots }) (List.map_congr_left fun sl _ => ?_)
  cases sl with
  | filling h => exact congrArg (fun x => if h.number = number then x else .filling h) (hslot h)
  | _ => rfl

section Close
variable {next : State → State} {r : Record} {s : State} (hr : s.seq.current = some r)
include hr

/-- A record with a completed segment is counted and offered as the sequencer goes on. -/
theorem closeRecord_offers (hfill : isFilling r.number s.store = true) (h0 : r.completed ≠ 0) :
    closeRecord next s = takeAll [offer, next] (countedOn (recordClosed r s)) := by
  rw [closeRecord, hr, ← countCompletionOn_both]
  exact if_pos ⟨hfill, h0⟩

theorem closeRecord_freed (h0 : r.completed = 0) : closeRecord next s = next (recordClosed r s) := by
  rw [closeRecord, hr]
  exact if_neg (fun h => h.2 h0)

theorem closeRecord_unknown (hfill : isFilling r.number s.store = false) : closeRecord next s = next (recordClosed r s) := by
  rw [closeRecord, hr]
  exact if_neg (fun h => Bool.false_ne_true (hfill ▸ h.1))

end Close

theorem closeRecord_none {next : State → State} {s : State} (hr : s.seq.current = none) : closeRecord next s = next s := by
  rw [closeRecord, hr]

/-- Between drawing and drawing the next step is taken. -/
theorem takeAll_offer_idle {c : State} (hh : c.store.held = false) (hstop : c.seq.standbyStop = false) :
    ∃ u, DrawnOnly c u ∧ DrawnOnly (enterIdle u) (takeAll [offer, enterIdle] c) := by
  have hheld {u : State} (hu : DrawnOnly c u) : (enterIdle u).store.held = false := by
    obtain ⟨lit, he⟩ := enterIdle_eq (s := u) (by rw [hu.seq]; exact hstop)
    rw [he]
    exact hu.held.trans hh
  refine takeAll_offer_keeps (P := DrawnOnly c) (Q := fun t => ∃ u, DrawnOnly c u ∧ DrawnOnly (enterIdle u) t)
    (fun s x h => h.trans (drawnOnly_withRaces s x)) (fun s h => h.trans (drawnOnly_askDraw s))
    (fun s h => h.trans (drawnOnly_settleDraw (h.held.trans hh))) (fun s x => ?_) (fun s => ?_) (fun s => ?_)
    (fun s h => ⟨s, h, .refl _⟩) (.refl c)
  · rintro ⟨u, hu, hk⟩
    exact ⟨u, hu, hk.trans (drawnOnly_withRaces s x)⟩
  · rintro ⟨u, hu, hk⟩
    exact ⟨u, hu, hk.trans (drawnOnly_askDraw s)⟩
  · rintro ⟨u, hu, hk⟩
    exact ⟨u, hu, hk.trans (drawnOnly_settleDraw (hk.held.trans (hheld hu)))⟩

/-- The entry into STANDBY leaves drawing as it is. -/
theorem drawing_enterStandby (s : State) : drawing (enterStandby s) = drawing s := by
  have hleds (u : State) : drawing (evalLeds u) = drawing u := by
    obtain ⟨lit, he⟩ := evalLeds_eq u
    rw [he]; rfl
  have hstop (u : State) : drawing (composerStop u) = drawing u := by
    unfold composerStop
    dsimp only
    split <;> rfl
  have hfinal (l : Link) (held : Bool) (u : State) : drawing (finalStatus l held .ok .nothing u) = drawing u := by
    unfold finalStatus
    split
    · rfl
    · dsimp only
      split <;> rfl
  have hpanel (t u : State) (p : PanelScanner) (hu : u = composerStop t) : drawing (evalLeds (u.withPanel p)) = drawing t := by
    rw [hleds, hu]
    exact hstop t
  unfold enterStandby
  dsimp only
  split
  · rw [hfinal, hpanel _ _ _ rfl]; rfl
  · rw [hpanel _ _ _ rfl]; rfl

theorem drawing_enterIdle (s : State) : drawing (enterIdle s) = drawing s := by
  have hreport (u : State) : drawing (reportIdle u) = drawing u := by
    unfold reportIdle
    split
    · unfold tryStandby
      split
      · exact drawing_enterStandby _
      · rfl
    · rfl
  obtain ⟨lit, he⟩ := enterIdle_reports s
  rw [he, hreport]
  rfl

theorem raster_eq_of_drawing {s t : State} (h : drawing t = drawing s) : t.raster = s.raster := (drawing_eq_iff.1 h).1

/-- With the sequencer in IDLE next, only the selection of the offer draws. -/
theorem drawing_takeAll_idle {c : State} (hc : c.raster.chosen = none) :
    drawing (takeAll [offer, enterIdle] c) = drawing (selectDraw c) := by
  rcases drawing_takeAll_offer (next := enterIdle)
    (fun s t h => (drawing_enterIdle s).trans (h.trans (drawing_enterIdle t).symm))
    (fun s => congrArg RasterEngine.chosen (raster_eq_of_drawing (drawing_enterIdle s))) hc with h | h | h
  · exact h.trans (drawing_enterIdle _)
  · exact h.trans (drawing_settleDraw (drawing_enterIdle _))
  · exact h.trans (drawing_selectDraw (drawing_enterIdle _))

/-! ### The links and their record notices -/

/-- The links and their record notices. -/
def noticesOf (s : State) : PerLink RecordNotice × PerLink LinkState := (s.store.notice, s.links)

theorem noticesKept_grantSlot (n : Nat) (s : State) : noticesOf (grantSlot n s) = noticesOf s := by
  obtain ⟨lit, he⟩ := grantSlot_eq n s
  rw [he]
  exact Prod.ext (countReuse_kept _ _).2.2.2.1 rfl

theorem noticesKept_requestSlot (s : State) : noticesOf (requestSlot s) = noticesOf s := by
  unfold requestSlot
  split
  · exact noticesKept_grantSlot _ s
  · obtain ⟨lit, he⟩ := setCap_eq .waitSlot (s.withStore { s.store with held := true })
    rw [he]; rfl

theorem noticesKept_reevaluate (s : State) : noticesOf (reevaluate s) = noticesOf s := by
  unfold reevaluate
  split
  · split
    · exact noticesKept_grantSlot _ s
    · rfl
  · rfl

theorem noticesKept_askDraw (s : State) : noticesOf (askDraw s) = noticesOf s := by
  unfold askDraw
  split
  · rfl
  · split <;> rfl

theorem noticesKept_beginDraw (kind : DrawKind) (x : Header) (s : State) : noticesOf (beginDraw kind x s) = noticesOf s := by
  unfold beginDraw
  dsimp only
  split
  · exact noticesKept_reevaluate _
  · rfl

theorem noticesKept_startDraw (n : Nat) (s : State) : noticesOf (startDraw n s) = noticesOf s := by
  induction n generalizing s with
  | zero => rfl
  | succ n ih =>
    unfold startDraw
    split
    · rfl
    · split
      · rfl
      · split
        · rw [ih, noticesKept_askDraw, noticesKept_beginDraw]; rfl
        · rw [ih, noticesKept_askDraw]; rfl

/-! ### The next record -/

/-- A slot request has been made for a record of b: it is held, or the record has started. -/
structure RecordAsked (b u : State) : Prop where
  setup : u.setup = b.setup
  run : u.seq.run = b.seq.run
  asked : (u.store.held = true ∧ u.seq.cap = .waitSlot ∧ u.store.next = b.store.next) ∨
    (u.store.held = false ∧ ∃ r, u.seq.current = some r ∧ r.number = b.store.next ∧ r.gen = b.setup.gen ∧
      r.setup = captureCopy b.setup.live ∧ r.segment = 0 ∧ r.completed = 0)

theorem recordAsked_grantSlot (n : Nat) {b u : State} (hsetup : u.setup = b.setup) (hrun : u.seq.run = b.seq.run)
    (hnext : u.store.next = b.store.next) : RecordAsked b (grantSlot n u) := by
  obtain ⟨lit, he⟩ := grantSlot_eq n u
  obtain ⟨r, hr, -, hnum, hgen, hset, hseg, hcomp, -, -, -, -, hrn, -⟩ := grantedSeq_current n u
  refine ⟨by rw [he]; exact hsetup, by rw [he]; exact hrn.trans hrun, .inr ⟨by rw [he]; rfl, r, by rw [he]; exact hr, ?_, ?_, ?_,
    hseg, hcomp⟩⟩
  · rw [hnum, ← hnext]; rfl
  · rw [hgen, ← hsetup]; rfl
  · rw [hset, ← hsetup]; rfl

theorem recordAsked_requestSlot {b u : State} (hsetup : u.setup = b.setup) (hrun : u.seq.run = b.seq.run)
    (hnext : u.store.next = b.store.next) : RecordAsked b (requestSlot u) := by
  unfold requestSlot
  split
  · exact recordAsked_grantSlot _ hsetup hrun hnext
  · obtain ⟨lit, he⟩ := setCap_eq .waitSlot (u.withStore { u.store with held := true })
    rw [he]
    exact ⟨hsetup, hrun, .inl ⟨rfl, rfl, hnext⟩⟩

section Asked
variable {b u : State}

theorem recordAsked_reevaluate (h : RecordAsked b u) : RecordAsked b (reevaluate u) := by
  unfold reevaluate
  split
  · next hh =>
    split
    · rcases h.asked with ⟨-, -, hn⟩ | ⟨hf, -⟩
      · exact recordAsked_grantSlot _ h.setup h.run hn
      · rw [hf] at hh; cases hh
    · exact h
  · exact h

theorem recordAsked_askDraw (h : RecordAsked b u) : RecordAsked b (askDraw u) := by
  unfold askDraw
  split
  · exact h
  · split <;> exact ⟨h.setup, h.run, h.asked⟩

theorem recordAsked_startDraw (n : Nat) (h : RecordAsked b u) : RecordAsked b (startDraw n u) := by
  induction n generalizing u with
  | zero => exact ⟨h.setup, h.run, h.asked⟩
  | succ n ih =>
    unfold startDraw
    split
    · exact h
    · split
      · exact ⟨h.setup, h.run, h.asked⟩
      · split
        · refine ih (recordAsked_askDraw ?_)
          unfold beginDraw
          dsimp only
          split
          · exact recordAsked_reevaluate ⟨h.setup, h.run, h.asked⟩
          · exact ⟨h.setup, h.run, h.asked⟩
        · exact ih (recordAsked_askDraw ⟨h.setup, h.run, h.asked⟩)

end Asked

/-- With a slot request next, the request is made once, whatever is drawn before and after it. -/
theorem takeAll_offer_asks {next : State → State} {b c : State} (hh : c.store.held = false) (hc : c.setup = b.setup)
    (hrun : c.seq.run = b.seq.run) (hn : c.store.next = b.store.next)
    (hnext : ∀ u, DrawnOnly c u → next u = requestSlot u) : RecordAsked b (takeAll [offer, next] c) := by
  refine takeAll_offer_keeps (P := DrawnOnly c) (Q := RecordAsked b) (fun s x h => h.trans (drawnOnly_withRaces s x))
    (fun s h => h.trans (drawnOnly_askDraw s)) (fun s h => h.trans (drawnOnly_settleDraw (h.held.trans hh)))
    (fun s x h => ⟨h.setup, h.run, h.asked⟩) (fun s h => recordAsked_askDraw h) (fun s h => recordAsked_startDraw _ h)
    (fun s h => ?_) (.refl c)
  rw [hnext s h]
  exact recordAsked_requestSlot (h.setup.trans hc) ((congrArg Sequencer.run h.seq).trans hrun)
    ((congrArg RecordStore.next h.store).trans hn)

end Sys2Proof.Machine
end

section
/-! PROOFS. A completed segment in acquisition memory (R78, R89, R92). -/

namespace Sys2Proof.Machine

/-! ### Runs of bytes -/

/-- Reading inside a run of bytes written. -/
theorem memGet_memSetMany_inside {m : Memory} (a i : Nat) (bs : List Byte) (hw : memWf m = true) (hi : i < bs.length) :
    memGet (memSetMany m a bs) (a + i) = bs[i] := by
  induction bs generalizing m a i with
  | nil => exact absurd hi (Nat.not_lt_zero _)
  | cons b rest ih =>
    rw [memSetMany]
    cases i with
    | zero =>
      change memGet (memSetMany (memSet m a b) (a + 1) rest) a = b
      rw [memGet_memSetMany_outside (a + 1) a rest (memWf_memSet a b hw) (.inl (by omega)), memGet_memSet a a b hw, if_pos rfl]
    | succ i =>
      rw [show a + (i + 1) = a + 1 + i by omega, ih (a + 1) i (memWf_memSet a b hw) (by simpa using hi),
        List.getElem_cons_succ]

theorem memRead_eq {m : Memory} {a : Nat} {bs : List Byte} (h : ∀ i (hi : i < bs.length), memGet m (a + i) = bs[i]) :
    memRead m a bs.length = bs := by
  induction bs generalizing a with
  | nil => rfl
  | cons b rest ih =>
    rw [List.length_cons, memRead]
    refine congrArg₂ List.cons (h 0 (by simp)) (ih fun i hi => ?_)
    have := h (i + 1) (by simpa using hi)
    rw [List.getElem_cons_succ] at this
    rw [← this, show a + 1 + i = a + (i + 1) by omega]

/-! ### The regions of a segment's channels (R78) -/

section Regions
variable {slot rb segment points : Nat} {st : Setup}

/-- The bytes of a segment's points, one channel. -/
def segmentBytes (points : Nat) (st : Setup) : Nat := points * pointSize (st.get .acqMode)

theorem pointAddress_point (slot rb : Nat) (st : Setup) (c : Chan) (segment j : Nat) : pointAddress slot rb st c segment j =
    pointAddress slot rb st c segment 0 + j * pointSize (st.get .acqMode) := by
  rw [pointAddress, pointAddress, Nat.zero_mul, Nat.add_zero]

theorem enabledChans_nodup (st : Setup) : (enabledChans st).Nodup :=
  List.Nodup.filter _ (by decide)

/-- Two channels' regions lie apart. -/
theorem regions_apart (hfit : segment * segmentDepth st + segmentBytes points st ≤ depthSamples (st.get .acqDepth)) {c d : Chan}
    (hc : c ∈ enabledChans st) (hcd : c ≠ d) :
    pointAddress slot rb st c segment 0 + segmentBytes points st ≤ pointAddress slot rb st d segment 0 ∨
      pointAddress slot rb st d segment 0 + segmentBytes points st ≤ pointAddress slot rb st c segment 0 := by
  have hne : (enabledChans st).idxOf c ≠ (enabledChans st).idxOf d := fun h => hcd ((List.idxOf_inj hc).1 h)
  have hstep (a b : Nat) (h : a < b) : a * depthSamples (st.get .acqDepth) + depthSamples (st.get .acqDepth) ≤
      b * depthSamples (st.get .acqDepth) := by
    rw [← Nat.succ_mul]; exact Nat.mul_le_mul_right _ h
  simp only [pointAddress, Nat.zero_mul, Nat.add_zero]
  rcases Nat.lt_or_gt_of_ne hne with h | h
  · have := hstep _ _ h
    omega
  · have := hstep _ _ h
    omega

end Regions

/-! ### A segment written (R89, R92) -/

section Written
variable {rb : Nat} {r : Record} {mem : Memory}

theorem memWf_writeChannel (rb : Nat) (r : Record) (c : Chan) (hw : memWf mem = true) : memWf (writeChannel rb r mem c) = true :=
  memWf_memSetMany _ _ hw

/-- An address outside the regions of the channels written reads as before. -/
theorem memGet_writeChannels_outside {cs : List Chan} {x : Nat} (hw : memWf mem = true)
    (hx : ∀ c ∈ cs, x < pointAddress r.slot rb r.setup c r.segment 0 ∨
      pointAddress r.slot rb r.setup c r.segment 0 + (storedPoints r c).flatten.length ≤ x) :
    memGet (cs.foldl (writeChannel rb r) mem) x = memGet mem x := by
  induction cs generalizing mem with
  | nil => rfl
  | cons c rest ih =>
    rw [List.foldl_cons, ih (memWf_writeChannel rb r _ hw) fun d hd => hx d (List.mem_cons_of_mem _ hd), writeChannel,
      memGet_memSetMany_outside _ _ _ hw (hx c List.mem_cons_self)]

/-- A channel's bytes read back, its region lying apart from the others'. -/
theorem memGet_writeChannels_inside {cs : List Chan} {c : Chan} {i : Nat} (hw : memWf mem = true) (hc : c ∈ cs) (hnd : cs.Nodup)
    (hi : i < (storedPoints r c).flatten.length)
    (hx : ∀ d ∈ cs, d ≠ c → pointAddress r.slot rb r.setup c r.segment 0 + i < pointAddress r.slot rb r.setup d r.segment 0 ∨
      pointAddress r.slot rb r.setup d r.segment 0 + (storedPoints r d).flatten.length ≤
        pointAddress r.slot rb r.setup c r.segment 0 + i) :
    memGet (cs.foldl (writeChannel rb r) mem) (pointAddress r.slot rb r.setup c r.segment 0 + i) =
      (storedPoints r c).flatten[i] := by
  induction cs generalizing mem with
  | nil => cases hc
  | cons d rest ih =>
    obtain ⟨hnot, hnd'⟩ := List.nodup_cons.1 hnd
    rw [List.foldl_cons]
    by_cases hdc : d = c
    · subst hdc
      rw [memGet_writeChannels_outside (memWf_writeChannel rb r _ hw) fun e he =>
        hx e (List.mem_cons_of_mem _ he) (fun h => hnot (h ▸ he)), writeChannel, memGet_memSetMany_inside _ _ _ hw hi]
    · exact ih (memWf_writeChannel rb r _ hw) ((List.mem_cons.1 hc).resolve_left (Ne.symm hdc)) hnd'
        fun e he => hx e (List.mem_cons_of_mem _ he)

variable (hlen : ∀ q ∈ r.before ++ r.after, ∀ c, r.setup.get (.chOn c) = 1 → (q.get c).length = pointSize (r.setup.get .acqMode))
  (hcount : r.before.length + r.after.length = r.plan.points)
include hlen hcount

theorem storedPoints_flatten {c : Chan} (hc : r.setup.get (.chOn c) = 1) :
    (storedPoints r c).flatten.length = segmentBytes r.plan.points r.setup ∧
    ∀ j q, (r.before.reverse ++ r.after.reverse)[j]? = some q → ∀ b, b < pointSize (r.setup.get .acqMode) →
      (storedPoints r c).flatten[j * pointSize (r.setup.get .acqMode) + b]? = (q.get c)[b]? := by
  have hg : ∀ q ∈ r.before.reverse ++ r.after.reverse, (PerChan.get q c).length = pointSize (r.setup.get .acqMode) :=
    fun q hq => hlen q (by simpa using hq) c hc
  have hflat : (storedPoints r c).flatten = (r.before.reverse ++ r.after.reverse).flatMap (fun q => q.get c) :=
    (List.flatMap_def ..).symm
  rw [hflat]
  refine ⟨?_, fun j q hj b hb => getElem?_flatMap_block (fun q : PointSet => q.get c) _ hg hj hb⟩
  rw [length_flatMap_block _ _ hg, List.length_append, List.length_reverse, List.length_reverse, hcount, segmentBytes]

variable (hw : memWf mem = true) (hfit : regionFits r.slot rb r.setup r.segment r.plan.points = true)
include hw hfit

/-- A stored point lies at its place. -/
theorem memRead_writeSegment {c : Chan} (hc : r.setup.get (.chOn c) = 1) {j : Nat} {q : PointSet}
    (hj : (r.before.reverse ++ r.after.reverse)[j]? = some q) :
    memRead (writeSegment rb r mem) (pointAddress r.slot rb r.setup c r.segment j) (pointSize (r.setup.get .acqMode)) =
      q.get c := by
  have hq : q ∈ r.before ++ r.after := by simpa using List.mem_of_getElem? hj
  have hqc := hlen q hq c hc
  have hjlt : j < r.plan.points := by
    obtain ⟨hlt, -⟩ := List.getElem?_eq_some_iff.1 hj
    rw [List.length_append, List.length_reverse, List.length_reverse] at hlt
    omega
  obtain ⟨hL, hbytes⟩ := storedPoints_flatten hlen hcount hc
  obtain ⟨-, hdepth⟩ : _ ∧ _ := Bool.and_eq_true_iff.1 hfit
  rw [← hqc]
  refine memRead_eq fun b hb => ?_
  rw [hqc] at hb
  have hrow : j * pointSize (r.setup.get .acqMode) + pointSize (r.setup.get .acqMode) ≤
      r.plan.points * pointSize (r.setup.get .acqMode) := by
    rw [← Nat.succ_mul]; exact Nat.mul_le_mul_right _ hjlt
  have hi : j * pointSize (r.setup.get .acqMode) + b < (storedPoints r c).flatten.length := by
    rw [hL, segmentBytes]; omega
  rw [pointAddress_point, Nat.add_assoc, writeSegment, memGet_writeChannels_inside hw (mem_enabledChans.2 hc)
    (enabledChans_nodup _) hi fun d hd hdc => ?_]
  · exact Option.some_injective _ ((List.getElem?_eq_getElem hi).symm.trans ((hbytes j q hj b hb).trans
      (List.getElem?_eq_getElem (by rw [hqc]; exact hb))))
  · have hLd := (storedPoints_flatten hlen hcount (mem_enabledChans.1 hd)).1
    have hapart := regions_apart (slot := r.slot) (rb := rb) (points := r.plan.points) (of_decide_eq_true hdepth) hd hdc
    omega

omit hfit in
/-- Every other byte reads as before. -/
theorem memGet_writeSegment_outside {x : Nat} (hx : ∀ c j b, r.setup.get (.chOn c) = 1 → j < r.plan.points →
      b < pointSize (r.setup.get .acqMode) → x ≠ pointAddress r.slot rb r.setup c r.segment j + b) :
    memGet (writeSegment rb r mem) x = memGet mem x := by
  refine memGet_writeChannels_outside hw fun c hc => ?_
  have hon := mem_enabledChans.1 hc
  rw [(storedPoints_flatten hlen hcount hon).1]
  by_contra hin
  have hlo : pointAddress r.slot rb r.setup c r.segment 0 ≤ x := by omega
  obtain ⟨i, rfl⟩ := Nat.exists_eq_add_of_le hlo
  have hi : i < r.plan.points * pointSize (r.setup.get .acqMode) := by
    rw [segmentBytes] at hin; omega
  have hpos : 0 < pointSize (r.setup.get .acqMode) := by
    by_contra h0
    rw [Nat.eq_zero_of_not_pos h0, Nat.mul_zero] at hi
    exact absurd hi (Nat.not_lt_zero i)
  refine hx c (i / pointSize (r.setup.get .acqMode)) (i % pointSize (r.setup.get .acqMode)) hon
    (Nat.div_lt_of_lt_mul (by rwa [Nat.mul_comm] at hi)) (Nat.mod_lt _ hpos) ?_
  rw [pointAddress_point r.slot rb r.setup c r.segment (i / _), Nat.add_assoc, Nat.div_add_mod']

end Written

end Sys2Proof.Machine
end

section
/-! PROOFS. The last bin of a segment (R92, R93): the entry in the record's header, and what the sequencer goes on to. -/

namespace Sys2Proof.Machine

/-! ### The FILLING slot of a number -/

/-- The FILLING slots of this number replaced. -/
def changeFilling (number : Word) (f : Header → Slot) (slots : List Slot) : List Slot :=
  slots.map (fun sl => match sl with
    | .filling h => if h.number = number then f h else sl
    | other => other)

theorem changeFilling_changeFilling (number : Word) {f : Header → Header} (g : Header → Slot) (hf : ∀ h, (f h).number = h.number)
    (slots : List Slot) : changeFilling number g (changeFilling number (fun h => .filling (f h)) slots) =
      changeFilling number (fun h => g (f h)) slots := by
  rw [changeFilling, changeFilling, List.map_map]
  refine List.map_congr_left fun sl _ => ?_
  cases sl with
  | filling h => by_cases hn : h.number = number <;> simp [hn, hf]
  | free | complete => rfl

theorem changeFilling_eq_set {slots : List Slot} {k : Nat} {h : Header} (hd : (slots.filterMap slotNumber).Nodup)
    (hk : slots[k]? = some (.filling h)) (f : Header → Slot) : changeFilling h.number f slots = slots.set k (f h) := by
  refine List.ext_getElem? fun i => ?_
  rw [changeFilling, List.getElem?_map, List.getElem?_set]
  by_cases hi : k = i
  · subst hi
    obtain ⟨hlt, -⟩ := List.getElem?_eq_some_iff.1 hk
    rw [if_pos rfl, if_pos hlt, hk]
    exact congrArg some (if_pos rfl)
  · rw [if_neg hi]
    cases hs : slots[i]? with
    | none => rfl
    | some sl =>
      refine congrArg some ?_
      cases sl with
      | filling x =>
        refine if_neg fun hn => hi ?_
        exact slot_eq_of_number hd hk hs rfl (congrArg some hn)
      | free | complete => rfl

/-- The header of a FILLING record with one more segment (R77, R89, R92). -/
def entryHeader (t : Trigger) (marks : PerChan Bool) (h : Header) : Header :=
  { h with segments := h.segments ++ [segmentEntryOf t], completed := h.completed + 1, clip := addMarks h.clip marks }

theorem segmentEntry_slots (number : Word) (t : Trigger) (marks : PerChan Bool) (st : RecordStore) :
    segmentEntry number (segmentEntryOf t) marks st =
      { st with slots := changeFilling number (fun h => .filling (entryHeader t marks h)) st.slots } := rfl

theorem slotsAfterClose_eq (number : Word) (completed : Nat) (sub : PerLink Bool) (slots : List Slot) :
    slotsAfterClose number completed sub slots = changeFilling number (slotAfterClose completed sub) slots := rfl

/-! ### The segment handed to the Record Store -/

/-- The record with its segment completed, in hand while the sequencer goes on. -/
def segmentDone (r : Record) : Record := { r with completed := r.completed + 1 }

/-- The state with the segment stored and entered in the record's header. -/
def segmentStored (r : Record) (t : Trigger) (s : State) : State :=
  setCurrent (some (segmentDone r)) (s.withStore { s.store with
    slots := changeFilling r.number (fun h => .filling (entryHeader t r.marks h)) s.store.slots
    mem := writeSegment s.store.recordBytes r s.store.mem })

section Complete
variable {r : Record} {t : Trigger} {s : State}

theorem completeSegment_stop (h : s.seq.stopPending = true) :
    completeSegment r t s = closeRecord enterIdle (segmentStored r t s) := if_pos h

theorem completeSegment_segment (h : s.seq.stopPending = false) (hseg : r.segment + 1 < r.plan.segments) :
    completeSegment r t s = segmentStart (setCurrent (some { segmentDone r with segment := r.segment + 1 }) (segmentStored r t s)) :=
  (if_neg (by simp [h])).trans (if_pos hseg)

theorem completeSegment_next (h : s.seq.stopPending = false) (hseg : r.plan.segments ≤ r.segment + 1) (hrun : s.seq.run = .running) :
    completeSegment r t s = closeRecord requestSlot (segmentStored r t s) :=
  (if_neg (by simp [h])).trans ((if_neg (not_lt.2 hseg)).trans (if_pos hrun))

theorem completeSegment_ends (hseg : s.seq.stopPending = true ∨ r.plan.segments ≤ r.segment + 1)
    (hrun : s.seq.stopPending = true ∨ s.seq.run ≠ .running) :
    completeSegment r t s = closeRecord enterIdle (segmentStored r t s) := by
  cases h : s.seq.stopPending with
  | true => exact completeSegment_stop h
  | false =>
    have hno : ¬s.seq.stopPending = true := by simp [h]
    exact (if_neg hno).trans ((if_neg (not_lt.2 (hseg.resolve_left hno))).trans (if_neg (hrun.resolve_left hno)))

theorem completeSegment_mem : (completeSegment r t s).store.mem = writeSegment s.store.recordBytes r s.store.mem := by
  have hkept (u : State) (h : kept u = kept (segmentStored r t s)) :
      u.store.mem = writeSegment s.store.recordBytes r s.store.mem := congrArg Kept.mem h
  unfold completeSegment
  dsimp only
  split
  · exact hkept _ (kept_closeRecord kept_enterIdle _)
  · split
    · exact hkept _ (kept_segmentStart _)
    · split
      · exact hkept _ (kept_closeRecord kept_requestSlot _)
      · exact hkept _ (kept_closeRecord kept_enterIdle _)

end Complete

/-! ### A record that closes with its last segment -/

section Closing
variable {r : Record} {t : Trigger} {k : Nat} {h : Header} {s : State} (hk : s.store.slots[k]? = some (.filling h))
  (hnum : h.number = r.number) (hd : numbersDistinct s)

/-- The record's close, before the offer. -/
def segmentClosed (r : Record) (t : Trigger) (s : State) : State := countedOn (recordClosed (segmentDone r) (segmentStored r t s))

include hk hnum hd

theorem segmentStored_slots : (segmentStored r t s).store.slots = s.store.slots.set k (.filling (entryHeader t r.marks h)) := by
  have := changeFilling_eq_set hd hk (fun h => .filling (entryHeader t r.marks h))
  rw [hnum] at this
  exact this

theorem segmentClosed_slots : (segmentClosed r t s).store.slots =
    s.store.slots.set k (slotAfterClose (r.completed + 1) s.store.sub (entryHeader t r.marks h)) := by
  have hslots := changeFilling_eq_set hd hk (fun h => slotAfterClose (r.completed + 1) s.store.sub (entryHeader t r.marks h))
  rw [hnum] at hslots
  change (closeSlot r.number (r.completed + 1) (segmentStored r t s).store).slots = _
  rw [closeSlot_slots, slotsAfterClose_eq, ← hslots]
  exact changeFilling_changeFilling r.number (f := entryHeader t r.marks) _ (fun _ => rfl) _

theorem isFilling_segmentStored : isFilling r.number (segmentStored r t s).store = true := by
  rw [isFilling, segmentStored_slots hk hnum hd, List.any_eq_true]
  obtain ⟨hlt, -⟩ := List.getElem?_eq_some_iff.1 hk
  refine ⟨.filling (entryHeader t r.marks h), List.mem_of_getElem? (i := k) (by rw [List.getElem?_set, if_pos rfl, if_pos hlt]), ?_⟩
  exact beq_iff_eq.2 hnum

theorem closeRecord_segmentStored (next : State → State) :
    closeRecord next (segmentStored r t s) = takeAll [offer, next] (segmentClosed r t s) :=
  closeRecord_offers (r := segmentDone r) rfl (isFilling_segmentStored hk hnum hd) (Nat.succ_ne_zero _)

theorem drawing_segmentClosed : drawing (segmentClosed r t s) = drawing (withSlots
    (s.store.slots.set k (slotAfterClose (r.completed + 1) s.store.sub (entryHeader t r.marks h))) s) :=
  drawing_eq_iff.2 ⟨rfl, segmentClosed_slots hk hnum hd, rfl, rfl, rfl, rfl, rfl⟩

omit hk hnum hd in
/-- Whatever draws and whatever comes next, the completion is counted once. -/
theorem closeCounted_segmentClosed {next : State → State} (hnext : ∀ u, u.seq.standbyStop = false →
      noticesOf (next u) = noticesOf u ∧ aside (next u) = aside u) (hstop : s.seq.standbyStop = false) :
    closeCounted (r.completed + 1) s (takeAll [offer, next] (segmentClosed r t s)) := by
  have hkeep : ∀ u, (noticesOf u = noticesOf (segmentClosed r t s) ∧ u.seq.standbyStop = false) →
      noticesOf (next u) = noticesOf (segmentClosed r t s) ∧ (next u).seq.standbyStop = false := fun u hu =>
    ⟨(hnext u hu.2).1.trans hu.1, (aside_stop (hnext u hu.2).2).trans hu.2⟩
  have hdone : noticesOf (takeAll [offer, next] (segmentClosed r t s)) = noticesOf (segmentClosed r t s) ∧
      (takeAll [offer, next] (segmentClosed r t s)).seq.standbyStop = false := by
    refine takeAll_keeps (P := fun u => noticesOf u = noticesOf (segmentClosed r t s) ∧ u.seq.standbyStop = false)
      (fun u x hu => hu) (fun u hu => ⟨(noticesKept_startDraw _ u).trans hu.1, (aside_stop (aside_settleDraw u)).trans hu.2⟩) _
      (fun act ha u hu => ?_) _ ⟨rfl, hstop⟩
    rcases List.mem_pair.1 ha with rfl | rfl
    · exact ⟨(noticesKept_askDraw u).trans hu.1, (aside_stop (aside_askDraw u)).trans hu.2⟩
    · exact hkeep u hu
  obtain ⟨hn, hl⟩ := Prod.ext_iff.1 hdone.1
  exact closeCounted_countedOn (Nat.succ_ne_zero _) hn hl

end Closing

theorem noticesKept_enterIdle {s : State} (h : s.seq.standbyStop = false) : noticesOf (enterIdle s) = noticesOf s := by
  obtain ⟨lit, he⟩ := enterIdle_eq h
  rw [he]; rfl

theorem requestSlot_raster (s : State) : (requestSlot s).raster = s.raster := by
  unfold requestSlot
  split
  · next n _ =>
    obtain ⟨lit, he⟩ := grantSlot_eq n s
    rw [he]; rfl
  · obtain ⟨lit, he⟩ := setCap_eq .waitSlot (s.withStore { s.store with held := true })
    rw [he]; rfl

/-- Settles O49: the last bin is `completeSegment`, whose memory, slot, notices and next step the lemmas above give. -/
theorem lastBinCompletesSegment : Obligations.LastBinCompletesSegment := by
  intro r t0 p k h s hr hcap htrig hlast hpeace hheld hp hk hnum hslot hd hcomp h1 t
  obtain ⟨-, hstop⟩ := hpeace
  obtain rfl := closedPoints_eq hp
  have ht : t = completeSegment (binClosed r.before (closedPoints r :: r.after) r) t0 s :=
    closeBin_completes hr hcap htrig hlast
  have hh1 : h1 = entryHeader t0 r.marks h := rfl
  clear_value t h1
  subst ht hh1
  generalize hr' : binClosed r.before (closedPoints r :: r.after) r = r'
  have hnum' : h.number = r'.number := by rw [hnum, ← hr']; rfl
  have hmarks : r'.marks = r.marks := by rw [← hr']; rfl
  have hcomp' : r'.completed = r.completed := by rw [← hr']; rfl
  refine ⟨fun hw hfit hlen hcount => ?memory, fun hno hseg => ?segment, fun hseg => ⟨fun hend => ?ends, fun hno hrun => ?next, ?counted⟩⟩
  case memory =>
    have hsize : (if r.setup.get .acqMode = 0 then 1 else 2) = pointSize (r'.setup.get .acqMode) := by rw [← hr']; rfl
    have hlen' : ∀ q ∈ r'.before ++ r'.after, ∀ c, r'.setup.get (.chOn c) = 1 →
        (q.get c).length = pointSize (r'.setup.get .acqMode) := by
      rw [← hr']; exact hlen
    have hcount' : r'.before.length + r'.after.length = r'.plan.points := by
      rw [← hr']; exact (Nat.add_assoc _ _ _).symm.trans hcount
    have hfit' : regionFits r'.slot s.store.recordBytes r'.setup r'.segment r'.plan.points = true := by
      rw [← hr']; exact hslot ▸ hfit
    rw [completeSegment_mem, hsize, ← hslot]
    refine ⟨fun c hc j q hj hlt => ?_, fun a ha => ?_⟩
    · have := memRead_writeSegment (rb := s.store.recordBytes) hlen' hcount' hw hfit' (c := c) (j := j) (q := q)
        (by rw [← hr']; exact hc) (by rw [← hr']; exact hj)
      rw [← hr'] at this ⊢
      exact this
    · refine memGet_writeSegment_outside hlen' hcount' hw fun c j b hc hj hb => ?_
      rw [← hr'] at hc hj ⊢
      exact ha c j b hc hj hb
  case segment =>
    rw [completeSegment_segment hno (by rw [← hr']; exact hseg)]
    obtain ⟨lit, he⟩ := segmentStart_eq (s := setCurrent (some { segmentDone r' with segment := r'.segment + 1 })
      (segmentStored r' t0 s)) rfl
    obtain ⟨a, tr, hcur, -, hpre, harm, -⟩ := begunSeq_current s.setup.live
      { segmentDone r' with segment := r'.segment + 1 } { s.seq with
        current := some { segmentDone r' with segment := r'.segment + 1 } }
    rw [he, ← hmarks]
    refine ⟨segmentStored_slots hk hnum' hd, _, hcur, ?_, ?_, segmentBegun_begunRecord .., ?_, ?_, ?_, ?_, ?_, ?_, ?_⟩
    iterate 7 (rw [← hr']; rfl)
    · exact fun hT => hpre (by rw [← hr']; exact hT)
    · exact fun hT hf => (harm (by rw [← hr']; exact hT) hf).imp_right And.left
  case ends =>
    rw [completeSegment_ends (by rw [← hr']; exact hseg) hend, closeRecord_segmentStored hk hnum' hd, ← hmarks, ← hcomp']
    obtain ⟨u, hu, hdone⟩ := takeAll_offer_idle (c := segmentClosed r' t0 s) hheld hstop
    obtain ⟨lit, he⟩ := enterIdle_eq (s := u) (by rw [hu.seq]; exact hstop)
    have hseqidle : (takeAll [offer, enterIdle] (segmentClosed r' t0 s)).seq = idleSeq u.seq := by
      rw [hdone.seq, he]; rfl
    refine ⟨fun hc => drawnAs_of_drawing ?_, ?_, ?_⟩
    · exact (drawing_takeAll_idle (c := segmentClosed r' t0 s) hc).trans
        (drawing_selectDraw (drawing_segmentClosed hk hnum' hd))
    · rw [hdone.slots, ← segmentClosed_slots (t := t0) hk hnum' hd, ← hu.slots, he]; rfl
    · rw [hseqidle]; exact ⟨rfl, rfl, rfl⟩
  case next =>
    have hmore : r'.plan.segments ≤ r'.segment + 1 := by
      rw [← hr']; exact hseg.resolve_left (by simp [hno])
    rw [completeSegment_next hno hmore hrun, closeRecord_segmentStored hk hnum' hd, ← hmarks, ← hcomp']
    have hasked : RecordAsked s (takeAll [offer, requestSlot] (segmentClosed r' t0 s)) :=
      takeAll_offer_asks (c := segmentClosed r' t0 s) hheld rfl rfl rfl fun _ _ => rfl
    refine ⟨fun hc u hu => ?_, hasked.run.trans hrun, hasked.asked.imp (fun hw => ⟨hw.1, hw.2.1⟩) fun hs => ?_⟩
    · have hu' : drawing (segmentClosed r' t0 s) = drawing u := hu ▸ drawing_segmentClosed hk hnum' hd
      exact (drawing_takeAll_offer (next := requestSlot) (fun _ _ h => drawing_requestSlot h)
        (fun v => congrArg RasterEngine.chosen (requestSlot_raster v)) (s := segmentClosed r' t0 s) hc).imp
          (fun h => drawnAs_of_drawing (h.trans (drawing_requestSlot (drawing_selectDraw hu'))))
          (Or.imp (fun h => drawnAs_of_drawing (h.trans (drawing_settleDraw (drawing_requestSlot (drawing_askDraw hu')))))
            fun h => drawnAs_of_drawing (h.trans (drawing_selectDraw (drawing_requestSlot hu'))))
    · obtain ⟨-, r1, hcur, hn, -, -, hseg1, hcomp1⟩ := hs
      exact ⟨r1, hcur, hn, hseg1, hcomp1⟩
  case counted =>
    by_cases hend : s.seq.stopPending = true ∨ s.seq.run ≠ .running
    · rw [completeSegment_ends (by rw [← hr']; exact hseg) hend, closeRecord_segmentStored hk hnum' hd, ← hcomp']
      exact closeCounted_segmentClosed (fun u hu => ⟨noticesKept_enterIdle hu, aside_enterIdle hu⟩) hstop
    · have hno : s.seq.stopPending = false := Bool.eq_false_iff.2 fun h => hend (.inl h)
      have hmore : r'.plan.segments ≤ r'.segment + 1 := by
        rw [← hr']; exact hseg.resolve_left (by simp [hno])
      rw [completeSegment_next hno hmore (not_not.1 fun h => hend (.inr h)), closeRecord_segmentStored hk hnum' hd, ← hcomp']
      exact closeCounted_segmentClosed (fun u _ => ⟨noticesKept_requestSlot u, aside_requestSlot u⟩) hstop

end Sys2Proof.Machine
end

section
/-! PROOFS. A legal setup needs no adjustment (R13, R14, R16), and the commit of VIEW.PAN 500 at a run start (R23). -/

namespace Sys2Proof.Machine

section Legal
variable {st : Setup} (h : setupLegal st = true)
include h

theorem offsets_of_legal (c : Chan) : -offsetBound (st.get (.chScale c)) ≤ st.get (.chOffset c) ∧
    st.get (.chOffset c) ≤ offsetBound (st.get (.chScale c)) := by
  simp only [setupLegal, Bool.and_eq_true, offsetsLegal, List.all_eq_true, decide_eq_true_eq] at h
  exact h.1.1.1.1.2 c (by cases c <;> simp [Config.chans])

theorem source_on_of_legal : st.get (.chOn (sourceChan st)) = 1 := by
  simp only [setupLegal, Bool.and_eq_true, beq_iff_eq] at h
  exact h.1.1.2

theorem enabled_of_legal : enabledChans st ≠ [] := by
  simp only [setupLegal, Bool.and_eq_true, Bool.not_eq_true', List.isEmpty_eq_false_iff] at h
  exact h.1.1.1.2

theorem slope_of_legal : slopeLegal st = true := by
  simp only [setupLegal, Bool.and_eq_true] at h
  exact h.1.1.1.1.1.2

theorem levels_of_legal : ((levelRange st).1 ≤ st.get .trigLevel ∧ st.get .trigLevel ≤ (levelRange st).2) ∧
    ((levelRange st).1 ≤ st.get .trigUpper ∧ st.get .trigUpper ≤ (levelRange st).2) ∧
    (st.get .trigType = 0 ∨ st.get .trigLevel ≤ st.get .trigUpper) := by
  simp only [setupLegal, Bool.and_eq_true, levelsLegal, Bool.or_eq_true, decide_eq_true_eq] at h
  obtain ⟨⟨-, ⟨⟨⟨h1, h2⟩, h3⟩, h4⟩, h5⟩, -⟩ := h
  exact ⟨⟨h1, h2⟩, ⟨h3, h4⟩, h5⟩

theorem memory_of_legal : depthSamples (st.get .acqDepth) * (enabledChans st).length ≤ Config.maxRecordSamples ∧
    1024 * 2 ^ (st.get .acqSegments).toNat ≤ depthSamples (st.get .acqDepth) := by
  simp only [setupLegal, Bool.and_eq_true, memoryLegal, decide_eq_true_eq] at h
  exact h.2

/-- The five adjustments leave a legal setup as it is. -/
theorem adjustAll_of_legal : adjustAll st = st := by
  have hadj := adjusted_adjustAll st
  have hplain := hadj.other
  have hsource : (adjustAll st).get .trigSource = st.get .trigSource := hadj.source.trans (if_pos (source_on_of_legal h))
  have hscale (c : Chan) : (adjustAll st).get (.chScale c) = st.get (.chScale c) := hplain _ (by simp) (by simp)
  have hoffset (c : Chan) : (adjustAll st).get (.chOffset c) = st.get (.chOffset c) := by
    rw [hadj.offset c, hscale c]
    exact clampInt_of_mem (offsets_of_legal h c).1 (offsets_of_legal h c).2
  have hrange : levelRange (adjustAll st) = levelRange st := levelRange_congr hsource hscale hoffset
  obtain ⟨⟨hl1, hl2⟩, ⟨hu1, hu2⟩, horder⟩ := levels_of_legal h
  have hlevel := clampInt_of_mem hl1 hl2
  have hupper := clampInt_of_mem hu1 hu2
  obtain ⟨hfits, hsegs⟩ := memory_of_legal h
  have hd := inCatalogue_of_legal h .acqDepth
  have hs := inCatalogue_of_legal h .acqSegments
  simp only [inCatalogue, handling, Bool.and_eq_true, decide_eq_true_eq] at hd hs
  have hdepth : (adjustAll st).get .acqDepth = st.get .acqDepth := by
    rw [hadj.depth, hadj.enabled]
    have hfit : fitDepth (enabledChans st).length (st.get .acqDepth).toNat = (st.get .acqDepth).toNat := by
      refine le_antisymm (fitDepth_le _ _) (not_lt.1 fun hlt => ?_)
      exact absurd hfits (not_le.2 (fitDepth_max hlt le_rfl))
    rw [hfit]
    omega
  refine Setup.ext_get fun f => ?_
  by_cases hf : (∀ c, f ≠ .chOffset c) ∧ f ∉ [Field.trigSource, .trigLevel, .trigUpper, .acqDepth, .acqSegments]
  · exact hplain f hf.1 hf.2
  · by_cases ho : ∃ c, f = .chOffset c
    · obtain ⟨c, rfl⟩ := ho
      exact hoffset c
    · have hmem : f ∈ [Field.trigSource, .trigLevel, .trigUpper, .acqDepth, .acqSegments] := by
        by_contra hn
        exact hf ⟨fun c hc => ho ⟨c, hc⟩, hn⟩
      simp only [List.mem_cons, List.not_mem_nil, or_false] at hmem
      rcases hmem with rfl | rfl | rfl | rfl | rfl
      · exact hsource
      · rw [hadj.level, hrange, hlevel]
      · rw [hadj.upper, hrange, hlevel, hupper]
        exact if_neg fun hn => absurd hn.2 (not_lt.2 (horder.resolve_left (by rw [hn.1]; decide)))
      · exact hdepth
      · rw [hadj.segments, hdepth]
        refine min_eq_left ?_
        have hpow : 2 ^ (st.get .acqSegments).toNat ≤ 2 ^ (2 * (st.get .acqDepth).toNat) := by
          rw [pow_mul]
          exact Nat.le_of_mul_le_mul_left hsegs (by decide)
        have := (Nat.pow_le_pow_iff_right (by decide)).1 hpow
        omega

/-- A field that no rule ties to another can be put at any value of its catalogue range. -/
theorem legal_put_viewPan : setupLegal (st.put .viewPan 500) = true := by
  have hother {f : Field} (hf : f ≠ .viewPan) : (st.put .viewPan 500).get f = st.get f := Setup.get_put_other _ _ hf
  have hen : enabledChans (st.put .viewPan 500) = enabledChans st := enabledChans_congr fun _ => hother (by simp)
  have hsrc : sourceChan (st.put .viewPan 500) = sourceChan st := by simp only [sourceChan, hother (f := .trigSource) (by simp)]
  have hall : ∀ f ∈ allFields, inCatalogue f ((st.put .viewPan 500).get f) = true := by
    intro f hf
    by_cases hp : f = .viewPan
    · subst hp
      rw [Setup.get_put_same]
      decide
    · rw [hother hp]
      exact inCatalogue_of_legal h f
  have hrange : levelRange (st.put .viewPan 500) = levelRange st :=
    levelRange_congr (hother (by simp)) (fun _ => hother (by simp)) (fun _ => hother (by simp))
  have hparts : slopeLegal (st.put .viewPan 500) = slopeLegal st ∧ offsetsLegal (st.put .viewPan 500) = offsetsLegal st ∧
      levelsLegal (st.put .viewPan 500) = levelsLegal st ∧ memoryLegal (st.put .viewPan 500) = memoryLegal st := by
    simp only [slopeLegal, offsetsLegal, levelsLegal, memoryLegal, hrange, hen, hother, ne_eq, reduceCtorEq, not_false_eq_true,
      and_self]
  obtain ⟨h1, h2, h3, h4⟩ := hparts
  have hl := h
  simp only [setupLegal, Bool.and_eq_true, List.all_eq_true] at hl ⊢
  rw [h1, h2, h3, h4, hen, hsrc, hother (by simp)]
  exact ⟨⟨⟨⟨⟨⟨hall, hl.1.1.1.1.1.2⟩, hl.1.1.1.1.2⟩, hl.1.1.1.2⟩, hl.1.1.2⟩, hl.1.2⟩, hl.2⟩

/-- The SYSTEM commit of a run start is of the setup with VIEW.PAN 500. -/
theorem judge_viewPan : judge st none [(.viewPan, 500)] = .candidate (st.put .viewPan 500) := by
  have hoff (f : Field) : offends st [(.viewPan, 500)] f = false := by
    have hslope : (legalSlopes (st.get .trigType)).contains (st.get .trigSlope) = true := slope_of_legal h
    have hreq {g : Field} (hg : g ≠ .viewPan) : requested [(.viewPan, 500)] g = none := by
      simp [requested, Ne.symm hg]
    unfold offends
    rw [hreq (g := .trigType) (by simp), hreq (g := .trigSlope) (by simp), Option.getD_none, Option.getD_none, hslope,
      Bool.not_true, Bool.and_false, Bool.or_false]
    by_cases hf : f = .viewPan
    · subst hf; rfl
    · rw [hreq hf]
  have hnone : firstOffence st [(.viewPan, 500)] = none := by simp [firstOffence, List.find?_eq_none, hoff]
  have hbuilt : buildCandidate st none [(.viewPan, 500)] = st.put .viewPan 500 := rfl
  have hleg := legal_put_viewPan h
  unfold judge
  rw [hnone, hbuilt]
  dsimp only
  rw [adjustAll_of_legal hleg, if_neg (enabled_of_legal hleg)]

end Legal

end Sys2Proof.Machine
end

section
/-! PROOFS. Run control (R23, R91, R94 to R97, R106, R114, R125): ACQ.RUN, SINGLE, STOP and FORCE by the run and capture state. -/

namespace Sys2Proof.Machine

/-! ### A record closed with the sequencer going to IDLE -/

section CloseIdle
variable {r : Record} {s : State}

theorem closeCounted_of_noticesOf {completed : Nat} {s t u : State} (h : closeCounted completed s t)
    (hn : noticesOf u = noticesOf t) : closeCounted completed s u := by
  obtain ⟨hnotice, hlinks⟩ := Prod.ext_iff.1 hn
  intro l
  have hnotice' : u.store.notice = t.store.notice := hnotice
  have hlinks' : u.links = t.links := hlinks
  rw [hnotice', hlinks']
  exact h l

theorem noticesOf_drawnOnly {s t : State} (h : DrawnOnly s t) : noticesOf t = noticesOf s :=
  Prod.ext ((congrArg RecordStore.notice h.store).trans rfl) h.links

variable (hheld : s.store.held = false) (hstop : s.seq.standbyStop = false)
include hheld hstop

/-- The sequencer is in IDLE whatever the close finds. -/
theorem closeRecord_enterIdle_seq : (closeRecord enterIdle s).seq = idleSeq s.seq := by
  have hdirect (c : State) (hc : c.seq.standbyStop = false) (hq : idleSeq c.seq = idleSeq s.seq) :
      (enterIdle c).seq = idleSeq s.seq := by
    obtain ⟨lit, he⟩ := enterIdle_eq hc
    rw [he]; exact hq
  cases hr : s.seq.current with
  | none => rw [closeRecord_none hr]; exact hdirect s hstop rfl
  | some r =>
    cases hf : isFilling r.number s.store with
    | false => rw [closeRecord_unknown hr hf]; exact hdirect (recordClosed r s) hstop rfl
    | true =>
      by_cases h0 : r.completed = 0
      · rw [closeRecord_freed hr h0]; exact hdirect (recordClosed r s) hstop rfl
      · rw [closeRecord_offers hr hf h0]
        obtain ⟨u, hu, hdone⟩ := takeAll_offer_idle (c := countedOn (recordClosed r s)) hheld hstop
        rw [hdone.seq]
        exact hdirect u (by rw [hu.seq]; exact hstop) (by rw [hu.seq]; rfl)

variable (hr : s.seq.current = some r) (hfill : isFilling r.number s.store = true)
include hr hfill

/-- Its slot is closed and the completion counted; what is drawn meanwhile stands aside. -/
theorem closeRecord_enterIdle_drawn : ∃ c u, c.store = { s.store with
      slots := slotsAfterClose r.number r.completed s.store.sub s.store.slots, notice := c.store.notice } ∧
    c.raster = s.raster ∧ c.seq.standbyStop = false ∧ closeCounted r.completed s c ∧ DrawnOnly c u ∧
    DrawnOnly (enterIdle u) (closeRecord enterIdle s) := by
  have hslots : (recordClosed r s).store = { s.store with
      slots := slotsAfterClose r.number r.completed s.store.sub s.store.slots } := closeSlot_slots ..
  by_cases h0 : r.completed = 0
  · refine ⟨recordClosed r s, recordClosed r s, ?_, rfl, hstop, ?_, .refl _, by rw [closeRecord_freed hr h0]; exact .refl _⟩
    · rw [hslots]
    · rw [h0]; exact closeCounted_zero (by rw [hslots]) rfl
  · obtain ⟨u, hu, hdone⟩ := takeAll_offer_idle (c := countedOn (recordClosed r s)) hheld hstop
    refine ⟨countedOn (recordClosed r s), u, ?_, rfl, hstop, closeCounted_countedOn h0 rfl rfl, hu, ?_⟩
    · refine Eq.trans (b := { (recordClosed r s).store with notice := noticesCounted s.store.notice }) rfl ?_
      rw [hslots]
      rfl
    · rw [closeRecord_offers hr hfill h0]; exact hdone

omit hheld hstop in
/-- With no record named, it is drawn as by the selection that the offer makes. -/
theorem closeRecord_enterIdle_drawing (h0 : r.completed ≠ 0) (hc : s.raster.chosen = none) :
    drawing (closeRecord enterIdle s) = drawing (selectDraw (withSlots
      (slotsAfterClose r.number r.completed s.store.sub s.store.slots) s)) := by
  rw [closeRecord_offers hr hfill h0, drawing_takeAll_idle (c := countedOn (recordClosed r s)) hc]
  refine drawing_selectDraw (drawing_eq_iff.2 ⟨rfl, ?_, rfl, rfl, rfl, rfl, rfl⟩)
  have hslots := congrArg RecordStore.slots (closeSlot_slots r.number r.completed s.store)
  exact hslots

end CloseIdle

/-! ### ACQ.STOP (R95) -/

/-- ACQ.STOP has its effect by the capture state. -/
theorem runStopped_acqStop {s : State} (hstop : s.seq.standbyStop = false) : runStopped s (acqStop s) := by
  have hclose (hcap : s.seq.cap = .prefill ∨ s.seq.cap = .armed) : acqStop s = closeRecord enterIdle (abandonSegment s) := by
    rcases hcap with h | h <;> rw [acqStop, h]
  have hwait (hcap : s.seq.cap = .waitSlot) : ∃ lit, acqStop s =
      litTo lit ((s.withStore { s.store with held := false }).withSeq (idleSeq s.seq)) := by
    obtain ⟨lit, he⟩ := enterIdle_eq (s := s.withStore { s.store with held := false }) hstop
    exact ⟨lit, by rw [acqStop, hcap]; exact he⟩
  have haside : aside (acqStop s) = aside s := aside_acqStop hstop
  refine ⟨fun h => ?_, fun h => ?_, fun h => ?_, fun h hheld => ?_, fun r hcap hr hheld hfill => ?_, aside_setup haside,
    aside_queues haside, aside_saved haside, aside_power haside⟩
  · rw [acqStop, h]; exact ⟨rfl, rfl, rfl⟩
  · rw [acqStop, h]; exact ⟨rfl, rfl, rfl⟩
  · obtain ⟨lit, he⟩ := hwait h
    rw [he]; exact ⟨rfl, rfl⟩
  · rcases h with h | h
    · obtain ⟨lit, he⟩ := hwait h
      rw [he]; rfl
    · rw [hclose h, closeRecord_enterIdle_seq (s := abandonSegment s)
        (hheld.resolve_right (by rcases h with h | h <;> simp [h])) hstop]
      rfl
  · rw [hclose hcap]
    have hr' : (abandonSegment s).seq.current = some r := hr
    obtain ⟨c, u, hcs, hcr, hcstop, hcount, hu, hdone⟩ :=
      closeRecord_enterIdle_drawn (s := abandonSegment s) hheld hstop hr' hfill
    obtain ⟨lit, he⟩ := enterIdle_eq (s := u) (by rw [hu.seq]; exact hcstop)
    have hslots : c.store.slots = slotsAfterClose r.number r.completed s.store.sub s.store.slots := by rw [hcs]; rfl
    have hrasterIdle : (enterIdle u).raster = u.raster := by rw [he]; rfl
    have hstoreIdle : (enterIdle u).store = u.store := by rw [he]; rfl
    refine ⟨?_, fun h => ?_, fun hch h0 => ?_, fun hch h0 => drawnAs_of_drawing ?_, ?_, ?_⟩
    · rw [hdone.slots, hstoreIdle, hu.slots, hslots]
    · rcases h with h | h
      · obtain ⟨hs1, he1⟩ := hu.busy (by rw [hcr]; exact h)
        rw [(hdone.busy (by rw [hrasterIdle, he1, hcr]; exact h)).1, hstoreIdle, hs1, hslots]
      · rw [closeRecord_freed hr' h]
        obtain ⟨lit', he'⟩ := enterIdle_eq (s := recordClosed r (abandonSegment s)) hstop
        rw [he']
        exact congrArg RecordStore.slots (closeSlot_slots ..)
    · rw [closeRecord_freed hr' h0]
      obtain ⟨lit', he'⟩ := enterIdle_eq (s := recordClosed r (abandonSegment s)) hstop
      rw [he']; rfl
    · exact (closeRecord_enterIdle_drawing (s := abandonSegment s) hr' hfill h0 hch).trans (drawing_selectDraw rfl)
    · have hstore : (closeRecord enterIdle (abandonSegment s)).store =
          { c.store with slots := (closeRecord enterIdle (abandonSegment s)).store.slots } := by
        refine hdone.store.trans ?_
        rw [hstoreIdle, hu.store]
      rw [hstore, hcs]
      rfl
    · refine closeCounted_of_noticesOf (t := c) hcount ?_
      rw [noticesOf_drawnOnly hdone, noticesKept_enterIdle (by rw [hu.seq]; exact hcstop), noticesOf_drawnOnly hu]

/-! ### ACQ.FORCE (R91, R96) -/

theorem forceTaken_acqForce (s : State) : forceTaken s (acqForce s) := by
  have hrest : (acqForce s).setup = s.setup ∧ (acqForce s).store = s.store ∧ (acqForce s).raster = s.raster ∧
      (acqForce s).queues = s.queues ∧ (acqForce s).saved = s.saved ∧ (acqForce s).power = s.power := by
    unfold acqForce
    split
    · cases hr : s.seq.current with
      | none => rw [forcedTrigger, hr]; exact ⟨rfl, rfl, rfl, rfl, rfl, rfl⟩
      | some r =>
        obtain ⟨lit, he⟩ := forcedTrigger_eq hr
        rw [he]; exact ⟨rfl, rfl, rfl, rfl, rfl, rfl⟩
    · exact ⟨rfl, rfl, rfl, rfl, rfl, rfl⟩
    · exact ⟨rfl, rfl, rfl, rfl, rfl, rfl⟩
  refine ⟨fun r hcap hr => ?_, fun hcap => ?_, fun hcap => ?_, hrest⟩
  · obtain ⟨lit, he⟩ := forcedTrigger_eq hr
    rw [acqForce, hcap]
    exact (congrArg State.seq he).trans rfl
  · rw [acqForce, hcap]; rfl
  · rcases hcap with h | h | h <;> rw [acqForce, h]

/-! ### ACQ.RUN and ACQ.SINGLE (R23, R94) -/

/-- A slot request leaves IDLE, with a record in progress or the request held. -/
theorem requestSlot_started (s : State) : (requestSlot s).seq.cap ≠ .idle ∧
    ((requestSlot s).store.held = true ∨ (requestSlot s).seq.current ≠ none) := by
  unfold requestSlot
  split
  · next n _ =>
    obtain ⟨lit, he⟩ := grantSlot_eq n s
    obtain ⟨r, hr, -, -, -, -, -, -, -, -, -, -, -, hpre, harm, hforce⟩ := grantedSeq_current n s
    rw [he]
    refine ⟨?_, .inr (by change (grantedSeq n s).current ≠ none; rw [hr]; exact Option.some_ne_none r)⟩
    change (grantedSeq n s).cap ≠ .idle
    by_cases hT : (startHeader s).trigIndex = 0
    · cases hf : s.seq.forcePending with
      | false => rw [(harm hT hf).1]; decide
      | true => rw [(hforce hT hf).1]; decide
    · rw [(hpre hT).1]; decide
  · obtain ⟨lit, he⟩ := setCap_eq .waitSlot (s.withStore { s.store with held := true })
    rw [he]
    exact ⟨by change CapState.waitSlot ≠ .idle; decide, .inl rfl⟩

theorem requestSlot_run (s : State) : (requestSlot s).seq.run = s.seq.run :=
  (recordAsked_requestSlot (b := s) (u := s) rfl rfl rfl).run

/-- The SYSTEM commit at a run start, with the run state already moved: the setup has VIEW.PAN 500 and no receiver acts. -/
theorem commit_viewPan {s : State} (hrun : s.seq.run ≠ .stopped) (hl : setupLegal s.setup.live = true) :
    (commit .system [(.viewPan, 500)] s).1.setup.live = s.setup.live.put .viewPan 500 ∧
      (commit .system [(.viewPan, 500)] s).1.seq.run = s.seq.run ∧ (commit .system [(.viewPan, 500)] s).1.queues = s.queues ∧
      (commit .system [(.viewPan, 500)] s).1.store = s.store ∧ (commit .system [(.viewPan, 500)] s).1.saved = s.saved ∧
      (commit .system [(.viewPan, 500)] s).1.power = s.power := by
  have hj : judge s.setup.live (timebaseWindow s) [(.viewPan, 500)] = .candidate (s.setup.live.put .viewPan 500) := by
    rw [timebaseWindow_running hrun]; exact judge_viewPan hl
  unfold commit
  rw [hj]
  dsimp only
  by_cases he : s.setup.live.put .viewPan 500 = s.setup.live
  · rw [if_pos he]
    exact ⟨he.symm, rfl, rfl, rfl, rfl, rfl⟩
  · rw [if_neg he]
    have hsame (f : Field) (hf : f ≠ .viewPan) : s.setup.live.get f = (s.setup.live.put .viewPan 500).get f :=
      (Setup.get_put_other _ _ hf).symm
    have hnone : reactions s.setup.live (s.setup.live.put .viewPan 500) (s.setup.gen + 1#32) (decide (s.seq.run = .stopped)) = [] := by
      have hcap : (changedFields s.setup.live (s.setup.live.put .viewPan 500)).any (fun f => decide (fieldClass f = .capture)) =
          false := by
        refine List.any_eq_false.2 fun f hf => ?_
        have hne := mem_changedFields.1 hf
        by_cases hp : f = .viewPan
        · subst hp; decide
        · exact absurd (hsame f hp) hne
      have hen : enabledChans (s.setup.live.put .viewPan 500) = enabledChans s.setup.live :=
        enabledChans_congr fun _ => (hsame _ (by simp)).symm
      simp [reactions, hcap, hen, ← hsame, hrun]
    obtain ⟨lit, front, hu⟩ := handedOn_eq .system (s.setup.live.put .viewPan 500) s
    have hall : installAndHandOn .system (s.setup.live.put .viewPan 500) s = handedOn .system (s.setup.live.put .viewPan 500) s := by
      rw [installAndHandOn_eq, hnone]; rfl
    rw [hall, hu]
    exact ⟨rfl, rfl, rfl, rfl, rfl, rfl⟩

/-- ACQ.RUN and ACQ.SINGLE have their effect by the run state. -/
theorem runStarted_acqStart {target : RunState} {s : State} (ht : target ≠ .stopped) :
    runStarted target s (acqStart target s) := by
  refine ⟨fun hrun hl => ?_, fun hrun => ?_⟩
  · obtain ⟨lit, hr⟩ := setRun_eq target s
    have hstart : acqStart target s = requestSlot (commit .system [(.viewPan, 500)] (setRun target s)).1 := by
      rw [acqStart, hrun]
    obtain ⟨hlive, hcrun, hq, hst, hsv, hp⟩ := commit_viewPan (s := setRun target s)
      (by rw [hr]; exact ht) (by rw [hr]; exact hl)
    rw [hstart]
    generalize (commit .system [(.viewPan, 500)] (setRun target s)).1 = u at hlive hcrun hq hst hsv hp
    obtain ⟨hcap, hheld⟩ := requestSlot_started u
    have hk := kept_requestSlot u
    have ha := aside_requestSlot u
    rw [hr] at hlive hcrun hq hst hsv hp
    exact ⟨(requestSlot_run u).trans hcrun, hcap, hheld, (congrArg Kept.live hk).trans hlive, (aside_queues ha).trans hq,
      (congrArg Kept.mem hk).trans ((congrArg RecordStore.mem hst).trans rfl), (aside_saved ha).trans hsv,
      (aside_power ha).trans hp⟩
  · obtain ⟨lit, hr⟩ := setRun_eq target (s.withSeq { s.seq with stopPending := false })
    have hstart : acqStart target s = setRun target (s.withSeq { s.seq with stopPending := false }) := by
      unfold acqStart
      split
      · next h => exact absurd h hrun
      · rfl
    rw [hstart, hr]
    exact ⟨rfl, rfl, rfl, rfl, rfl, rfl⟩

/-! ### The links while the run control has its effect -/

theorem commit_linksKept (src : Source) (req : List (Field × Int)) {s : State} (hstop : s.seq.standbyStop = false) :
    linksKept s (commit src req s).1 := by
  unfold commit
  split
  · exact fun _ => rfl
  · exact fun _ => rfl
  · split
    · exact fun _ => rfl
    · exact installAndHandOn_linksKept src _ hstop

theorem linksKept_acqStart (target : RunState) {s : State} (hstop : s.seq.standbyStop = false) :
    linksKept s (acqStart target s) := by
  by_cases hrun : s.seq.run = .stopped
  · obtain ⟨lit, hr⟩ := setRun_eq target s
    have hlinks := commit_linksKept .system [(.viewPan, 500)] (s := setRun target s) (by rw [hr]; exact hstop)
    have hstart : acqStart target s = requestSlot (commit .system [(.viewPan, 500)] (setRun target s)).1 := by
      rw [acqStart, hrun]
    intro m
    rw [hstart, aside_linksKept (aside_requestSlot _) m, hlinks m, hr]
    rfl
  · have hlinks : (acqStart target s).links = s.links := by
      obtain ⟨lit, hr⟩ := setRun_eq target (s.withSeq { s.seq with stopPending := false })
      unfold acqStart
      split
      · next h => exact absurd h hrun
      · rw [hr]; rfl
    intro m
    rw [hlinks]

theorem acqForce_links (s : State) : (acqForce s).links = s.links := by
  unfold acqForce
  split
  · cases hr : s.seq.current with
    | none => rw [forcedTrigger, hr]
    | some r =>
      obtain ⟨lit, he⟩ := forcedTrigger_eq hr
      rw [he]; rfl
  · rfl
  · rfl


/-! ### The requests (R97) -/

section Requests
variable {l : Link} {tag kind : Byte} {s : State}

theorem runRequest_gated (status : Status) (act : State → State) (hp : ¬permitted l s) :
    runRequest l status act (working l tag kind s) = replied l tag .locked .nothing s := by
  have hg : gated l (working l tag kind s) = true := gated_eq_true.2 hp
  rw [runRequest, if_pos hg]
  exact answer_working ..

theorem runRequest_permitted (status : Status) (act : State → State) (hstop : s.seq.standbyStop = false) (hp : permitted l s) :
    runRequest l status act (working l tag kind s) =
      answer l status (acqPayload (act (working l tag kind s)).seq) (act (working l tag kind s)) := by
  have hg : gated l (working l tag kind s) = false := gated_eq_false.2 hp
  rw [runRequest, hg, if_neg Bool.false_ne_true, if_neg (by change ¬s.seq.standbyStop = true; simp [hstop])]

/-- The link holds the answer placed where the effect has kept its request in work. -/
theorem answered_of_linksKept {t : State} (status : Status) (p : Payload) (h : linksKept (working l tag kind s) t) :
    answered l tag status p (answer l status p t) := by
  refine answered_answer (kind := kind) status p ?_
  rw [h l]
  cases l <;> rfl

/-- ACQ.STOP's effect seen from before the link's request was in work, and after its answer. -/
theorem runStopped_answer {t : State} (status : Status) (p : Payload) (h : runStopped (working l tag kind s) t) :
    runStopped s (answer l status p t) := by
  obtain ⟨h1, h2, h3, h4, h5, h6⟩ := h
  refine ⟨h1, h2, h3, h4, fun r hcap hr hh hf => ?_, h6⟩
  obtain ⟨hs, hbusy, hfree, hdrawn, hstore, hcount⟩ := h5 r hcap hr hh hf
  refine ⟨hs, hbusy, hfree, fun hc h0 => ?_, hstore, fun m => ?_⟩
  · obtain ⟨hr1, hs1⟩ := hdrawn hc h0
    obtain ⟨hr2, hs2⟩ := drawnAs_of_drawing (drawing_selectDraw (s := withSlots (slotsAfterClose r.number r.completed s.store.sub
      s.store.slots) (working l tag kind s)) (t := withSlots (slotsAfterClose r.number r.completed s.store.sub s.store.slots) s) rfl)
    exact ⟨hr1.trans hr2, hs1.trans hs2⟩
  · obtain ⟨hn, hl⟩ := hcount m
    refine ⟨hn, ?_⟩
    rw [answer_notices, hl, working_notices]
    rfl

end Requests

/-- Settles O30: each request is `runRequest` of `acqStart`, `acqStop` or `acqForce`, whose effects are above. -/
theorem runControlRequests : Obligations.RunControlRequests := by
  intro l tag s ht hpeace
  obtain ⟨-, hstop⟩ := hpeace
  have hstart (kind : Byte) (hk : longKind kind = false) (target : RunState) (htar : target ≠ .stopped) :
      (¬permitted l s → request l tag kind (runRequest l .ok (acqStart target)) s = .next (replied l tag .locked .nothing s)) ∧
      (permitted l s → ∃ t, request l tag kind (runRequest l .ok (acqStart target)) s = .next t ∧ runStarted target s t ∧
        answered l tag .ok (.acq t.seq.run t.seq.cap t.seq.stopPending t.seq.forcePending) t) :=
    ⟨fun hp => request_next ht hk (runRequest_gated _ _ hp), fun hp => ⟨_, request_next ht hk
      (runRequest_permitted _ _ hstop hp), runStarted_acqStart (s := working l tag kind s) htar,
      answered_of_linksKept _ _ (linksKept_acqStart target (s := working l tag kind s) hstop)⟩⟩
  refine ⟨fun i target hi => ?start, fun hp => ?stopLocked, fun hp => ?stop, fun hp => ?forceLocked, fun hp => ?force, ?status⟩
  case start =>
    rcases hi with ⟨rfl, rfl⟩ | ⟨rfl, rfl⟩
    · exact hstart 0x30#8 rfl .running (by decide)
    · exact hstart 0x31#8 rfl .single (by decide)
  case stopLocked => exact request_next (kind := 0x32#8) ht rfl (runRequest_gated _ _ hp)
  case forceLocked => exact request_next (kind := 0x33#8) ht rfl (runRequest_gated _ _ hp)
  case stop =>
    exact ⟨_, request_next (kind := 0x32#8) ht rfl (runRequest_permitted _ _ hstop hp),
      runStopped_answer _ _ (runStopped_acqStop (s := working l tag 0x32#8 s) hstop),
      answered_of_linksKept _ _ (aside_linksKept (aside_acqStop (s := working l tag 0x32#8 s) hstop))⟩
  case force =>
    have hstatus : forceStatus s.seq.cap = if s.seq.cap = .armed ∨ s.seq.cap = .prefill then .ok else .ignored := by
      cases s.seq.cap <;> rfl
    refine ⟨_, request_next (kind := 0x33#8) ht rfl (runRequest_permitted _ _ hstop hp),
      forceTaken_acqForce (working l tag 0x33#8 s), ?_⟩
    rw [← hstatus]
    exact answered_of_linksKept _ _ (fun m => by rw [acqForce_links])
  case status =>
    exact request_next (kind := 0x34#8) ht rfl (answer_working ..)

end Sys2Proof.Machine
end

section
/-! PROOFS. Reactions taken in any order, of which one establishes what the others keep (log 5); and STANDBY entered as one step
(R166, R205, R207). -/

namespace Sys2Proof.Machine

/-! ### One reaction among others -/

/-- The next reaction is any one of those that remain. -/
theorem interleave_succ (n : Nat) {acts : List (State → State)} (s : State) (h : acts ≠ []) :
    ∃ (i : Nat) (hi : i < acts.length) (x : Races), interleave (n + 1) acts s =
      interleave n (interleave.lateStart (acts[i] (s.withRaces x)) ++ acts.eraseIdx i) (acts[i] (s.withRaces x)) := by
  match acts, h with
  | [act], _ => exact ⟨0, Nat.one_pos, s.races, by rw [List.eraseIdx_zero, List.tail_cons, List.append_nil]; rfl⟩
  | a :: b :: rest, _ =>
    have hlt : s.races.head % (a :: b :: rest).length < (a :: b :: rest).length := Nat.mod_lt _ (Nat.succ_pos _)
    refine ⟨s.races.head % (a :: b :: rest).length, hlt, s.races.tail, ?_⟩
    rw [interleave, List.getD_eq_getElem _ _ hlt]
    · exact fun h => by cases h
    · exact fun _ h => by cases h

section Once
variable {P Q : State → Prop} {act : State → State}

/-- A reaction that stands once in the list is taken, at some time before which the others have kept P, and after which they keep
what it has established. -/
theorem takeAll_once (hPr : ∀ s x, P s → P (s.withRaces x)) (hPd : ∀ s, P s → P (settleDraw s))
    (hQr : ∀ s x, Q s → Q (s.withRaces x)) (hQd : ∀ s, Q s → Q (settleDraw s)) (hact : ∀ s, P s → Q (act s))
    (before after : List (State → State)) (hP : ∀ a ∈ before ++ after, ∀ s, P s → P (a s))
    (hQ : ∀ a ∈ before ++ after, ∀ s, Q s → Q (a s)) {s : State} (hs : P s) : Q (takeAll (before ++ act :: after) s) := by
  have late {R : State → Prop} (hd : ∀ s, R s → R (settleDraw s)) (t : State) :
      ∀ a ∈ interleave.lateStart t, ∀ u, R u → R (a u) := by
    intro a ha
    unfold interleave.lateStart at ha
    split at ha
    · rw [List.mem_singleton.1 ha]; exact hd
    · cases ha
  have key : ∀ (n : Nat) (l1 l2 : List (State → State)) (s : State), ((l1 ++ act :: l2).map turns).sum ≤ n →
      (∀ a ∈ l1 ++ l2, ∀ s, P s → P (a s)) → (∀ a ∈ l1 ++ l2, ∀ s, Q s → Q (a s)) → P s →
      Q (interleave n (l1 ++ act :: l2) s) := by
    intro n
    induction n with
    | zero =>
      intro l1 l2 s hn
      have := turns_pos act
      simp at hn
      omega
    | succ n ih =>
      intro l1 l2 s hn hP hQ hs
      obtain ⟨i, hi, x, h⟩ := interleave_succ n s (List.append_ne_nil_of_right_ne_nil l1 (List.cons_ne_nil act l2))
      have hfuel := turns_lateStart (l1 ++ act :: l2)[i] (s.withRaces x)
      have herase := sum_map_eraseIdx turns (l1 ++ act :: l2) hi
      rw [h]
      rcases Nat.lt_trichotomy i l1.length with hlt | rfl | hgt
      · have hget : (l1 ++ act :: l2)[i] = l1[i] := List.getElem_append_left hlt
        rw [List.eraseIdx_append_of_lt_length hlt, ← List.append_assoc]
        rw [List.eraseIdx_append_of_lt_length hlt] at herase
        have hmem : l1[i] ∈ l1 ++ l2 := List.mem_append_left _ (List.getElem_mem hlt)
        refine ih _ _ _ ?_ (fun a ha => ?_) (fun a ha => ?_) (hget ▸ hP _ hmem _ (hPr s x hs))
        · rw [List.append_assoc, List.map_append, List.sum_append]
          omega
        · rcases List.mem_append.1 ha with ha | ha
          · exact (List.mem_append.1 ha).elim (late hPd _ a) fun ha => hP a (List.mem_append_left _ (List.mem_of_mem_eraseIdx ha))
          · exact hP a (List.mem_append_right _ ha)
        · rcases List.mem_append.1 ha with ha | ha
          · exact (List.mem_append.1 ha).elim (late hQd _ a) fun ha => hQ a (List.mem_append_left _ (List.mem_of_mem_eraseIdx ha))
          · exact hQ a (List.mem_append_right _ ha)
      · have hget : (l1 ++ act :: l2)[l1.length] = act := by
          rw [List.getElem_append_right (Nat.le_refl _)]
          simp
        have hq : Q ((l1 ++ act :: l2)[l1.length] (s.withRaces x)) := by
          rw [hget]; exact hact _ (hPr s x hs)
        refine interleave_keeps hQr hQd n _ (fun a ha => ?_) _ hq
        rcases List.mem_append.1 ha with ha | ha
        · exact late hQd _ a ha
        · refine hQ a ?_
          rwa [List.eraseIdx_append_of_length_le (Nat.le_refl _), Nat.sub_self, List.eraseIdx_cons_zero] at ha
      · have hle : l1.length ≤ i := Nat.le_of_lt hgt
        obtain ⟨j, rfl⟩ : ∃ j, i = l1.length + (j + 1) := ⟨i - l1.length - 1, by omega⟩
        have hj : j < l2.length := by
          rw [List.length_append, List.length_cons] at hi
          omega
        have hget : (l1 ++ act :: l2)[l1.length + (j + 1)] = l2[j] := by
          rw [List.getElem_append_right hle]
          simp
        have herases : (l1 ++ act :: l2).eraseIdx (l1.length + (j + 1)) = l1 ++ act :: l2.eraseIdx j := by
          rw [List.eraseIdx_append_of_length_le hle, Nat.add_sub_cancel_left, List.eraseIdx_cons_succ]
        rw [herases] at herase ⊢
        rw [← List.append_assoc]
        have hmem : l2[j] ∈ l1 ++ l2 := List.mem_append_right _ (List.getElem_mem hj)
        refine ih _ _ _ ?_ (fun a ha => ?_) (fun a ha => ?_) (hget ▸ hP _ hmem _ (hPr s x hs))
        · rw [List.append_assoc, List.map_append, List.sum_append]
          omega
        · rcases List.mem_append.1 ha with ha | ha
          · exact (List.mem_append.1 ha).elim (late hPd _ a) fun ha => hP a (List.mem_append_left _ ha)
          · exact hP a (List.mem_append_right _ (List.mem_of_mem_eraseIdx ha))
        · rcases List.mem_append.1 ha with ha | ha
          · exact (List.mem_append.1 ha).elim (late hQd _ a) fun ha => hQ a (List.mem_append_left _ ha)
          · exact hQ a (List.mem_append_right _ (List.mem_of_mem_eraseIdx ha))
  exact key _ before after s (sum_turns_le _) hP hQ hs

end Once

end Sys2Proof.Machine
end

section
/-! PROOFS. The entry into STANDBY as one step (R166, R205, R207), and what the receivers of a standby request keep (R107, R149, R186,
R206). -/

namespace Sys2Proof.Machine

/-! ### STANDBY entered -/

/-- The links as the display link goes ABSENT. -/
def displayNoticed (s : State) : PerLink LinkState := if s.disp.link = .locked then (notifyBoth .display s).links else s.links

theorem composerStop_eq (s : State) : composerStop s = (s.withDisp { s.disp with
    frameTimer := none, sending := none, link := .absent }).withLinks (displayNoticed s) := by
  by_cases h : s.disp.link = .locked
  · have hd : displayNoticed s = (notifyBoth .display s).links := if_pos h
    rw [hd]
    exact (if_pos h).trans rfl
  · have hd : displayNoticed s = s.links := if_neg h
    rw [hd]
    exact (if_neg h).trans rfl

/-- The state in STANDBY, before the request for it is answered. -/
def standbyBase (s : State) : State :=
  ((((s.withPower { s.power with state := .standby, mainPower := false, requester := none }).withSetup
    { s.setup with outputs := none }).withDisp { s.disp with frameTimer := none, sending := none, link := .absent }).withLinks
    (displayNoticed s)).withPanel (stopKeyTimers s.panel)

/-- The final status of the request that asked for STANDBY. -/
def handStandby (requester : Option (Link × Bool)) (s : State) : State :=
  match requester with
  | some (l, held) => finalStatus l held .ok .nothing s
  | none => s

theorem enterStandby_eq (s : State) : enterStandby s = handStandby s.power.requester (evalLeds (standbyBase s)) := by
  have hbase : (composerStop ((s.withPower { s.power with state := .standby, mainPower := false, requester := none }).withSetup
      { s.setup with outputs := none })).withPanel (stopKeyTimers s.panel) = standbyBase s := by
    rw [composerStop_eq]; rfl
  have hpanel : (composerStop ((s.withPower { s.power with state := .standby, mainPower := false, requester := none }).withSetup
      { s.setup with outputs := none })).panel = s.panel := by
    rw [composerStop_eq]; rfl
  change handStandby s.power.requester (evalLeds ((composerStop ((s.withPower { s.power with
    state := .standby, mainPower := false, requester := none }).withSetup { s.setup with outputs := none })).withPanel
    (stopKeyTimers (composerStop ((s.withPower { s.power with state := .standby, mainPower := false, requester := none }).withSetup
      { s.setup with outputs := none })).panel))) = _
  rw [hpanel, hbase]

/-! ### A link at its final status -/

theorem finalStatus_frame (l : Link) (held : Bool) (st : Status) (p : Payload) (s : State) :
    finalStatus l held st p s = s.withLinks (finalStatus l held st p s).links := by
  unfold finalStatus
  split
  · rfl
  · dsimp only
    split <;> rfl

theorem finalStatus_other {l m : Link} (held : Bool) (st : Status) (p : Payload) (s : State) (h : m ≠ l) :
    (finalStatus l held st p s).links.get m = s.links.get m := by
  unfold finalStatus
  split
  · exact PerLink.get_set_other _ _ h
  · dsimp only
    split
    · exact (PerLink.get_set_other _ _ h).trans (PerLink.get_set_other _ _ h)
    · rfl

/-- A notice that pends goes on pending. -/
theorem pends_or {a x : BitVec 7} (b : BitVec 7) (h : a &&& x ≠ 0#7) : (a ||| b) &&& x ≠ 0#7 := by
  intro h0
  refine h (BitVec.eq_of_getLsbD_eq fun i hi => ?_)
  have := congrArg (fun v : BitVec 7 => v.getLsbD i) h0
  simp only [BitVec.getLsbD_and, BitVec.getLsbD_or, BitVec.getLsbD_zero, Bool.and_eq_false_iff, Bool.or_eq_false_iff] at this ⊢
  exact this.imp And.left id

theorem finalStatus_pends {m : Link} {x : BitVec 7} (l : Link) (held : Bool) (st : Status) (p : Payload) {s : State}
    (h : (s.links.get m).notices &&& x ≠ 0#7) : ((finalStatus l held st p s).links.get m).notices &&& x ≠ 0#7 := by
  by_cases hm : m = l
  · subst hm
    unfold finalStatus
    split
    · rw [answer_notices]; exact h
    · dsimp only
      split
      · rw [notify_notices, if_pos rfl, setLink, State.withLinks_links, PerLink.get_set_same]
        exact pends_or _ h
      · exact h
  · rw [finalStatus_other held st p s hm]; exact h

/-! ### The standby request's progress -/

/-- Power Control has taken the request, STANDBY is set on both links, and STANDBY has been entered only with all reports in. -/
structure EntryMade (requester : Option (Link × Bool)) (main : Bool) (u : State) : Prop where
  pends : ∀ m, (u.links.get m).notices &&& noticeMask .standby ≠ 0#7
  state : (u.power.state = .standbyPending ∧ u.power.requester = requester ∧ u.power.mainPower = main) ∨
    (u.power.state = .standby ∧ reportsIn u.power = true ∧ u.power.mainPower = false ∧ u.setup.outputs = none ∧
      u.disp.link = .absent ∧ u.disp.sending = none)

section Entry
variable {requester : Option (Link × Bool)} {main : Bool} {u v : State}

theorem entryMade_aside (ha : aside v = aside u) (h : EntryMade requester main u) : EntryMade requester main v where
  pends m := by rw [aside_notice ha m (by decide)]; exact h.pends m
  state := by
    rw [aside_power ha, aside_setup ha, aside_disp ha]
    exact h.state

theorem displayNoticed_pends {m : Link} {x : BitVec 7} (h : (u.links.get m).notices &&& x ≠ 0#7) :
    ((displayNoticed u).get m).notices &&& x ≠ 0#7 := by
  unfold displayNoticed
  split
  · rw [notifyBoth_notices]; exact pends_or _ h
  · exact h

theorem entryMade_enterStandby (hp : ∀ m, (u.links.get m).notices &&& noticeMask .standby ≠ 0#7) (hr : reportsIn u.power = true) :
    EntryMade requester main (enterStandby u) := by
  have hbase : EntryMade requester main (evalLeds (standbyBase u)) := entryMade_aside (u := standbyBase u) (aside_evalLeds _)
    ⟨fun m => displayNoticed_pends (hp m), .inr ⟨rfl, hr, rfl, rfl, rfl, rfl⟩⟩
  rw [enterStandby_eq]
  generalize evalLeds (standbyBase u) = w at hbase
  unfold handStandby
  split
  · next l held _ =>
    refine ⟨fun m => finalStatus_pends l held .ok .nothing (hbase.pends m), ?_⟩
    rw [finalStatus_frame]
    exact hbase.state
  · exact hbase

/-- A report: noted, or the last that STANDBY waits for. -/
theorem entryMade_report {p : Power} (hs : p.state = u.power.state) (hm : p.mainPower = u.power.mainPower)
    (hq : p.requester = u.power.requester) (hr : reportsIn u.power = true → reportsIn p = true)
    (h : EntryMade requester main u) : EntryMade requester main (tryStandby (u.withPower p)) := by
  unfold tryStandby
  split
  · next hin => exact entryMade_enterStandby (u := u.withPower p) h.pends hin.2
  · refine ⟨h.pends, h.state.imp (fun hpend => ⟨hs.trans hpend.1, hq.trans hpend.2.1, hm.trans hpend.2.2⟩) fun hst => ?_⟩
    obtain ⟨h1, h2, h3, h4, h5, h6⟩ := hst
    exact ⟨hs.trans h1, hr h2, hm.trans h3, h4, h5, h6⟩

theorem entryMade_deliver (op : Op) (st : Status) (p : Payload) (h : EntryMade requester main u) :
    EntryMade requester main (deliver op st p u) := by
  unfold deliver
  split
  · exact h
  · split
    · exact h
    · refine ⟨fun m => finalStatus_pends _ _ _ _ (h.pends m), ?_⟩
      rw [finalStatus_frame]
      exact h.state

end Entry

/-! ### What each receiver keeps -/

section Keepers
variable {P : State → Prop} {u : State}

section Stop
variable (ha : ∀ u v, aside v = aside u → P u → P v)
  (hrep : ∀ u, P u → P (tryStandby (u.withPower { u.power with idleReport := true })))
include ha hrep

theorem keeps_enterIdle (h : P u) : P (enterIdle u) := by
  obtain ⟨lit, he⟩ := enterIdle_reports u
  rw [he]
  have hidle : P (litTo lit (u.withSeq (idleSeq u.seq))) := ha u _ rfl h
  unfold reportIdle
  split
  · exact hrep _ hidle
  · exact hidle

theorem keeps_closeRecord (h : P u) : P (closeRecord enterIdle u) := by
  have hidle (v : State) (hv : P v) : P (enterIdle v) := keeps_enterIdle ha hrep hv
  cases hr : u.seq.current with
  | none => rw [closeRecord_none hr]; exact hidle u h
  | some r =>
    have hclosed : P (recordClosed r u) := ha u _ rfl h
    cases hf : isFilling r.number u.store with
    | false => rw [closeRecord_unknown hr hf]; exact hidle _ hclosed
    | true =>
      by_cases h0 : r.completed = 0
      · rw [closeRecord_freed hr h0]; exact hidle _ hclosed
      · rw [closeRecord_offers hr hf h0, ← countCompletionOn_both]
        refine takeAll_keeps (P := P) (fun s x hs => ha s _ rfl hs) (fun s hs => ha s _ (aside_settleDraw s) hs) _
          (fun act hact s hs => ?_) _ (ha _ _ ((aside_countCompletionOn _ _).trans (aside_countCompletionOn _ _)) hclosed)
        rcases List.mem_pair.1 hact with rfl | rfl
        · exact ha s _ (aside_askDraw s) hs
        · exact hidle s hs

theorem keeps_acqStop (h : P u) : P (acqStop u) := by
  unfold acqStop
  split
  · exact h
  · exact keeps_enterIdle ha hrep (ha u _ rfl h)
  · exact keeps_closeRecord ha hrep (ha u _ rfl h)
  · exact keeps_closeRecord ha hrep (ha u _ rfl h)
  · exact ha u _ rfl h

theorem keeps_standbyStop (hset : ∀ u, P u → P (u.withSeq { u.seq with standbyStop := true })) (h : P u) : P (standbyStop u) := by
  unfold standbyStop
  dsimp only
  split
  · exact hrep _ (hset u h)
  · exact keeps_acqStop ha hrep (hset u h)

end Stop

theorem aside_abandonDraw (u : State) : aside (abandonDraw u) = aside u := by
  unfold abandonDraw
  split
  · rw [aside_reevaluate]; rfl
  · rfl

theorem keeps_haltRaster (ha : ∀ u v, aside v = aside u → P u → P v)
    (hrep : ∀ u, P u → P (tryStandby (u.withPower { u.power with haltReport := true }))) (h : P u) : P (haltRaster u) :=
  hrep _ (ha u _ (aside_abandonDraw u) h)

/-- The queued requests leave with CANCELLED. -/
def cancelQueued (u : State) : State :=
  u.saved.queue.foldl (fun t req => deliver (opOf req) .cancelled .nothing t)
    (u.withSaved { u.saved with queue := [], cancelled := true })

theorem cancelStore_eq (u : State) :
    cancelStore u = if (cancelQueued u).saved.op = none then storeAtRest (cancelQueued u) else cancelQueued u := rfl

theorem deliver_frame (op : Op) (st : Status) (p : Payload) (s : State) :
    deliver op st p s = s.withLinks (deliver op st p s).links := by
  unfold deliver
  split
  · rfl
  · split
    · rfl
    · exact finalStatus_frame ..

theorem foldl_deliver_frame (reqs : List StoreReq) (s : State) :
    reqs.foldl (fun t req => deliver (opOf req) .cancelled .nothing t) s =
      s.withLinks (reqs.foldl (fun t req => deliver (opOf req) .cancelled .nothing t) s).links := by
  induction reqs generalizing s with
  | nil => rfl
  | cons req rest ih =>
    rw [List.foldl_cons, ih, deliver_frame]
    rfl

theorem cancelQueued_frame (u : State) : cancelQueued u =
    (u.withSaved { u.saved with queue := [], cancelled := true }).withLinks (cancelQueued u).links := foldl_deliver_frame ..

theorem keeps_foldl_deliver (hdel : ∀ req ∈ u.saved.queue, ∀ v, P v → P (deliver (opOf req) .cancelled .nothing v))
    (reqs : List StoreReq) (hsub : ∀ req ∈ reqs, req ∈ u.saved.queue) {v : State} (h : P v) :
    P (reqs.foldl (fun t req => deliver (opOf req) .cancelled .nothing t) v) := by
  induction reqs generalizing v with
  | nil => exact h
  | cons req rest ih =>
    exact ih (fun x hx => hsub x (List.mem_cons_of_mem _ hx)) (hdel req (hsub req List.mem_cons_self) v h)

/-- The final autosave is asked: the report at once, or slot 0 saved (R185, R186). -/
theorem finalAutosave_eq (u : State) : finalAutosave u =
    if u.saved.ctrl = .absent ∨ u.setup.gen = u.saved.slot0Gen then savedReport (u.withSaved { u.saved with finalAsked := true })
    else u.withSaved (finalSave u.setup u.saved) := by
  by_cases h : u.saved.ctrl = .absent ∨ u.setup.gen = u.saved.slot0Gen
  · rw [if_pos h]
    exact if_pos h
  · rw [if_neg h]
    refine (if_neg h).trans ?_
    by_cases hd : u.saved.directory[(0 : Fin 12)] = .unread
    · have hb : ∀ v : State, v.saved.directory = u.saved.directory → beginService (opOf ⟨none, .autosave, 0, false⟩) v =
          (setOp (some { opOf ⟨none, .autosave, 0, false⟩ with phase := .resolving }) v, none) := fun v hv =>
        if_pos (by rw [hv]; exact hd)
      rw [hb ((u.withSaved _).withSaved _), finalSave, if_pos hd, if_pos hd]
      · rfl
      · rfl
    · have hb : ∀ v : State, v.saved.directory = u.saved.directory → beginService (opOf ⟨none, .autosave, 0, false⟩) v =
          serviceKnown (opOf ⟨none, .autosave, 0, false⟩) v := fun v hv => if_neg (by rw [hv]; exact hd)
      rw [hb ((u.withSaved _).withSaved _), finalSave, if_neg hd, if_neg hd]
      · rfl
      · rfl

/-- The controller with nothing in flight and nothing queued (R172). -/
def restSaved (sv : SavedStore) : SavedStore := { sv with ctrl := if sv.ctrl = .busy then .idle else sv.ctrl }

theorem storeAtRest_eq (u : State) : storeAtRest u =
    if u.saved.cancelled then
      (if u.saved.finalAsked then savedReport (u.withSaved (restSaved u.saved))
      else finalAutosave (u.withSaved (restSaved u.saved)))
    else u.withSaved (restSaved u.saved) := by
  have hrest : (if u.saved.ctrl = .busy then u.withSaved { u.saved with ctrl := .idle } else u) =
      u.withSaved (restSaved u.saved) := by
    unfold restSaved
    by_cases h : u.saved.ctrl = .busy
    · rw [if_pos h, if_pos h]
    · rw [if_neg h, if_neg h]; rfl
  unfold storeAtRest
  dsimp only
  rw [hrest]
  rfl

section Store
variable (hsaved : ∀ u x, P u → P (u.withSaved x))
  (hrep : ∀ u, P u → P (tryStandby (u.withPower { u.power with savedReport := true })))
include hsaved hrep

theorem keeps_finalAutosave (h : P u) : P (finalAutosave u) := by
  rw [finalAutosave_eq]
  split
  · exact hrep _ (hsaved _ _ h)
  · exact hsaved _ _ h

theorem keeps_storeAtRest (h : P u) : P (storeAtRest u) := by
  rw [storeAtRest_eq]
  split
  · split
    · exact hrep _ (hsaved _ _ h)
    · exact keeps_finalAutosave hsaved hrep (hsaved _ _ h)
  · exact hsaved _ _ h

theorem keeps_cancelStore (hdel : ∀ req ∈ u.saved.queue, ∀ v, P v → P (deliver (opOf req) .cancelled .nothing v)) (h : P u) :
    P (cancelStore u) := by
  have hq : P (cancelQueued u) := keeps_foldl_deliver hdel _ (fun _ => id) (hsaved _ _ h)
  rw [cancelStore_eq]
  split
  · exact keeps_storeAtRest hsaved hrep hq
  · exact hq

end Store

end Keepers

end Sys2Proof.Machine
end

section
/-! PROOFS. A standby request taken (R107, R149, R186, R206): what holds once its receivers have been taken, in whatever order. -/

namespace Sys2Proof.Machine

/-! ### What STANDBY leaves (R207) -/

section Reached
variable (s : State)

theorem handStandby_frame (q : Option (Link × Bool)) (s : State) :
    handStandby q s = s.withLinks (handStandby q s).links := by
  unfold handStandby
  split
  · exact finalStatus_frame ..
  · rfl

theorem enterStandby_frame : ∃ lit, enterStandby s = litTo lit ((standbyBase s).withLinks (enterStandby s).links) := by
  obtain ⟨lit, he⟩ := evalLeds_litTo (standbyBase s)
  refine ⟨lit, ?_⟩
  rw [enterStandby_eq, handStandby_frame, he]
  rfl

theorem tryStandby_saved : (tryStandby s).saved = s.saved := by
  unfold tryStandby
  split
  · obtain ⟨lit, he⟩ := enterStandby_frame s
    rw [he]; rfl
  · rfl

theorem tryStandby_raster : (tryStandby s).raster = s.raster := by
  unfold tryStandby
  split
  · obtain ⟨lit, he⟩ := enterStandby_frame s
    rw [he]; rfl
  · rfl

theorem tryStandby_store : (tryStandby s).store = s.store := by
  unfold tryStandby
  split
  · obtain ⟨lit, he⟩ := enterStandby_frame s
    rw [he]; rfl
  · rfl

theorem tryStandby_seq : (tryStandby s).seq = s.seq := by
  unfold tryStandby
  split
  · exact enterStandby_seq s
  · rfl

/-- The reports stay as they have come in. -/
theorem tryStandby_reports : (tryStandby s).power.idleReport = s.power.idleReport ∧
    (tryStandby s).power.savedReport = s.power.savedReport ∧ (tryStandby s).power.haltReport = s.power.haltReport := by
  unfold tryStandby
  split
  · obtain ⟨lit, he⟩ := enterStandby_frame s
    rw [he]; exact ⟨rfl, rfl, rfl⟩
  · exact ⟨rfl, rfl, rfl⟩

/-- After a report STANDBY_PENDING lasts only while a report is missing. -/
theorem tryStandby_waits (h : (tryStandby s).power.state = .standbyPending) : reportsIn (tryStandby s).power = false := by
  unfold tryStandby at h ⊢
  split at h
  · obtain ⟨lit, he⟩ := enterStandby_frame s
    rw [he] at h
    cases h
  · next hin =>
    rw [if_neg hin]
    exact Bool.eq_false_iff.2 fun hr => hin ⟨h, hr⟩

end Reached

/-! ### The request as its receivers find it -/

/-- The state as the receivers of a standby request find it, before the LEDs. -/
def entryAsked (s : State) : State :=
  (notifyBoth .standby (s.withPower { s.power with state := .standbyPending })).withSetup (closeForStandby s.setup)

theorem standbyRequest_eq {s : State} (h : s.power.state = .active) :
    standbyRequest s = takeAll [standbyStop, cancelStore, haltRaster] (evalLeds (entryAsked s)) := if_pos h

/-- What every receiver of a standby request keeps holds once they have been taken. -/
theorem standbyRequest_keeps {P : State → Prop} {s : State} (h : s.power.state = .active)
    (ha : ∀ u v, aside v = aside u → P u → P v) (hstop : ∀ u, P u → P (standbyStop u)) (hcancel : ∀ u, P u → P (cancelStore u))
    (hhalt : ∀ u, P u → P (haltRaster u)) (hs : P (entryAsked s)) : P (standbyRequest s) := by
  rw [standbyRequest_eq h]
  refine takeAll_keeps (P := P) (fun u x hu => ha u _ rfl hu) (fun u hu => ha u _ (aside_settleDraw u) hu) _ (fun act hact u hu => ?_)
    _ (ha _ _ (aside_evalLeds _) hs)
  simp only [List.mem_cons, List.not_mem_nil, or_false] at hact
  rcases hact with rfl | rfl | rfl
  · exact hstop u hu
  · exact hcancel u hu
  · exact hhalt u hu

/-! ### Power Control's part -/

theorem entryMade_standbyRequest {s : State} (h : s.power.state = .active) :
    EntryMade s.power.requester s.power.mainPower (standbyRequest s) := by
  have hrep {u : State} {p : Power} := entryMade_report (requester := s.power.requester) (main := s.power.mainPower) (u := u) (p := p)
  have hin (a b c : Bool) (h : (a && b && c) = true) : (true && b && c) = true ∧ (a && true && c) = true ∧ (a && b && true) = true := by
    revert a b c; decide
  refine standbyRequest_keeps h (fun u v => entryMade_aside) (fun u hu => ?_) (fun u hu => ?_) (fun u hu => ?_) ⟨fun m => ?_, .inl ⟨rfl, rfl, rfl⟩⟩
  · exact keeps_standbyStop (fun u v => entryMade_aside) (fun u hu => hrep rfl rfl rfl (fun h => (hin _ _ _ h).1) hu)
      (fun u hu => ⟨hu.pends, hu.state⟩) hu
  · exact keeps_cancelStore (fun u x hu => ⟨hu.pends, hu.state⟩) (fun u hu => hrep rfl rfl rfl (fun h => (hin _ _ _ h).2.1) hu)
      (fun req _ v hv => entryMade_deliver _ _ _ hv) hu
  · exact keeps_haltRaster (fun u v => entryMade_aside) (fun u hu => hrep rfl rfl rfl (fun h => (hin _ _ _ h).2.2) hu) hu
  · change ((notifyBoth .standby (s.withPower { s.power with state := .standbyPending })).links.get m).notices &&& _ ≠ 0#7
    rw [notifyBoth_notices]
    intro h0
    have hm : noticeMask .standby = 0#7 := (or_and_mask _ _).symm.trans h0
    exact absurd hm (by decide)

/-! ### The sequencer's part -/

theorem standbyStop_stops {u : State} : (standbyStop u).seq.standbyStop = true := by
  have ha (u v : State) (h : aside v = aside u) (hu : u.seq.standbyStop = true) : v.seq.standbyStop = true :=
    (aside_stop h).trans hu
  have hrep (u : State) (hu : u.seq.standbyStop = true) :
      (tryStandby (u.withPower { u.power with idleReport := true })).seq.standbyStop = true := by
    rw [tryStandby_seq]; exact hu
  unfold standbyStop
  dsimp only
  split
  · exact (congrArg (fun t : State => t.seq.standbyStop) (if_pos rfl)).trans (hrep _ rfl)
  · exact keeps_acqStop (P := fun u => u.seq.standbyStop = true) ha hrep rfl

/-! ### The Store Controller's part -/

/-- The controller once the queued requests have left. -/
def cancelledSaved (sv : SavedStore) : SavedStore := { sv with queue := [], cancelled := true }

/-- The controller comes to rest in ABSENT just when it is there. -/
theorem restSaved_absent (sv : SavedStore) : (restSaved sv).ctrl = .absent ↔ sv.ctrl = .absent := by
  change (if sv.ctrl = .busy then StoreState.idle else sv.ctrl) = .absent ↔ _
  split
  · next h => rw [h]; exact ⟨fun h => (by cases h), fun h => (by cases h)⟩
  · exact Iff.rfl

/-- The controller after the standby cancellation: at rest the final autosave has been asked. -/
theorem cancelStore_saved (u : State) : (cancelStore u).saved =
    if u.saved.op = none then
      (if u.saved.finalAsked then restSaved (cancelledSaved u.saved)
      else if u.saved.ctrl = .absent ∨ u.setup.gen = u.saved.slot0Gen then
        { restSaved (cancelledSaved u.saved) with finalAsked := true }
      else finalSave u.setup (cancelledSaved u.saved))
    else cancelledSaved u.saved := by
  have hq : (cancelQueued u).saved = cancelledSaved u.saved := by rw [cancelQueued_frame]; rfl
  have hsetup : (cancelQueued u).setup = u.setup := by rw [cancelQueued_frame]; rfl
  have habsent := restSaved_absent (cancelledSaved u.saved)
  have hop : (cancelQueued u).saved.op = u.saved.op := by rw [hq]; rfl
  rw [cancelStore_eq, hop]
  by_cases h0 : u.saved.op = none
  · rw [if_pos h0, if_pos h0, storeAtRest_eq, hq]
    rw [if_pos (show (cancelledSaved u.saved).cancelled = true from rfl)]
    by_cases hf : u.saved.finalAsked = true
    · rw [if_pos hf, if_pos (show (cancelledSaved u.saved).finalAsked = true from hf), savedReport, tryStandby_saved]
      rfl
    · rw [if_neg hf, if_neg (show ¬(cancelledSaved u.saved).finalAsked = true from hf), finalAutosave_eq]
      rw [State.withSaved_saved, State.withSaved_setup, hsetup]
      rw [show (restSaved (cancelledSaved u.saved)).slot0Gen = u.saved.slot0Gen from rfl]
      by_cases hr : u.saved.ctrl = .absent ∨ u.setup.gen = u.saved.slot0Gen
      · rw [if_pos hr, if_pos (hr.imp_left habsent.2), savedReport, tryStandby_saved]
        rfl
      · rw [if_neg hr, if_neg (fun h => hr (h.imp_left habsent.1))]
        rfl
  · rw [if_neg h0, if_neg h0, hq]

theorem cancelStore_queue (u : State) : (cancelStore u).saved.queue = [] ∧ (cancelStore u).saved.cancelled = true := by
  rw [cancelStore_saved]
  split
  · split
    · exact ⟨rfl, rfl⟩
    · split <;> exact ⟨rfl, rfl⟩
  · exact ⟨rfl, rfl⟩

/-! ### The Raster Engine's part -/

/-- The Raster Engine is halted, with nothing in draw and no record named. -/
def rasterHalted (s : State) : Prop := s.raster.engine = .halted ∧ s.raster.draw = none ∧ s.raster.chosen = none

theorem rasterHalted_haltRaster (u : State) : rasterHalted (haltRaster u) := by
  unfold rasterHalted haltRaster reportHalt
  dsimp only
  rw [tryStandby_raster]
  exact ⟨rfl, rfl, rfl⟩

section Halted
variable {u v : State}

theorem rasterHalted_of_raster (hr : v.raster = u.raster) (h : rasterHalted u) : rasterHalted v := by
  unfold rasterHalted
  rw [hr]
  exact h

theorem rasterHalted_enterIdle (h : rasterHalted u) : rasterHalted (enterIdle u) :=
  rasterHalted_of_raster (raster_eq_of_drawing (drawing_enterIdle u)) h

theorem rasterHalted_settleDraw (h : rasterHalted u) : rasterHalted (settleDraw u) := by
  rw [settleDraw_none h.2.2]; exact h

theorem rasterHalted_askDraw (h : rasterHalted u) : rasterHalted (askDraw u) := by
  rw [askDraw_busy (by rw [h.1]; decide)]; exact h

theorem rasterHalted_closeRecord (h : rasterHalted u) : rasterHalted (closeRecord enterIdle u) := by
  unfold closeRecord
  split
  · exact rasterHalted_enterIdle h
  · dsimp only
    split
    · rw [countCompletionOn_both]
      refine takeAll_keeps (P := rasterHalted) (fun s x hs => hs) (fun s hs => rasterHalted_settleDraw hs) _ (fun act hact s hs => ?_) _ h
      rcases List.mem_pair.1 hact with rfl | rfl
      · exact rasterHalted_askDraw hs
      · exact rasterHalted_enterIdle hs
    · exact rasterHalted_enterIdle h

theorem rasterHalted_standbyStop (h : rasterHalted u) : rasterHalted (standbyStop u) := by
  unfold standbyStop
  dsimp only
  split
  · unfold reportIdle
    split
    · exact rasterHalted_of_raster (tryStandby_raster _) h
    · exact h
  · unfold acqStop
    split
    · exact h
    · exact rasterHalted_enterIdle h
    · exact rasterHalted_closeRecord h
    · exact rasterHalted_closeRecord h
    · exact h

theorem cancelStore_raster (u : State) : (cancelStore u).raster = u.raster :=
  keeps_cancelStore (P := fun v => v.raster = u.raster) (fun _ _ h => h) (fun _ h => (tryStandby_raster _).trans h)
    (fun req _ v h => by rw [deliver_frame]; exact h) rfl

theorem cancelStore_seq (u : State) : (cancelStore u).seq = u.seq :=
  keeps_cancelStore (P := fun v => v.seq = u.seq) (fun _ _ h => h) (fun _ h => (tryStandby_seq _).trans h)
    (fun req _ v h => by rw [deliver_frame]; exact h) rfl

theorem cancelStore_store (u : State) : (cancelStore u).store = u.store :=
  keeps_cancelStore (P := fun v => v.store = u.store) (fun _ _ h => h) (fun _ h => (tryStandby_store _).trans h)
    (fun req _ v h => by rw [deliver_frame]; exact h) rfl

end Halted

theorem standbyStop_saved (u : State) : (standbyStop u).saved = u.saved :=
  keeps_standbyStop (P := fun v => v.saved = u.saved) (fun _ _ ha h => (aside_saved ha).trans h)
    (fun _ h => (tryStandby_saved _).trans h) (fun _ h => h) rfl

theorem haltRaster_saved (u : State) : (haltRaster u).saved = u.saved :=
  keeps_haltRaster (P := fun v => v.saved = u.saved) (fun _ _ ha h => (aside_saved ha).trans h)
    (fun _ h => (tryStandby_saved _).trans h) rfl

theorem haltRaster_standbyStop {u : State} (h : u.seq.standbyStop = true) : (haltRaster u).seq.standbyStop = true :=
  keeps_haltRaster (P := fun v => v.seq.standbyStop = true) (fun _ _ ha h => (aside_stop ha).trans h)
    (fun v h => by rw [tryStandby_seq]; exact h) h

/-! ### The entry -/

/-- One of the receivers establishes what the other two keep. -/
theorem standbyReceivers_once {P Q : State → Prop} {act : State → State} {before after : List (State → State)}
    (hlist : [standbyStop, cancelStore, haltRaster] = before ++ act :: after) (hPr : ∀ s x, P s → P (s.withRaces x))
    (hPd : ∀ s, P s → P (settleDraw s)) (hQr : ∀ s x, Q s → Q (s.withRaces x)) (hQd : ∀ s, Q s → Q (settleDraw s))
    (hP : ∀ a ∈ before ++ after, ∀ s, P s → P (a s)) (hQ : ∀ a ∈ before ++ after, ∀ s, Q s → Q (a s))
    (hact : ∀ s, P s → Q (act s)) {s : State} (hs : P s) : Q (takeAll [standbyStop, cancelStore, haltRaster] s) :=
  hlist ▸ takeAll_once hPr hPd hQr hQd hact before after hP hQ hs

section Entered
variable (s : State)

theorem entered_stop : (takeAll [standbyStop, cancelStore, haltRaster] s).seq.standbyStop = true := by
  refine standbyReceivers_once (P := fun _ => True) (Q := fun u => u.seq.standbyStop = true) (before := [])
    (after := [cancelStore, haltRaster]) rfl (fun _ _ _ => trivial) (fun _ _ => trivial) (fun _ _ h => h)
    (fun u h => (aside_stop (aside_settleDraw u)).trans h) (fun _ _ _ _ => trivial) (fun a ha u hu => ?_)
    (fun u _ => standbyStop_stops) trivial
  rcases List.mem_pair.1 ha with rfl | rfl
  · rw [cancelStore_seq]; exact hu
  · exact haltRaster_standbyStop hu

theorem entered_saved : (takeAll [standbyStop, cancelStore, haltRaster] s).saved.queue = [] ∧
    (takeAll [standbyStop, cancelStore, haltRaster] s).saved.cancelled = true := by
  refine standbyReceivers_once (P := fun _ => True) (Q := fun u => u.saved.queue = [] ∧ u.saved.cancelled = true)
    (before := [standbyStop]) (after := [haltRaster]) rfl (fun _ _ _ => trivial) (fun _ _ => trivial) (fun _ _ h => h)
    (fun u h => by rw [aside_saved (aside_settleDraw u)]; exact h) (fun _ _ _ _ => trivial) (fun a ha u hu => ?_)
    (fun u _ => cancelStore_queue u) trivial
  rcases List.mem_pair.1 ha with rfl | rfl
  · rw [standbyStop_saved]; exact hu
  · rw [haltRaster_saved]; exact hu

theorem entered_raster : rasterHalted (takeAll [standbyStop, cancelStore, haltRaster] s) := by
  refine standbyReceivers_once (P := fun _ => True) (Q := rasterHalted) (before := [standbyStop, cancelStore])
    (after := []) rfl (fun _ _ _ => trivial) (fun _ _ => trivial) (fun _ _ h => h)
    (fun u h => rasterHalted_settleDraw h) (fun _ _ _ _ => trivial) (fun a ha u hu => ?_)
    (fun u _ => rasterHalted_haltRaster u) trivial
  rcases List.mem_pair.1 ha with rfl | rfl
  · exact rasterHalted_standbyStop hu
  · exact rasterHalted_of_raster (cancelStore_raster u) hu

end Entered

/-- A standby request in ACTIVE makes the entry. -/
theorem standbyEntered_standbyRequest {s : State} (h : s.power.state = .active) : standbyEntered s (standbyRequest s) := by
  obtain ⟨hpends, hstate⟩ := entryMade_standbyRequest h
  have hkept : kept (standbyRequest s) = kept (entryAsked s) := by
    rw [standbyRequest_eq h, kept_standbyReceivers, kept_evalLeds]
  have hstop : (standbyRequest s).seq.standbyStop = true := by rw [standbyRequest_eq h]; exact entered_stop _
  have hsaved : (standbyRequest s).saved.queue = [] ∧ (standbyRequest s).saved.cancelled = true := by
    rw [standbyRequest_eq h]; exact entered_saved _
  have hraster : rasterHalted (standbyRequest s) := by rw [standbyRequest_eq h]; exact entered_raster _
  have hbatches : (standbyRequest s).setup.batches = .both none := congrArg Kept.batches hkept
  refine ⟨?_, hpends, fun m => ?_, congrArg Kept.quiet hkept, congrArg Kept.live hkept, congrArg Kept.gen hkept, hsaved.1, hsaved.2,
    hstop, hraster.1, hraster.2.1, hraster.2.2, congrArg Kept.queues hkept, congrArg Kept.mem hkept, congrArg Kept.lockout hkept,
    congrArg Kept.routes hkept⟩
  · rcases hstate with ⟨h1, -⟩ | ⟨h1, -⟩ <;> rw [h1] <;> decide
  · rw [hbatches]; cases m <;> rfl

end Sys2Proof.Machine
end

section
/-! PROOFS. What the actions of the routing table do (R38, R43, R44). -/

namespace Sys2Proof.Machine

/-! ### A record handed to one link's queue, as another link sees it -/

/-- What a link has of its own in handing over a record. -/
def linkView (l : Link) (s : State) : EventQueue × LinkState := (s.queues.get l, s.links.get l)

/-- An operation on the queue and the state of link l alone, which reads no more than these. -/
structure LinkLocal (l : Link) (f : State → State) : Prop where
  own : ∀ s t, linkView l s = linkView l t → linkView l (f s) = linkView l (f t)
  other : ∀ m s, m ≠ l → linkView m (f s) = linkView m s

section Local
variable {l : Link} {f g : State → State}

theorem linkLocal_id : LinkLocal l (fun s => s) := ⟨fun _ _ h => h, fun _ _ _ => rfl⟩

theorem linkLocal_comp (hf : LinkLocal l f) (hg : LinkLocal l g) : LinkLocal l (fun s => g (f s)) :=
  ⟨fun s t h => hg.own _ _ (hf.own s t h), fun m s h => (hg.other m _ h).trans (hf.other m s h)⟩

theorem linkLocal_setQueue (q : EventQueue) : LinkLocal l (setQueue l q) where
  own s t h := by
    have hl : s.links.get l = t.links.get l := congrArg Prod.snd h
    refine Prod.ext ?_ hl
    exact (PerLink.get_set_same ..).trans (PerLink.get_set_same ..).symm
  other m s h := Prod.ext (PerLink.get_set_other _ _ h) rfl

theorem linkLocal_notify (n : Notice) : LinkLocal l (notify l n) where
  own s t h := by
    have hq : s.queues.get l = t.queues.get l := congrArg Prod.fst h
    have hl : s.links.get l = t.links.get l := congrArg Prod.snd h
    refine Prod.ext hq ?_
    exact (PerLink.get_set_same ..).trans (by rw [hl]; exact (PerLink.get_set_same ..).symm)
  other m s h := Prod.ext rfl (PerLink.get_set_other _ _ h)

/-- An operation chosen by the link's queue. -/
theorem linkLocal_of_queue (h : ∀ q, ∃ g, LinkLocal l g ∧ ∀ s, s.queues.get l = q → f s = g s) : LinkLocal l f where
  own s t hst := by
    obtain ⟨g, hg, he⟩ := h (t.queues.get l)
    rw [he s (congrArg Prod.fst hst), he t rfl]
    exact hg.own s t hst
  other m s hm := by
    obtain ⟨g, hg, he⟩ := h (s.queues.get l)
    rw [he s rfl]
    exact hg.other m s hm

theorem linkLocal_thresholdCheck (l : Link) : LinkLocal l (thresholdCheck l) := by
  refine linkLocal_of_queue fun q => ?_
  by_cases hq : q.threshold ≤ q.entries.length
  · exact ⟨_, linkLocal_comp (linkLocal_setQueue { q with timer := none }) (linkLocal_notify .events), fun s hs => by
      simp [thresholdCheck, hs, hq]⟩
  · exact ⟨_, linkLocal_id, fun s hs => by simp [thresholdCheck, hs, hq]⟩

theorem linkLocal_enterEntry (l : Link) (e : PanelEvent) : LinkLocal l (enterEntry l e) := by
  have hset (q : EventQueue) := linkLocal_comp (linkLocal_setQueue (l := l) q) (linkLocal_thresholdCheck l)
  refine linkLocal_of_queue fun q => ?_
  by_cases hq : q.entries.length < queueCapacity
  · exact ⟨_, hset _, fun s hs => by rw [enterEntry, hs, if_pos hq]⟩
  · cases hm : q.mode with
    | hold => exact ⟨_, linkLocal_setQueue _, fun s hs => by rw [enterEntry, hs, if_neg hq, hm]⟩
    | overwrite => exact ⟨_, hset _, fun s hs => by rw [enterEntry, hs, if_neg hq, hm]⟩

theorem linkLocal_merge (l : Link) (n e : PanelEvent) : LinkLocal l (merge l n e) := by
  refine linkLocal_of_queue fun q => ?_
  by_cases h0 : n.detents + e.detents = 0
  · exact ⟨_, linkLocal_setQueue _, fun s hs => by rw [merge, hs]; exact if_pos h0⟩
  by_cases hhigh : 127 < n.detents + e.detents
  · exact ⟨_, linkLocal_comp (linkLocal_setQueue _) (linkLocal_enterEntry l _), fun s hs => by
      rw [merge, hs]; exact (if_neg h0).trans (if_pos hhigh)⟩
  by_cases hlow : n.detents + e.detents < -127
  · exact ⟨_, linkLocal_comp (linkLocal_setQueue _) (linkLocal_enterEntry l _), fun s hs => by
      rw [merge, hs]; exact (if_neg h0).trans ((if_neg hhigh).trans (if_pos hlow))⟩
  · exact ⟨_, linkLocal_setQueue _, fun s hs => by
      rw [merge, hs]; exact (if_neg h0).trans ((if_neg hhigh).trans (if_neg hlow))⟩

theorem linkLocal_handOver (l : Link) (e : PanelEvent) : LinkLocal l (handOver l e) := by
  refine linkLocal_of_queue fun q => ?_
  cases hm : mergesWith e q with
  | none => exact ⟨_, linkLocal_enterEntry l e, fun s hs => handOver_entering (by rw [hs]; exact hm)⟩
  | some n => exact ⟨_, linkLocal_merge l n e, fun s hs => handOver_merging (by rw [hs]; exact hm)⟩

/-- Each link has its record, whatever the other is handed. -/
theorem linkView_handOver_both (l : Link) (e : PanelEvent) (s : State) :
    linkView l (handOver .remote e (handOver .console e s)) = linkView l (handOver l e s) := by
  cases l with
  | console => exact (linkLocal_handOver .remote e).other .console _ (by decide)
  | remote =>
    refine (linkLocal_handOver .remote e).own _ _ ?_
    exact (linkLocal_handOver .console e).other .remote _ (by decide)

end Local

/-- LOCAL in the lockout state REMOTE (R44, R62). -/
theorem releaseLockout_remote {s : State} (h : s.router.lockout = .remote) :
    ∃ lit, releaseLockout s = notifyBoth .lockout (s.withRouter { s.router with lockout := .localControl, lit := lit }) := by
  obtain ⟨lit, he⟩ := setLockout_changed (x := .localControl) (s := s) (by rw [h]; decide)
  refine ⟨lit, Eq.trans ?_ he⟩
  unfold releaseLockout
  rw [h]

theorem releaseLockout_hard {s : State} (h : s.router.lockout = .remoteHard) : releaseLockout s = countLockedOut s := by
  simp [releaseLockout, h]

theorem notifyBoth_get (n : Notice) (m : Link) (s : State) : (notifyBoth n s).links.get m =
    { s.links.get m with notices := (s.links.get m).notices ||| noticeMask n } := by cases m <;> rfl

theorem routedRun_eq {s : State} (h : s.seq.standbyStop = false) (act : State → State) : routedRun act s = act s := by
  unfold routedRun
  rw [h]
  rfl

/-- Settles O25: the winning entry's action, each by the lemma about its operation. -/
theorem routedActionsTakeEffect : Obligations.RoutedActionsTakeEffect := by
  intro i ev s hp hw
  have htake {a : Action} (ha : s.router.routes[i].action = a) (hne : a ≠ .edit) :
      takeEvent ev s = runAction a { ev with entry := some i.val } s := by
    rw [takeEvent_wins hp hw, ha, if_neg hne]
  refine ⟨fun ha => htake ha (by decide), fun ha => htake ha (by decide), fun ha l => ?both, fun hstop => ⟨fun ha hr => ?run,
    fun ha hr => ?stop, fun ha => ?single, fun ha => ?force⟩, fun ha => ⟨fun hl => ?free, fun hl => ?release, fun hl => ?hard⟩,
    fun ha => ?standby, fun ha => htake ha (by decide)⟩
  case both =>
    rw [htake ha (by decide)]
    obtain ⟨q, k, hframe⟩ := (handOver_touches .console { ev with entry := some i.val } s).trans
      (handOver_touches .remote { ev with entry := some i.val } _)
    have hview := linkView_handOver_both l { ev with entry := some i.val } s
    refine ⟨congrArg Prod.fst hview, congrArg Prod.snd hview, ?_⟩
    change handOver .remote _ (handOver .console _ s) = _
    rw [show runAction .toBoth { ev with entry := some i.val } s = handOver .remote _ (handOver .console _ s) from rfl, hframe]
    rfl
  case run =>
    rw [htake ha (by decide)]
    rw [show runAction .runStop { ev with entry := some i.val } s = _ from routedRun_eq hstop _, if_pos hr]
    exact runStarted_acqStart (by decide)
  case stop =>
    rw [htake ha (by decide)]
    rw [show runAction .runStop { ev with entry := some i.val } s = _ from routedRun_eq hstop _, if_neg hr]
    exact runStopped_acqStop hstop
  case single =>
    rw [htake ha (by decide)]
    rw [show runAction .single { ev with entry := some i.val } s = _ from routedRun_eq hstop _]
    exact runStarted_acqStart (by decide)
  case force =>
    rw [htake ha (by decide)]
    rw [show runAction .force { ev with entry := some i.val } s = _ from routedRun_eq hstop _]
    exact forceTaken_acqForce s
  case free => exact (htake ha (by decide)).trans (by simp [runAction, releaseLockout, hl])
  case release =>
    rw [htake ha (by decide)]
    obtain ⟨lit, he⟩ := releaseLockout_remote hl
    rw [show runAction .localRelease { ev with entry := some i.val } s = _ from he]
    exact ⟨rfl, rfl, fun l => notifyBoth_get _ l _⟩
  case hard => exact (htake ha (by decide)).trans (releaseLockout_hard hl)
  case standby =>
    rw [htake ha (by decide)]
    exact standbyEntered_standbyRequest hp

end Sys2Proof.Machine
end

section
/-! PROOFS. The Store Controller's services and ends (R172, R174, R176, R182, R183), and the expiries of the timers (R27, R53, R102,
R103, R125, R184, R185). -/

namespace Sys2Proof.Machine

/-! ### A service that begins -/

/-- The operation has its first or its next access in hand, its slot's entry as given (R168, R176). -/
def opBegun (op : Op) (phase : OpPhase) (entry : DirEntry) (s : State) : State :=
  s.withSaved { s.saved with
    op := some { op with phase := phase }
    directory := s.saved.directory.set op.req.slot entry
    limit := some 20000000
    polling := false }

section Service
variable {op : Op} {s : State}

/-- An access that leaves the entry as it stands. -/
theorem setOp_phase (op : Op) (phase : OpPhase) (s : State) :
    setOp (some { op with phase := phase }) s = opBegun op phase s.saved.directory[op.req.slot] s := by
  have hset : s.saved.directory.set op.req.slot s.saved.directory[op.req.slot] = s.saved.directory := Vector.set_getElem_self _
  unfold opBegun
  rw [hset]
  rfl

theorem beginService_unread (h : s.saved.directory[op.req.slot] = .unread) :
    beginService op s = (setOp (some { op with phase := .resolving }) s, none) := if_pos h

theorem beginService_known (h : s.saved.directory[op.req.slot] ≠ .unread) : beginService op s = serviceKnown op s := if_neg h

theorem serviceKnown_autosave (hk : op.req.kind = .autosave) : serviceKnown op s =
    (opBegun op (.writing (snapshotImage none lastLabel s.setup) s.setup.gen 0) .corrupt s, none) := by
  unfold serviceKnown
  rw [hk]
  rfl

theorem lockedEntry_iff (e : DirEntry) : lockedEntry e = true ↔ ∃ lb sb g, e = .valid lb true sb g := by
  cases e with
  | valid lb k sb g => cases k <;> simp [lockedEntry]
  | _ => simp [lockedEntry]

theorem lockedEntry_eq_false {e : DirEntry} (h : ∀ lb sb g, e ≠ .valid lb true sb g) : lockedEntry e = false :=
  Bool.eq_false_iff.2 fun hl => by
    obtain ⟨lb, sb, g, he⟩ := (lockedEntry_iff e).1 hl
    exact h lb sb g he

theorem serviceKnown_save {label : Vector Byte 8} (hk : op.req.kind = .save label)
    (h : ∀ lb sb g, s.saved.directory[op.req.slot] ≠ .valid lb true sb g) : serviceKnown op s =
    (opBegun op (.writing (snapshotImage op.req.source label s.setup) s.setup.gen 0) .corrupt s, none) := by
  unfold serviceKnown
  rw [hk]
  exact (if_neg (by rw [lockedEntry_eq_false h]; decide)).trans rfl

theorem serviceKnown_erase (hk : op.req.kind = .erase) (h : ∀ lb sb g, s.saved.directory[op.req.slot] ≠ .valid lb true sb g) :
    serviceKnown op s = (opBegun op .erasing .corrupt s, none) := by
  unfold serviceKnown
  rw [hk]
  exact (if_neg (by rw [lockedEntry_eq_false h]; decide)).trans rfl

/-- A save or an erase of a locked slot ends at once. -/
theorem serviceKnown_locked (hk : op.req.kind = .erase ∨ ∃ label, op.req.kind = .save label)
    {lb : Vector Byte 8} {sb : BitVec 7} {g : BitVec 16} (h : s.saved.directory[op.req.slot] = .valid lb true sb g) :
    serviceKnown op s = (s, some (.slotLocked, .nothing)) := by
  unfold serviceKnown
  rcases hk with hk | ⟨label, hk⟩ <;> (rw [hk, h]; rfl)

/-- A recall or a lock change of an EMPTY slot ends at once. -/
theorem serviceKnown_empty (hk : op.req.kind = .recall ∨ ∃ on, op.req.kind = .lock on)
    (h : s.saved.directory[op.req.slot] = .empty) : serviceKnown op s = (s, some (.slotEmpty, .nothing)) := by
  unfold serviceKnown
  rcases hk with hk | ⟨on, hk⟩
  · rw [hk]
    exact if_pos h
  · rw [hk, h]

/-- A lock change of a slot that is as asked ends at once. -/
theorem serviceKnown_asAsked {on : Bool} (hk : op.req.kind = .lock on) {lb : Vector Byte 8} {sb : BitVec 7} {g : BitVec 16}
    (h : s.saved.directory[op.req.slot] = .valid lb on sb g) : serviceKnown op s = (s, some (.done, .nothing)) := by
  unfold serviceKnown
  rw [hk, h]
  exact if_pos rfl

/-- Any other recall or lock change reads the slot. -/
theorem serviceKnown_reads (hk : op.req.kind = .recall ∨ ∃ on, op.req.kind = .lock on)
    (hne : s.saved.directory[op.req.slot] ≠ .empty)
    (hask : ∀ on lb sb g, op.req.kind = .lock on → s.saved.directory[op.req.slot] ≠ .valid lb on sb g) :
    serviceKnown op s = (opBegun op .reading s.saved.directory[op.req.slot] s, none) := by
  rw [← setOp_phase]
  unfold serviceKnown
  rcases hk with hk | ⟨on, hk⟩
  · rw [hk]
    exact if_neg hne
  · rw [hk]
    dsimp only
    cases he : s.saved.directory[op.req.slot] with
    | empty => exact absurd he hne
    | valid lb k sb g => exact if_neg fun hkon => hask on lb sb g hk (by rw [he, hkon])
    | unread => rfl
    | corrupt => rfl

end Service

/-! ### The queue served -/

section Serve
variable {s : State}

theorem serveNext_inFlight {op : Op} (h : s.saved.op = some op) : serveNext s = s := by
  unfold serveNext serveQueue
  rw [h]

theorem serveQueue_atRest (n : Nat) (ho : s.saved.op = none) (hq : s.saved.queue = []) : serveQueue (n + 1) s = storeAtRest s := by
  rw [serveQueue, ho, hq]

theorem serveNext_atRest (ho : s.saved.op = none) (hq : s.saved.queue = []) : serveNext s = storeAtRest s :=
  serveQueue_atRest _ ho hq

/-- A request has joined the queue. -/
def queueAdded (req : StoreReq) (s : State) : State := s.withSaved { s.saved with queue := s.saved.queue ++ [req] }

/-- A request whose service begins, the controller BUSY. -/
def inService (s : State) : State := s.withSaved { s.saved with ctrl := .busy }

theorem inService_eq (hq : s.saved.queue = []) : inService s = s.withSaved { s.saved with queue := [], ctrl := .busy } := by
  unfold inService
  rw [← hq]

theorem serveQueue_begins {n : Nat} {req : StoreReq} {rest : List StoreReq} {t : State} (ho : s.saved.op = none)
    (hq : s.saved.queue = req :: rest)
    (hb : beginService (opOf req) (s.withSaved { s.saved with queue := rest, ctrl := .busy }) = (t, none)) :
    serveQueue (n + 1) s = t := by
  rw [serveQueue, ho, hq]
  dsimp only
  rw [hb]

theorem serveQueue_ends {n : Nat} {req : StoreReq} {rest : List StoreReq} {r : Status × Payload} {t : State}
    (ho : s.saved.op = none) (hq : s.saved.queue = req :: rest)
    (hb : beginService (opOf req) (s.withSaved { s.saved with queue := rest, ctrl := .busy }) = (t, some r)) :
    serveQueue (n + 1) s = serveQueue n (deliver (opOf req) r.1 r.2 (setOp none t)) := by
  rw [serveQueue, ho, hq]
  dsimp only
  rw [hb]

theorem serveNext_begins {req : StoreReq} {t : State} (ho : s.saved.op = none) (hq : s.saved.queue = [])
    (hb : beginService (opOf req) (inService s) = (t, none)) : serveNext (queueAdded req s) = t := by
  rw [inService_eq hq] at hb
  exact serveQueue_begins ho (congrArg (· ++ [req]) hq) hb

theorem serveNext_ends {req : StoreReq} {r : Status × Payload} {t : State} (ho : s.saved.op = none) (hq : s.saved.queue = [])
    (ht : t.saved.queue = []) (hb : beginService (opOf req) (inService s) = (t, some r)) :
    serveNext (queueAdded req s) = storeAtRest (deliver (opOf req) r.1 r.2 (setOp none t)) := by
  have hadd : (queueAdded req s).saved.queue = [req] := congrArg (· ++ [req]) hq
  have hd : (deliver (opOf req) r.1 r.2 (setOp none t)).saved = (setOp none t).saved := by rw [deliver_frame]; rfl
  rw [inService_eq hq] at hb
  unfold serveNext
  rw [hadd, List.length_singleton, serveQueue_ends (s := queueAdded req s) ho hadd hb]
  exact serveQueue_atRest 0 (by rw [hd]; rfl) (by rw [hd]; exact ht)

end Serve

/-! ### The autosave offer (R184, R185) -/

/-- The autosave's request. -/
def autosaveRequest : StoreReq := ⟨none, .autosave, 0, false⟩

section Offer
variable {s : State}

/-- An autosave is queued or in flight. -/
def autosaveInHand (sv : SavedStore) : Bool :=
  sv.queue.any (fun r => r.source == none) || (match sv.op with
    | some op => op.req.source == none
    | none => false)

theorem autosaveOffer_eq (s : State) : autosaveOffer s =
    if s.saved.ctrl = .absent ∨ s.saved.cancelled ∨ s.setup.gen = s.saved.slot0Gen ∨ autosaveInHand s.saved then s
    else serveNext (queueAdded autosaveRequest s) := rfl

theorem autosaveInHand_queue {sv : SavedStore} (h : ∃ r ∈ sv.queue, r.source = none) : autosaveInHand sv = true := by
  obtain ⟨r, hr, hs⟩ := h
  have : sv.queue.any (fun r => r.source == none) = true := List.any_eq_true.2 ⟨r, hr, by rw [hs]; rfl⟩
  rw [autosaveInHand, this, Bool.true_or]

theorem autosaveInHand_op {sv : SavedStore} {op : Op} (ho : sv.op = some op) (h : op.req.source = none) :
    autosaveInHand sv = true := by
  rw [autosaveInHand, ho]
  simp [h]

theorem autosaveInHand_eq_false {sv : SavedStore} (hq : ∀ r ∈ sv.queue, r.source ≠ none)
    (ho : ∀ op, sv.op = some op → op.req.source ≠ none) : autosaveInHand sv = false := by
  have hany : sv.queue.any (fun r => r.source == none) = false :=
    List.any_eq_false.2 fun r hr => by simpa using hq r hr
  rw [autosaveInHand, hany, Bool.false_or]
  split
  · next op h => exact beq_eq_false_iff_ne.2 (ho op h)
  · rfl

/-- An offer that passes is queued, and served where nothing is in flight. -/
theorem autosaveOffer_taken (hc : s.saved.ctrl ≠ .absent) (hn : s.saved.cancelled = false) (hg : s.setup.gen ≠ s.saved.slot0Gen)
    (hh : autosaveInHand s.saved = false) :
    autosaveOffer s = serveNext (queueAdded autosaveRequest s) := by
  rw [autosaveOffer_eq, hn, hh]
  exact if_neg (by simp [hc, hg])

theorem autosaveOffer_dropped (h : s.saved.ctrl = .absent ∨ s.setup.gen = s.saved.slot0Gen ∨ autosaveInHand s.saved = true) :
    autosaveOffer s = s := by
  rw [autosaveOffer_eq]
  exact if_pos (by tauto)

/-- The state without the quiet timer, whose offer is judged. -/
def offered (s : State) : State := s.withSetup { s.setup with quiet := none }

theorem exec_quietTimerExpiry (h : s.setup.quiet ≠ none) : exec .quietTimerExpiry s = .next (autosaveOffer (offered s)) := if_neg h

end Offer

/-- Settles O44: each expiry by its own timer, the offer of the quiet timer by the state of the store. -/
theorem timerExpiries : Obligations.TimerExpiries := by
  intro l s
  refine ⟨fun h => ?queue, fun h => ?record, fun h => if_neg h, fun r h hcap hr => ?auto, fun h hdrop => ?dropped,
    fun h hc hn hg hq ho hd => ?served, fun h hc hn hg hq ho hd => ?unread, fun op h ho hin => ?inHand,
    fun op h ho hs hq hc hn hg => ?behind, fun h => if_pos h, fun h => if_pos h, fun h => if_pos h, fun h => if_pos h,
    fun h => if_pos h⟩
  case queue => exact (if_neg h).trans rfl
  case record => exact (if_neg h).trans rfl
  case auto =>
    obtain ⟨lit, he⟩ := forcedTrigger_eq (s := s.withSeq { s.seq with auto := none }) hr
    refine ⟨_, (if_neg h).trans (if_pos hcap), ?_⟩
    rw [he]
    exact ⟨rfl, rfl, rfl, rfl, rfl⟩
  case dropped =>
    rw [exec_quietTimerExpiry h, autosaveOffer_dropped (s := offered s) (hdrop.imp_right .inl)]
    rfl
  case served =>
    have hin : autosaveInHand s.saved = false := autosaveInHand_eq_false (by simp [hq]) (by simp [ho])
    rw [exec_quietTimerExpiry h, autosaveOffer_taken (s := offered s) (by rw [show (offered s).saved = s.saved from rfl, hc]; decide) hn hg hin,
      serveNext_begins (s := offered s) ho hq ((beginService_known (op := opOf autosaveRequest)
        (s := inService (offered s)) hd).trans (serviceKnown_autosave rfl))]
    rfl
  case unread =>
    have hin : autosaveInHand s.saved = false := autosaveInHand_eq_false (by simp [hq]) (by simp [ho])
    rw [exec_quietTimerExpiry h, autosaveOffer_taken (s := offered s) (by rw [show (offered s).saved = s.saved from rfl, hc]; decide) hn hg hin,
      serveNext_begins (s := offered s) ho hq (beginService_unread (op := opOf autosaveRequest)
        (s := inService (offered s)) hd)]
    rfl
  case inHand =>
    rw [exec_quietTimerExpiry h, autosaveOffer_dropped (s := offered s)]
    · rfl
    · refine .inr (.inr (hin.elim (fun hs => autosaveInHand_op ho hs) autosaveInHand_queue))
  case behind =>
    have hin : autosaveInHand s.saved = false :=
      autosaveInHand_eq_false hq fun op' ho' => by cases ho.symm.trans ho'; exact hs
    rw [exec_quietTimerExpiry h, autosaveOffer_taken (s := offered s) (by rw [show (offered s).saved = s.saved from rfl, hc]; decide) hn hg hin,
      serveNext_inFlight (s := queueAdded autosaveRequest (offered s)) ho]
    rfl

end Sys2Proof.Machine
end

section
/-! PROOFS. The ends of EEPROM accesses of an operation in flight (R168, R172, R176 to R180, R182, R183, R185, R192, R193). -/

namespace Sys2Proof.Machine

/-! ### The final status handed (R182, R183, R193) -/

section Handed
variable {l : Link} {s v : State}

theorem answer_links_congr (h : v.links = s.links) (st : Status) (p : Payload) : (answer l st p v).links = (answer l st p s).links := by
  simp only [answer, setLink, h, State.withLinks_links]

theorem finalStatus_links_congr (h : v.links = s.links) (held : Bool) (st : Status) (p : Payload) :
    (finalStatus l held st p v).links = (finalStatus l held st p s).links := by
  unfold finalStatus
  split
  · exact answer_links_congr h st p
  · dsimp only
    rw [h]
    split
    · simp only [notify, setLink, h, State.withLinks_links]
    · exact h

theorem deliver_links_congr (h : v.links = s.links) (op : Op) (st : Status) (p : Payload) :
    (deliver op st p v).links = (deliver op st p s).links := by
  unfold deliver
  split
  · exact h
  · split
    · exact h
    · exact finalStatus_links_congr h ..

theorem markedStatus_eq (st : Status) :
    markedStatus st = if st ∈ [Status.done, .applied, .unchanged] then .doneDespiteCancel else .cancelled := by
  cases st <;> rfl

/-- An answer to a request in work. -/
theorem answer_inWork {tag kind : Byte} (h : (s.links.get l).inWork = some (tag, kind)) (st : Status) (p : Payload) :
    answer l st p s = replied l tag st p s := by
  unfold answer replied
  dsimp only
  rw [h]
  rfl

theorem finalHanded_deliver (op : Op) (st : Status) (p : Payload) (h : v.links = s.links) :
    finalHanded op st p s (deliver op st p v) := by
  refine ⟨fun hnone => ?_, fun l st' hl hd hst => ⟨fun tag kind hh hw => ?_, fun tag kind hh hdef => ?_⟩⟩
  · rw [deliver_links_congr h]
    rcases hnone with hnone | hnone
    · rw [deliver, hnone]
    · unfold deliver
      split
      · rfl
      · rw [if_pos hnone]
  all_goals
    rw [deliver_links_congr h, deliver, hl, hd, markedStatus_eq, ← hst]
    dsimp only
    rw [hh]
  · exact congrArg State.links (answer_inWork hw st' p)
  · exact congrArg State.links (finalStatus_deferred st' p hdef)

end Handed

/-! ### An operation that ends -/

section Ends
variable {op : Op} {s v : State}

theorem endOp_rest (hq : v.saved.queue = []) (st : Status) (p : Payload) :
    endOp op st p v = storeAtRest (deliver op st p (setOp none v)) := by
  have hd : (deliver op st p (setOp none v)).saved = (setOp none v).saved := by rw [deliver_frame]; rfl
  exact serveNext_atRest (by rw [hd]; rfl) (by rw [hd]; exact hq)

/-- Outside an entry into STANDBY the controller comes to rest and nothing else follows. -/
theorem endOp_settled (hq : v.saved.queue = []) (hc : v.saved.cancelled = false) (hb : v.saved.ctrl = .busy) (st : Status)
    (p : Payload) : endOp op st p v = (v.withSaved { v.saved with
      ctrl := .idle, op := none, limit := none, polling := false }).withLinks (deliver op st p v).links := by
  have hl : (deliver op st p (setOp none v)).links = (deliver op st p v).links := deliver_links_congr (s := v) (v := setOp none v) rfl ..
  rw [endOp_rest hq, storeAtRest_eq, deliver_frame, hl]
  refine (if_neg (Bool.eq_false_iff.1 hc)).trans ?_
  have hrest : restSaved (setOp none v).saved = { (setOp none v).saved with ctrl := .idle } := by
    rw [restSaved, if_pos (show (setOp none v).saved.ctrl = .busy from hb)]
  rw [show restSaved ((setOp none v).withLinks (deliver op st p v).links).saved = _ from hrest]
  rfl

/-- The end of an operation at an access, its slot's entry set. -/
theorem endedWith_endOp (h : aloneInFlight op s) (e : DirEntry) (st : Status) (p : Payload) :
    endedWith op e st p s (endOp op st p (setEntry op.req.slot e s)) := by
  obtain ⟨-, -, hq, hb, hc⟩ := h
  have he := endOp_settled (op := op) (v := setEntry op.req.slot e s) hq hc hb st p
  refine ⟨?_, ?_⟩
  · rw [he]
    rfl
  · have := finalHanded_deliver (s := s) (v := setEntry op.req.slot e s) op st p rfl
    unfold finalHanded at this ⊢
    rw [he]
    exact this

/-- The same where the entry stays as it stood. -/
theorem endedWith_endOp_kept (h : aloneInFlight op s) (st : Status) (p : Payload) :
    endedWith op s.saved.directory[op.req.slot] st p s (endOp op st p s) := by
  have hset : setEntry op.req.slot s.saved.directory[op.req.slot] s = s := by
    have : s.saved.directory.set op.req.slot s.saved.directory[op.req.slot] = s.saved.directory := Vector.set_getElem_self _
    unfold setEntry
    rw [this]
    rfl
  have := endedWith_endOp h s.saved.directory[op.req.slot] st p
  rwa [hset] at this

end Ends

/-! ### The installation of a recall -/

theorem finalStatus_noticeKept {l m : Link} {x : BitVec 7} (hx : noticeMask .result &&& x = 0#7) (held : Bool) (st : Status)
    (p : Payload) (s : State) : ((finalStatus l held st p s).links.get m).notices &&& x = (s.links.get m).notices &&& x := by
  by_cases hm : m = l
  · subst hm
    unfold finalStatus
    split
    · rw [answer_notices]
    · dsimp only
      split
      · rw [notify_notices, if_pos rfl, setLink, State.withLinks_links, PerLink.get_set_same]
        dsimp only
        rw [BitVec.and_or_distrib_right, hx]
        exact BitVec.or_zero
      · rfl
  · rw [finalStatus_other held st p s hm]

theorem deliver_noticeKept {m : Link} {x : BitVec 7} (hx : noticeMask .result &&& x = 0#7) (op : Op) (st : Status) (p : Payload)
    (s : State) : ((deliver op st p s).links.get m).notices &&& x = (s.links.get m).notices &&& x := by
  unfold deliver
  split
  · rfl
  · split
    · rfl
    · exact finalStatus_noticeKept hx ..

/-- An installation with another state of the Store Controller, and with other links that have the same SETUP_CHANGED. -/
theorem installed_withSaved {links : List Link} {st : Setup} {s v : State} (h : installed links st s v) (x : SavedStore)
    (k : PerLink LinkState)
    (hk : ∀ m, (k.get m).notices &&& noticeMask .setupChanged = (v.links.get m).notices &&& noticeMask .setupChanged) :
    installed links st (s.withSaved x) ((v.withSaved x).withLinks k) := by
  obtain ⟨h1, h2, h3, h4, h5, htold, hnot, hlit, h6, h7, h8, h9, h10, -, h12⟩ := h
  refine ⟨h1, h2, h3, h4, h5, fun m hm => ?_, fun m hm => ?_, hlit, h6, h7, h8, h9, h10, rfl, h12⟩
  · rw [State.withLinks_links, hk]; exact htold m hm
  · rw [State.withLinks_links, hk]; exact hnot m hm

/-! ### The reads (R176, R178, R180) -/

section Reads
variable {op : Op} {s t : State} {img : Image}

theorem exec_readComplete (h : s.saved.scanSlot = none) : exec (.eepromReadComplete img) s = .next (opRead img s) := by
  unfold exec execEepromReadComplete
  rw [h]

theorem opRead_resolves (ho : s.saved.op = some op) (hp : op.phase = .resolving)
    (hk : serviceKnown op (setEntry op.req.slot (classify img) s) = (t, none)) : opRead img s = t := by
  unfold opRead
  rw [ho]
  dsimp only
  rw [hp]
  dsimp only
  rw [hk]

theorem opRead_resolves_ends {r : Status × Payload} (ho : s.saved.op = some op) (hp : op.phase = .resolving)
    (hk : serviceKnown op (setEntry op.req.slot (classify img) s) = (t, some r)) : opRead img s = endOp op r.1 r.2 t := by
  unfold opRead
  rw [ho]
  dsimp only
  rw [hp]
  dsimp only
  rw [hk]

theorem opRead_lock {on : Bool} (ho : s.saved.op = some op) (hp : op.phase = .reading) (hk : op.req.kind = .lock on) :
    opRead img s = lockRead op on img s := by
  unfold opRead
  rw [ho]
  dsimp only
  rw [hp]
  dsimp only
  rw [hk]

theorem opRead_recall (ho : s.saved.op = some op) (hp : op.phase = .reading) (hk : op.req.kind = .recall) :
    opRead img s = recallRead op img s := by
  unfold opRead
  rw [ho]
  dsimp only
  rw [hp]
  dsimp only
  rw [hk]

theorem setEntry_get (n : Fin 12) (e : DirEntry) (s : State) : (setEntry n e s).saved.directory[n] = e :=
  Vector.getElem_set_self ..

/-- The entry is written once more as the access begins. -/
theorem opBegun_setEntry (op : Op) (phase : OpPhase) (e e' : DirEntry) (s : State) :
    opBegun op phase e (setEntry op.req.slot e' s) = opBegun op phase e s := by
  unfold opBegun setEntry
  simp only [State.withSaved_saved, Vector.set_set]
  rfl

end Reads

/-! ### Commits without an installation -/

section Commits
variable {src : Source} {req : List (Field × Int)} {u : State}

theorem commit_invalid {f : Field} (h : judge u.setup.live (timebaseWindow u) req = .invalid f) :
    commit src req u = (u, .invalid f) := by
  unfold commit
  rw [h]

theorem commit_constraint (h : judge u.setup.live (timebaseWindow u) req = .constraint) :
    commit src req u = (u, .constraint) := by
  unfold commit
  rw [h]

theorem commit_unchanged (h : judge u.setup.live (timebaseWindow u) req = .candidate u.setup.live) :
    commit src req u = (u, .unchanged u.setup.gen (clampedFlag req u.setup.live)) := by
  unfold commit
  rw [h]
  exact if_pos rfl

end Commits

/-! ### The read of a recall -/

section Recall
variable {op : Op} {s : State} {img : Image}

/-- The source of a recall's commit (R178). -/
def recallSource (op : Op) : Source := .store (if op.dropped then none else op.req.source)

/-- The commit of a recall (R178). -/
def recallCommit (op : Op) (img : Image) (s : State) : State × CommitResult :=
  commit (recallSource op) (setupRequest (imageSetup img)) (setEntry op.req.slot (classify img) s)

theorem recallRead_valid {lb : Vector Byte 8} {k : Bool} {sb : BitVec 7} {g : BitVec 16} (h : classify img = .valid lb k sb g) :
    recallRead op img s = endOp op (recallStatus (recallCommit op img s).2).1 (recallStatus (recallCommit op img s).2).2
      (recallCommit op img s).1 := by
  unfold recallRead recallCommit
  rw [h]
  rfl

/-- A recall that installs nothing ends with its status. -/
theorem recallRead_ends {lb : Vector Byte 8} {k : Bool} {sb : BitVec 7} {g : BitVec 16} {r : CommitResult}
    (h : classify img = .valid lb k sb g) (hr : recallCommit op img s = (setEntry op.req.slot (classify img) s, r)) :
    recallRead op img s = endOp op (recallStatus r).1 (recallStatus r).2 (setEntry op.req.slot (classify img) s) := by
  rw [recallRead_valid h, hr]

/-- The links told of a recall's installation (R25, R178). -/
theorem told_recallSource (op : Op) : (∀ l, op.req.source = some l → op.dropped = false → told (recallSource op) = [otherLink l]) ∧
    (op.dropped = true → told (recallSource op) = [.console, .remote]) := by
  refine ⟨fun l hl hd => ?_, fun hd => ?_⟩
  · rw [recallSource, hd, hl]; rfl
  · rw [recallSource, hd]; rfl

/-- A recall that installs its setup, in ACTIVE. -/
theorem recallRead_installs (ha : aloneInFlight op s) (hp : atPeace s) {lb : Vector Byte 8} {k : Bool} {sb : BitVec 7}
    {g : BitVec 16} (h : classify img = .valid lb k sb g) {st : Setup}
    (hj : judge s.setup.live (timebaseWindow s) (setupRequest (imageSetup img)) = .candidate st) (hne : st ≠ s.setup.live) :
    ∃ u, linksKept s u ∧ recallRead op img s = u.withLinks (recallRead op img s).links ∧
      installed (told (recallSource op)) st (s.withSaved (storeDone op (classify img) s.saved)) (recallRead op img s) ∧
      finalHanded op .applied (.installed (s.setup.gen + 1#32) (clampedFlag (setupRequest (imageSetup img)) st)) u
        (recallRead op img s) := by
  obtain ⟨-, -, hq, hb, hc⟩ := ha
  have hcommit : recallCommit op img s = (installAndHandOn (recallSource op) st (setEntry op.req.slot (classify img) s),
      .applied (s.setup.gen + 1#32) (clampedFlag (setupRequest (imageSetup img)) st)
        (adjustedFlag (setupRequest (imageSetup img)) s.setup.live st)) :=
    commit_candidate (u := setEntry op.req.slot (classify img) s) hj hne
  have hins := installed_handOn (recallSource op) st (s := setEntry op.req.slot (classify img) s) hp.2
  have hlinks := installAndHandOn_linksKept (recallSource op) st (s := setEntry op.req.slot (classify img) s) hp.2
  rw [recallRead_valid h, hcommit]
  dsimp only [recallStatus]
  generalize installAndHandOn (recallSource op) st (setEntry op.req.slot (classify img) s) = v at hins hlinks ⊢
  have hv : v.saved = (setEntry op.req.slot (classify img) s).saved := by
    obtain ⟨-, -, -, -, -, -, -, -, -, -, -, -, -, hv, -⟩ := hins
    exact hv
  rw [endOp_settled (by rw [hv]; exact hq) (by rw [hv]; exact hc) (by rw [hv]; exact hb), hv]
  refine ⟨v.withSaved (storeDone op (classify img) s.saved), hlinks, rfl, ?_, ?_⟩
  · exact installed_withSaved hins _ _ fun m => deliver_noticeKept (by decide) ..
  · exact finalHanded_deliver (s := v.withSaved (storeDone op (classify img) s.saved)) (v := v) _ _ _ rfl

end Recall

/-- Settles O58: by the phase and the kind of the operation, and the class of the image read. -/
theorem eepromReadsEnd : Obligations.EepromReadsEnd := by
  intro op img s ha
  obtain ⟨ho, hscan, hq, hb, hc⟩ := id ha
  have hentry : (setEntry op.req.slot (classify img) s).saved.directory[op.req.slot] = classify img := setEntry_get ..
  have ends {e : DirEntry} {st : Status} (hp : op.phase = .resolving) (he : classify img = e)
      (hk : serviceKnown op (setEntry op.req.slot (classify img) s) = (setEntry op.req.slot (classify img) s, some (st, .nothing))) :
      endedWith op e st .nothing s (opRead img s) := by
    rw [opRead_resolves_ends ho hp hk, he]
    exact endedWith_endOp ha e st .nothing
  refine ⟨_, exec_readComplete hscan, fun hp hk => ⟨fun he => ?empty, fun he => ?corrupt⟩,
    fun on lb k sb g hp hk he => ⟨fun hon => ?asAsked, fun hon => ?locks⟩,
    fun hp hk => ⟨fun lb sb g he => ends hp he (serviceKnown_locked (.inl hk) (hentry.trans he)), fun he => ?erases⟩,
    fun hp source label hk => ?writes,
    fun hp label lb sb g hk he => ends hp he (serviceKnown_locked (.inr ⟨label, hk⟩) (hentry.trans he)),
    fun hp hk => ⟨fun he => ends hp he (serviceKnown_empty hk (hentry.trans he)),
      fun on lb sb g hl he => ends hp he (serviceKnown_asAsked hl (hentry.trans he)), fun he hn => ?reads⟩,
    fun e lb k sb g hp hk hv he hpeace => ?recalls⟩
  case empty =>
    rcases hk with hk | ⟨on, hk⟩
    · rw [opRead_recall ho hp hk, recallRead, he]
      exact endedWith_endOp ha ..
    · rw [opRead_lock ho hp hk, lockRead, he]
      exact endedWith_endOp ha ..
  case corrupt =>
    rcases hk with hk | ⟨on, hk⟩
    · rw [opRead_recall ho hp hk, recallRead, he]
      exact endedWith_endOp ha ..
    · rw [opRead_lock ho hp hk, lockRead, he]
      exact endedWith_endOp ha ..
  case asAsked =>
    rw [opRead_lock ho hp hk, lockRead, he]
    dsimp only
    rw [if_pos hon]
    exact endedWith_endOp ha ..
  case locks =>
    rw [opRead_lock ho hp hk, lockRead, he]
    exact (if_neg hon).trans rfl
  case erases =>
    rw [opRead_resolves ho hp (serviceKnown_erase hk fun lb sb g => by rw [hentry]; exact he lb sb g), opBegun_setEntry]
    rfl
  case writes =>
    rcases hk with ⟨hk, rfl, he⟩ | ⟨hk, rfl, rfl⟩
    · rw [opRead_resolves ho hp (serviceKnown_save hk fun lb sb g => by rw [hentry]; exact he lb sb g), opBegun_setEntry]
      rfl
    · rw [opRead_resolves ho hp (serviceKnown_autosave hk), opBegun_setEntry]
      rfl
  case reads =>
    rw [opRead_resolves ho hp (serviceKnown_reads hk (by rw [hentry]; exact he)
      fun on lb sb g hl => by rw [hentry]; exact hn on lb sb g hl), hentry, opBegun_setEntry]
    rfl
  case recalls =>
    have hvalid := he.trans hv
    rw [opRead_recall ho hp hk, ← he]
    refine ⟨fun ⟨f, hj⟩ => ?_, fun hj => ?_, fun st hj => ⟨fun hst => ?_, fun hst => ?_⟩⟩
    · rw [recallRead_ends hvalid (commit_invalid (u := setEntry op.req.slot (classify img) s) hj)]
      exact endedWith_endOp ha ..
    · rw [recallRead_ends hvalid (commit_constraint (u := setEntry op.req.slot (classify img) s) hj)]
      exact endedWith_endOp ha ..
    · subst hst
      rw [recallRead_ends hvalid (commit_unchanged (u := setEntry op.req.slot (classify img) s) hj), clampedFlag_eq]
      exact endedWith_endOp ha ..
    · obtain ⟨u, h1, h2, h3, h4⟩ := recallRead_installs ha hpeace hvalid hj hst
      rw [← clampedFlag_eq]
      exact ⟨_, u, h1, h2, (told_recallSource op).1, (told_recallSource op).2, h3, h4⟩

/-! ### Page writes and faults -/

section Writes
variable {op : Op} {s : State}

theorem opPage_writing {img : Image} {g : Word} {page : Nat} (ho : s.saved.op = some op) (hp : op.phase = .writing img g page) :
    opPage s = if page < 5 then setOp (some { op with phase := .writing img g (page + 1) }) s else writeEnds op img g s := by
  unfold opPage
  rw [ho]
  dsimp only
  rw [hp]

theorem opPage_sixth {img : Image} {g : Word} (ho : s.saved.op = some op) (hp : op.phase = .writing img g 5) :
    opPage s = writeEnds op img g s := (opPage_writing ho hp).trans (if_neg (by decide))

theorem exec_accessFault (h : s.saved.scanSlot = none) : exec .eepromAccessFault s = .next (opFault s) := by
  unfold exec execEepromAccessFault
  rw [h]

/-- The operation ends with another slot-0 saved generation. -/
theorem endOp_autosave (ha : aloneInFlight op s) (hs : op.req.source = none) (e : DirEntry) (g : Word) (st : Status) :
    endOp op st .nothing (s.withSaved { s.saved with directory := s.saved.directory.set op.req.slot e, slot0Gen := g }) =
      s.withSaved { storeDone op e s.saved with slot0Gen := g } := by
  obtain ⟨-, -, hq, hb, hc⟩ := ha
  have hd (v : State) : deliver op st .nothing v = v := by
    unfold deliver
    rw [hs]
  rw [endOp_settled (v := s.withSaved { s.saved with directory := s.saved.directory.set op.req.slot e, slot0Gen := g }) hq hc hb, hd]
  rfl

theorem writeEnds_autosave (ha : aloneInFlight op s) (hk : op.req.kind = .autosave) (hs : op.req.source = none) (img : Image)
    (g : Word) : writeEnds op img g s = s.withSaved { storeDone op (classify img) s.saved with slot0Gen := g } := by
  rw [← endOp_autosave ha hs]
  unfold writeEnds
  dsimp only
  rw [hk]
  rfl

end Writes

/-- Settles O59: by the phase and the kind of the operation. -/
theorem eepromWritesAndFaultsEnd : Obligations.EepromWritesAndFaultsEnd := by
  intro op s ha
  obtain ⟨ho, hscan, hq, hb, hc⟩ := id ha
  refine ⟨⟨opPage s, rfl, fun img g page hp hlt => (opPage_writing ho hp).trans (if_pos hlt), fun img g label hp hk => ?saved,
    fun img g hp hk hs => ?autosaved, fun hp => ?erased, fun img hp => ?locked⟩,
    ⟨opFault s, exec_accessFault hscan, fun hp => ?fault, fun img g page label hp hk => ?saveFault,
      fun img g page hp hk hs => ?autosaveFault⟩⟩
  case saved =>
    rw [opPage_sixth ho hp, writeEnds, hk]
    exact endedWith_endOp ha ..
  case autosaved => rw [opPage_sixth ho hp, writeEnds_autosave ha hk hs]
  case erased =>
    unfold opPage
    rw [ho]
    dsimp only
    rw [hp]
    exact endedWith_endOp ha ..
  case locked =>
    unfold opPage
    rw [ho]
    dsimp only
    rw [hp]
    exact endedWith_endOp ha ..
  case fault =>
    have hf : opFault s = endOp op .storeFault .nothing s := by
      unfold opFault
      rw [ho]
      dsimp only
      rcases hp with hp | hp | hp | ⟨img, hp⟩ <;> rw [hp]
    rw [hf]
    exact endedWith_endOp_kept ha ..
  case saveFault =>
    have hf : opFault s = endOp op .storeFault (.pages page) s := by
      unfold opFault
      rw [ho]
      dsimp only
      rw [hp, hk]
    rw [hf]
    exact endedWith_endOp_kept ha ..
  case autosaveFault =>
    have hf : opFault s = endOp op .storeFault .nothing (s.withSaved { s.saved with slot0Gen := 0#32 }) := by
      unfold opFault
      rw [ho]
      dsimp only
      rw [hp, hk]
    have hset : s.saved.directory.set op.req.slot s.saved.directory[op.req.slot] = s.saved.directory := Vector.set_getElem_self _
    have := endOp_autosave ha hs s.saved.directory[op.req.slot] 0#32 .storeFault
    rw [hf, ← this, hset]

end Sys2Proof.Machine
end

section
/-! PROOFS. Store requests at their arrival and at their first service (R174 to R176, R178, R180, R186, R192, R193). -/

namespace Sys2Proof.Machine

/-! ### The Store Controller and the links alone -/

/-- From v to u only the Store Controller, outside an entry into STANDBY, and the links have changed. -/
def StoreOnly (v u : State) : Prop := u = (v.withSaved u.saved).withLinks u.links ∧ u.saved.cancelled = v.saved.cancelled

theorem StoreOnly.trans {u v w : State} (h1 : StoreOnly u v) (h2 : StoreOnly v w) : StoreOnly u w := by
  obtain ⟨h1, hc1⟩ := h1
  obtain ⟨h2, hc2⟩ := h2
  refine ⟨?_, hc2.trans hc1⟩
  rw [h2, h1]
  rfl

section Frames
variable (op : Op) (v : State)

theorem storeOnly_deliver (st : Status) (p : Payload) : StoreOnly v (deliver op st p v) :=
  ⟨by rw [deliver_frame]; rfl, by rw [deliver_frame]; rfl⟩

/-- A service that begins changes the Store Controller alone, and not its queue. -/
def ServiceOnly (v u : State) : Prop :=
  u = v.withSaved u.saved ∧ u.saved.cancelled = v.saved.cancelled ∧ u.saved.queue = v.saved.queue

theorem serviceOnly_serviceKnown : ServiceOnly v (serviceKnown op v).1 := by
  unfold serviceKnown
  dsimp only
  split
  · split <;> exact ⟨rfl, rfl, rfl⟩
  · exact ⟨rfl, rfl, rfl⟩
  · split <;> exact ⟨rfl, rfl, rfl⟩
  · split <;> exact ⟨rfl, rfl, rfl⟩
  · split
    · exact ⟨rfl, rfl, rfl⟩
    · split <;> exact ⟨rfl, rfl, rfl⟩
    · exact ⟨rfl, rfl, rfl⟩

theorem serviceOnly_beginService : ServiceOnly v (beginService op v).1 := by
  unfold beginService
  split
  · exact ⟨rfl, rfl, rfl⟩
  · exact serviceOnly_serviceKnown op v

theorem storeOnly_beginService : StoreOnly v (beginService op v).1 := by
  obtain ⟨h, hc, -⟩ := serviceOnly_beginService op v
  refine ⟨?_, hc⟩
  rw [h]
  rfl

theorem storeAtRest_settles {v : State} (hc : v.saved.cancelled = false) : storeAtRest v = v.withSaved (restSaved v.saved) := by
  rw [storeAtRest_eq]
  exact if_neg (Bool.eq_false_iff.1 hc)

theorem storeOnly_serveQueue (n : Nat) {v : State} (hc : v.saved.cancelled = false) : StoreOnly v (serveQueue n v) := by
  induction n generalizing v with
  | zero => exact ⟨rfl, rfl⟩
  | succ n ih =>
    cases ho : v.saved.op with
    | some op =>
      rw [serveQueue, ho]
      exact ⟨rfl, rfl⟩
    | none =>
      cases hq : v.saved.queue with
      | nil =>
        rw [serveQueue_atRest n ho hq, storeAtRest_settles hc]
        exact ⟨rfl, rfl⟩
      | cons req rest =>
        have hbegin := storeOnly_beginService (opOf req) (v.withSaved { v.saved with queue := rest, ctrl := .busy })
        have hfirst : StoreOnly v (v.withSaved { v.saved with queue := rest, ctrl := .busy }) := ⟨rfl, rfl⟩
        obtain ⟨⟨t, r⟩, hb⟩ : ∃ x, beginService (opOf req) (v.withSaved { v.saved with queue := rest, ctrl := .busy }) = x := ⟨_, rfl⟩
        rw [hb] at hbegin
        cases r with
        | none =>
          rw [serveQueue_begins ho hq hb]
          exact hfirst.trans hbegin
        | some r =>
          rw [serveQueue_ends ho hq hb]
          have hnone : StoreOnly t (setOp none t) := ⟨rfl, rfl⟩
          have hd := (hfirst.trans (hbegin.trans hnone)).trans (storeOnly_deliver (opOf req) (setOp none t) r.1 r.2)
          exact hd.trans (ih (hd.2.trans hc))

theorem storeOnly_serveNext {v : State} (hc : v.saved.cancelled = false) : StoreOnly v (serveNext v) := storeOnly_serveQueue _ hc

end Frames

/-! ### The acceptance of a long request (R192, R193) -/

section Accepted
variable {l : Link} {tag code : Byte} {s : State}

/-- A long request of a link, accepted. -/
def accepted (l : Link) (tag code : Byte) (s : State) : State := acceptLong l tag code (working l tag code s)

theorem holds_working (l : Link) (tag code : Byte) (s : State) :
    holds l (working l tag code s) = decide ((s.links.get l).style = .hold) := by cases l <;> rfl

theorem accepted_hold (h : (s.links.get l).style = .hold) : accepted l tag code s = working l tag code s :=
  if_pos (by rw [holds_working]; exact decide_eq_true h)

theorem accepted_defer (h : (s.links.get l).style = .defer) : accepted l tag code s = s.withLinks (s.links.set l { s.links.get l with
    response := some ⟨tag, .accepted, .nothing⟩, inWork := none, ready := true, refusal := none, deferred := .outstanding tag code }) := by
  refine (if_neg (by rw [holds_working, h]; decide)).trans ?_
  rw [answer_working]
  unfold replied setLink
  simp only [State.withLinks_links, PerLink.get_set_same, PerLink.set_set]
  rfl

theorem accepted_frame (l : Link) (tag code : Byte) (s : State) : accepted l tag code s = s.withLinks (accepted l tag code s).links := by
  cases h : (s.links.get l).style with
  | hold => rw [accepted_hold h]; rfl
  | defer => rw [accepted_defer h]; rfl

/-- What a DEFER link holds once its request is accepted. -/
theorem accepted_answered (h : (s.links.get l).style = .defer) : answered l tag .accepted .nothing (accepted l tag code s) ∧
    ((accepted l tag code s).links.get l).deferred = .outstanding tag code ∧
    ((accepted l tag code s).links.get l).notices = (s.links.get l).notices := by
  rw [accepted_defer h]
  unfold answered
  simp only [State.withLinks_links, PerLink.get_set_same]
  exact ⟨⟨trivial, trivial, trivial, trivial⟩, trivial, trivial⟩

end Accepted

/-! ### The arrival checks (R175, R186) -/

section Arrival
variable {l : Link} {tag slot value : Byte} {label : Vector Byte 8} {i : Instr} {code : Byte} {kind : StoreKind} {s : State}

/-- A store request of these operands, its code and its kind. -/
def asksStore (l : Link) (tag slot value : Byte) (label : Vector Byte 8) (i : Instr) (code : Byte) (kind : StoreKind) : Prop :=
  (i = .storeSave l tag slot label ∧ code = 0x60#8 ∧ kind = .save label) ∨
    (i = .storeRecall l tag slot ∧ code = 0x61#8 ∧ kind = .recall) ∨
    (i = .storeErase l tag slot ∧ code = 0x62#8 ∧ kind = .erase) ∨
    (i = .storeLock l tag slot value ∧ code = 0x63#8 ∧ kind = .lock (decide (value = 1#8)))

/-- A label or a lock value that fails its check. -/
def badValues (value : Byte) (label : Vector Byte 8) (code : Byte) (kind : StoreKind) : Prop :=
  (kind = .save label ∧ ∃ b ∈ label.toList, b.toNat < 0x20 ∨ 0x7E < b.toNat) ∨ (code = 0x63#8 ∧ 1 < value.toNat)

theorem labelOk_iff (label : Vector Byte 8) : labelOk label = true ↔ ¬ ∃ b ∈ label.toList, b.toNat < 0x20 ∨ 0x7E < b.toNat := by
  unfold labelOk
  rw [List.all_eq_true]
  simp only [Bool.and_eq_true, decide_eq_true_eq, not_exists, not_and, not_or, Nat.not_lt]

theorem isSome_onOff (value : Byte) : (onOff value).isSome = true ↔ ¬ 1 < value.toNat := by
  rw [Option.isSome_iff_exists, onOff_isSome, Nat.not_lt]

theorem badValues_save (value : Byte) (label : Vector Byte 8) :
    badValues value label 0x60#8 (.save label) ↔ ∃ b ∈ label.toList, b.toNat < 0x20 ∨ 0x7E < b.toNat :=
  ⟨fun h => h.elim And.right fun h => absurd h.1 (by decide), fun h => .inl ⟨rfl, h⟩⟩

theorem badValues_lock (value : Byte) (label : Vector Byte 8) (on : Bool) :
    badValues value label 0x63#8 (.lock on) ↔ 1 < value.toNat :=
  ⟨fun h => h.elim (fun h => by cases h.1) And.right, fun h => .inr ⟨rfl, h⟩⟩

theorem not_badValues {value code : Byte} {label : Vector Byte 8} {kind : StoreKind} (hk : kind ≠ .save label) (hc : code ≠ 0x63#8) :
    ¬ badValues value label code kind := fun h => h.elim (fun h => hk h.1) fun h => hc h.1

theorem onOff_getD (value : Byte) : (onOff value).getD false = decide (value = 1#8) := by
  unfold onOff
  split
  · next h => subst h; rfl
  · split
    · next h => subst h; rfl
    · next h => rw [decide_eq_false h]; rfl

/-- Each store request comes to its owner with its values judged. -/
theorem exec_asksStore (ht : takingLong l s) (h : asksStore l tag slot value label i code kind) : ∃ ok,
    exec i s = .next (storeRequest l tag code kind ok slot (working l tag code s)) ∧ (ok = true ↔ ¬ badValues value label code kind) ∧
    (writesSlot kind = true ↔ kind ≠ .recall) ∧ (lockChecked kind = true ↔ code = 0x60#8 ∨ code = 0x62#8) := by
  have hno {k : StoreKind} (hk : writesSlot k = true) (hne : k ≠ .recall) : writesSlot k = true ↔ k ≠ .recall :=
    ⟨fun _ => hne, fun _ => hk⟩
  rcases h with ⟨rfl, rfl, rfl⟩ | ⟨rfl, rfl, rfl⟩ | ⟨rfl, rfl, rfl⟩ | ⟨rfl, rfl, rfl⟩
  · exact ⟨_, request_takingLong tag _ _ ht, (labelOk_iff label).trans (not_congr (badValues_save value label)).symm,
      hno rfl (fun h => by cases h), fun _ => .inl rfl, fun _ => rfl⟩
  · exact ⟨_, request_takingLong tag _ _ ht, ⟨fun _ => not_badValues (fun h => by cases h) (by decide), fun _ => rfl⟩,
      ⟨fun h => (by cases h), fun h => absurd rfl h⟩, fun h => (by cases h), fun h => h.elim (by decide) (by decide)⟩
  · exact ⟨_, request_takingLong tag _ _ ht, ⟨fun _ => not_badValues (fun h => by cases h) (by decide), fun _ => rfl⟩,
      hno rfl (fun h => by cases h), fun _ => .inr rfl, fun _ => rfl⟩
  · refine ⟨(onOff value).isSome, (request_takingLong tag _ _ ht).trans ?_,
      (isSome_onOff value).trans (not_congr (badValues_lock value label _)).symm, hno rfl (fun h => by cases h),
      fun h => (by cases h), fun h => h.elim (fun h => absurd h (by decide)) (fun h => absurd h (by decide))⟩
    rw [ownStoreLock, onOff_getD]

end Arrival

section Refusal
variable {l : Link} {kind : StoreKind} {ok : Bool} {slot : Byte} {s : State}

theorem hasRequest_iff (l : Link) (sv : SavedStore) : hasRequest l sv = true ↔
    (∃ r ∈ sv.queue, r.source = some l) ∨ ∃ op, sv.op = some op ∧ op.req.source = some l := by
  unfold hasRequest
  rw [Bool.or_eq_true, List.any_eq_true]
  simp only [beq_iff_eq]
  refine or_congr Iff.rfl ?_
  cases sv.op with
  | none => simp
  | some op => simp

theorem arrivalRefusal_cancelled (h : s.saved.cancelled = true) : arrivalRefusal l kind ok slot s = some .inStandby := if_pos h

theorem arrivalRefusal_gated (hc : s.saved.cancelled = false) (hk : kind = .recall) (hg : gated l s = true) :
    arrivalRefusal l kind ok slot s = some .locked :=
  (if_neg (Bool.eq_false_iff.1 hc)).trans (if_pos ⟨hk, hg⟩)

section Passed
variable (hc : s.saved.cancelled = false) (hg : kind ≠ .recall ∨ gated l s = false)
include hc hg

theorem arrivalRefusal_past : arrivalRefusal l kind ok slot s = if s.saved.ctrl = .absent then some .noStore else
    match slotOf slot with
    | none => some .invalid
    | some n =>
        if n.val = 0 ∧ writesSlot kind then some .notPermitted
        else if !ok then some .invalid
        else if lockChecked kind && lockedEntry s.saved.directory[n] then some .slotLocked
        else if hasRequest l s.saved then some .busy
        else none := by
  have hgate : ¬(kind = .recall ∧ gated l s = true) := fun h => hg.elim (· h.1) fun hf => by rw [hf] at h; cases h.2
  exact (if_neg (Bool.eq_false_iff.1 hc)).trans ((if_neg hgate).trans rfl)

theorem arrivalRefusal_absent (ha : s.saved.ctrl = .absent) : arrivalRefusal l kind ok slot s = some .noStore := by
  rw [arrivalRefusal_past hc hg, if_pos ha]

theorem arrivalRefusal_noSlot (ha : s.saved.ctrl ≠ .absent) (hs : 12 ≤ slot.toNat) :
    arrivalRefusal l kind ok slot s = some .invalid := by
  have hn : slotOf slot = none := dif_neg (Nat.not_lt.2 hs)
  rw [arrivalRefusal_past hc hg, if_neg ha, hn]

theorem arrivalRefusal_slot (ha : s.saved.ctrl ≠ .absent) (hs : slot.toNat < 12) : arrivalRefusal l kind ok slot s =
    if slot.toNat = 0 ∧ writesSlot kind then some .notPermitted
    else if !ok then some .invalid
    else if lockChecked kind && lockedEntry s.saved.directory[slot.toNat] then some .slotLocked
    else if hasRequest l s.saved then some .busy
    else none := by
  have hn : slotOf slot = some ⟨slot.toNat, hs⟩ := dif_pos hs
  rw [arrivalRefusal_past hc hg, if_neg ha, hn]
  rfl

end Passed

end Refusal

/-! ### Refused and accepted -/

section Judged
variable {l : Link} {tag code slot : Byte} {kind : StoreKind} {ok : Bool} {s : State}

theorem storeRequest_refused {st : Status} (h : arrivalRefusal l kind ok slot (working l tag code s) = some st) :
    storeRequest l tag code kind ok slot (working l tag code s) = replied l tag st .nothing s := by
  unfold storeRequest
  rw [h]
  exact answer_working ..

/-- The request as it is queued (R174). -/
def queuedRequest (l : Link) (kind : StoreKind) (n : Fin 12) (s : State) : StoreReq :=
  ⟨some l, kind, n, decide ((s.links.get l).style = .hold)⟩

theorem storeRequest_accepted (hs : slot.toNat < 12) (h : arrivalRefusal l kind ok slot (working l tag code s) = none) :
    storeRequest l tag code kind ok slot (working l tag code s) =
      serveNext (queueAdded (queuedRequest l kind ⟨slot.toNat, hs⟩ s) (accepted l tag code s)) := by
  have hn : slotOf slot = some ⟨slot.toNat, hs⟩ := dif_pos hs
  unfold storeRequest
  rw [h, hn]
  dsimp only
  rw [holds_working]
  rfl

end Judged

/-! ### The first service (R176, R178, R180) -/

section First
variable {l : Link} {tag slot value code : Byte} {label : Vector Byte 8} {i : Instr} {kind : StoreKind} {v s : State} {req : StoreReq}

theorem asksStore_lock (h : asksStore l tag slot value label i code kind) (hc : code = 0x63#8) : kind = .lock (decide (value = 1#8)) := by
  rcases h with ⟨-, rfl, -⟩ | ⟨-, rfl, -⟩ | ⟨-, rfl, -⟩ | ⟨-, -, h⟩
  · cases hc
  · cases hc
  · cases hc
  · exact h

/-- A recall, or a lock change to this state. -/
theorem asksStore_reads (h : asksStore l tag slot value label i code kind) (hk : kind = .recall ∨ code = 0x63#8) :
    kind = .recall ∨ kind = .lock (decide (value = 1#8)) := hk.imp_right (asksStore_lock h)

/-- The service of a request that begins at once: its first access and its slot's entry. -/
theorem beginService_first {phase : OpPhase} {after : DirEntry}
    (hnot : ∀ label, req.kind = .save label ∨ req.kind = .erase → ∀ lb sb g, v.saved.directory[req.slot] ≠ .valid lb true sb g)
    (h : (v.saved.directory[req.slot] = .unread ∧ phase = .resolving ∧ after = .unread) ∨
      (v.saved.directory[req.slot] ≠ .unread ∧ req.kind = .save label ∧
        phase = .writing (snapshotImage req.source label v.setup) v.setup.gen 0 ∧ after = .corrupt) ∨
      (v.saved.directory[req.slot] ≠ .unread ∧ req.kind = .erase ∧ phase = .erasing ∧ after = .corrupt) ∨
      (v.saved.directory[req.slot] ≠ .unread ∧ v.saved.directory[req.slot] ≠ .empty ∧ (req.kind = .recall ∨
        ∃ on, req.kind = .lock on ∧ ∀ lb sb g, v.saved.directory[req.slot] ≠ .valid lb on sb g) ∧
        phase = .reading ∧ after = v.saved.directory[req.slot])) :
    beginService (opOf req) v = (opBegun (opOf req) phase after v, none) := by
  rcases h with ⟨hu, rfl, rfl⟩ | ⟨hu, hk, rfl, rfl⟩ | ⟨hu, hk, rfl, rfl⟩ | ⟨hu, he, hk, rfl, rfl⟩
  · rw [beginService_unread (op := opOf req) hu, setOp_phase, show v.saved.directory[(opOf req).req.slot] = _ from hu]
  · rw [beginService_known (op := opOf req) hu, serviceKnown_save (op := opOf req) hk (hnot label (.inl hk))]
    rfl
  · rw [beginService_known (op := opOf req) hu, serviceKnown_erase (op := opOf req) hk (hnot label (.inr hk))]
  · rw [beginService_known (op := opOf req) hu, serviceKnown_reads (op := opOf req) (hk.imp_right fun ⟨on, h, _⟩ => ⟨on, h⟩) he]
    · rfl
    · intro on lb sb g hlock
      rcases hk with hk | ⟨on', hk, hne⟩
      · cases hk.symm.trans hlock
      · cases hk.symm.trans hlock
        exact hne lb sb g

/-- The service of a request that ends at once. -/
theorem beginService_endsAtOnce {st : Status}
    (h : (v.saved.directory[req.slot] = .empty ∧ (req.kind = .recall ∨ ∃ on, req.kind = .lock on) ∧ st = .slotEmpty) ∨
      ((∃ on lb sb g, req.kind = .lock on ∧ v.saved.directory[req.slot] = .valid lb on sb g) ∧ st = .done)) :
    beginService (opOf req) v = (v, some (st, .nothing)) := by
  rcases h with ⟨he, hk, rfl⟩ | ⟨⟨on, lb, sb, g, hk, he⟩, rfl⟩
  · rw [beginService_known (op := opOf req) (by rw [show v.saved.directory[(opOf req).req.slot] = _ from he]; exact fun h => by cases h),
      serviceKnown_empty (op := opOf req) hk he]
  · rw [beginService_known (op := opOf req) (by rw [show v.saved.directory[(opOf req).req.slot] = _ from he]; exact fun h => by cases h),
      serviceKnown_asAsked (op := opOf req) hk he]

theorem restSaved_served {sv : SavedStore} (ho : sv.op = none) (hi : sv.ctrl = .idle) :
    restSaved { sv with ctrl := .busy, op := none, limit := none, polling := false } = { sv with limit := none, polling := false } := by
  cases sv
  cases ho
  cases hi
  rfl

/-- A service that ends at once leaves the controller at rest, the status handed. -/
theorem serveNext_endsAtOnce {st : Status} (ho : v.saved.op = none) (hq : v.saved.queue = []) (hi : v.saved.ctrl = .idle)
    (hc : v.saved.cancelled = false) (hb : beginService (opOf req) (inService v) = (inService v, some (st, .nothing))) :
    serveNext (queueAdded req v) = (v.withSaved { v.saved with limit := none, polling := false }).withLinks
      (deliver (opOf req) st .nothing v).links := by
  have hl : (deliver (opOf req) st .nothing (setOp none (inService v))).links = (deliver (opOf req) st .nothing v).links :=
    deliver_links_congr (s := v) (v := setOp none (inService v)) rfl ..
  rw [serveNext_ends ho hq (show (inService v).saved.queue = [] from hq) hb]
  dsimp only
  rw [deliver_frame, hl, storeAtRest_settles (v := (setOp none (inService v)).withLinks _) hc]
  exact congrArg (fun sv => (v.withSaved sv).withLinks _) (restSaved_served ho hi)

/-- While the request's operation is in flight or waits behind another, its link has only the acceptance. -/
theorem serveNext_links (hc : v.saved.cancelled = false)
    (h : v.saved.op ≠ none ∨ (v.saved.queue = [] ∧ v.saved.ctrl = .idle ∧ (serveNext (queueAdded req v)).saved.op ≠ none)) :
    (serveNext (queueAdded req v)).links = v.links := by
  cases ho : v.saved.op with
  | some op => rw [serveNext_inFlight (s := queueAdded req v) ho]; rfl
  | none =>
    obtain ⟨hq, -, hop⟩ := h.resolve_left (fun h => h ho)
    obtain ⟨hframe, hcan, hqueue⟩ := serviceOnly_beginService (opOf req) (inService v)
    obtain ⟨⟨t, r⟩, hb⟩ : ∃ x, beginService (opOf req) (inService v) = x := ⟨_, rfl⟩
    rw [hb] at hframe hcan hqueue
    cases r with
    | none =>
      rw [serveNext_begins ho hq hb]
      exact (congrArg State.links hframe).trans rfl
    | some r =>
      refine absurd ?_ hop
      rw [serveNext_ends ho hq (hqueue.trans hq) hb, deliver_frame,
        storeAtRest_settles (v := (setOp none t).withLinks _) (hcan.trans hc)]
      rfl

end First

/-- Settles O38: by the arrival checks in their order, and then by the first service. -/
theorem storeRequestsArriveAndAreServed : Obligations.StoreRequestsArriveAndAreServed := by
  intro l tag slot value label s ht i code kind hi
  obtain ⟨ok, he, hok, hwrites, hlockChecked⟩ := exec_asksStore ht hi
  have refused {st : Status} (h : arrivalRefusal l kind ok slot (working l tag code s) = some st) :
      exec i s = .next (replied l tag st .nothing s) := by rw [he, storeRequest_refused h]
  refine ⟨fun hc => refused (arrivalRefusal_cancelled hc), fun hc => ⟨fun hk hp => ?gated, fun hg => ?_⟩⟩
  case gated => exact refused (arrivalRefusal_gated hc hk (gated_eq_true.2 hp))
  replace hg : kind ≠ .recall ∨ gated l (working l tag code s) = false := hg.imp_right gated_eq_false.2
  refine ⟨fun ha => refused (arrivalRefusal_absent hc hg ha), fun ha => ⟨fun h => refused (arrivalRefusal_noSlot hc hg ha h),
    fun h0 hk => ?zero, fun hs h0 => ?_⟩⟩
  case zero =>
    refine refused ((arrivalRefusal_slot hc hg ha (by omega)).trans (if_pos ⟨h0, hwrites.2 hk⟩))
  have hwr : ¬(slot.toNat = 0 ∧ writesSlot kind = true) := fun h => h0.elim (· h.1) fun hk => hwrites.1 h.2 hk
  have hcheck := (arrivalRefusal_slot (ok := ok) hc hg ha hs).trans (if_neg hwr)
  have hlocked : (lockChecked kind && lockedEntry s.saved.directory[slot.toNat]) = true ↔ (code = 0x60#8 ∨ code = 0x62#8) ∧
      ∃ lb sb g, s.saved.directory[slot.toNat] = .valid lb true sb g := by
    rw [Bool.and_eq_true, hlockChecked, lockedEntry_iff]
  have hpassed (hb : ¬ badValues value label code kind) : ¬((!ok) = true) := by rw [hok.2 hb]; decide
  refine ⟨fun hb => ?bad, fun hb hl => ?locked, fun hb hl hr => ?busy, fun hb hl hr => ?_⟩
  case bad =>
    have hno : (!ok) = true := by
      rw [Bool.not_eq_true', Bool.eq_false_iff]
      exact fun h => hok.1 h hb
    exact refused (hcheck.trans (if_pos hno))
  case locked => exact refused (hcheck.trans ((if_neg (hpassed hb)).trans (if_pos (hlocked.2 hl))))
  case busy =>
    exact refused (hcheck.trans ((if_neg (hpassed hb)).trans ((if_neg (mt hlocked.1 hl)).trans
      (if_pos ((hasRequest_iff l s.saved).2 hr)))))
  have hnone := hcheck.trans ((if_neg (hpassed hb)).trans ((if_neg (mt hlocked.1 hl)).trans
    (if_neg (mt (hasRequest_iff l s.saved).1 hr))))
  have hframe := accepted_frame l tag code s
  have hanswered := accepted_answered (l := l) (tag := tag) (code := code) (s := s)
  have hwork := accepted_hold (l := l) (tag := tag) (code := code) (s := s)
  refine ⟨_, he.trans (congrArg Host.Outcome.next (storeRequest_accepted hs hnone)), ?_⟩
  obtain ⟨k, hk⟩ : ∃ k, accepted l tag code s = s.withLinks k := ⟨_, hframe⟩
  have hnotLocked : ∀ lb', kind = .save lb' ∨ kind = .erase → ∀ lb sb g,
      s.saved.directory[slot.toNat] ≠ .valid lb true sb g := fun lb' hks lb sb g hd =>
    hl ⟨hlockChecked.1 (by rcases hks with rfl | rfl <;> rfl), lb, sb, g, hd⟩
  have hasked {c : Prop} (h : kind = .recall ∨ (code = 0x63#8 ∧ c)) :
      kind = .recall ∨ (kind = .lock (decide (value = 1#8)) ∧ c) := h.imp_right fun h => ⟨asksStore_lock hi h.1, h.2⟩
  rw [hk] at hanswered hwork ⊢
  refine ⟨?frame, fun op ho => ?queued, fun ho hq hidle => ⟨fun phase after h => ?begins, fun status h => ?ends⟩, fun h => ?waits⟩
  case frame => exact (storeOnly_serveNext (v := queueAdded (queuedRequest l kind ⟨slot.toNat, hs⟩ s) (s.withLinks k)) hc).1
  case queued =>
    rw [serveNext_inFlight (s := queueAdded (queuedRequest l kind ⟨slot.toNat, hs⟩ s) (s.withLinks k)) ho]
    rfl
  case begins =>
    have hb := beginService_first (req := queuedRequest l kind ⟨slot.toNat, hs⟩ s) (v := inService (s.withLinks k))
      (phase := phase) (after := after) hnotLocked
      (h.imp_right (Or.imp_right (Or.imp_right fun ⟨h1, h2, h3, h4⟩ => ⟨h1, h2, (hasked h3).imp_right fun h => ⟨_, h⟩, h4⟩)))
    rw [serveNext_begins (s := s.withLinks k) ho hq hb]
    rfl
  case ends =>
    have hb := beginService_endsAtOnce (req := queuedRequest l kind ⟨slot.toNat, hs⟩ s) (v := inService (s.withLinks k)) (st := status)
      (h.imp (fun ⟨h1, h2, h3⟩ => ⟨h1, (asksStore_reads hi h2).imp_right fun h => ⟨_, h⟩, h3⟩)
        fun ⟨h1, h2, lb, sb, g, h3⟩ => ⟨⟨_, lb, sb, g, asksStore_lock hi h1, h3⟩, h2⟩)
    rw [serveNext_endsAtOnce (v := s.withLinks k) ho hq hidle hc hb]
    have hd : deliver (opOf (queuedRequest l kind ⟨slot.toNat, hs⟩ s)) status .nothing (s.withLinks k) =
        finalStatus l (decide ((s.links.get l).style = .hold)) status .nothing (s.withLinks k) := rfl
    rw [hd]
    refine ⟨rfl, fun hst => ?_, fun hst => ?_⟩
    · have hans : finalStatus l true status .nothing (working l tag code s) = replied l tag status .nothing s := answer_working ..
      rw [decide_eq_true hst, hwork hst, hans]
      rfl
    · obtain ⟨⟨h1, h2, h3, h4⟩, hdef, hnot⟩ := hanswered hst
      rw [show decide ((s.links.get l).style = .hold) = false by rw [hst]; rfl, finalStatus_deferred status .nothing hdef]
      unfold answered
      simp only [State.withLinks_links, PerLink.get_set_same]
      exact ⟨⟨h1, h2, h3, h4⟩, rfl, congrArg (· ||| noticeMask .result) hnot⟩
  case waits =>
    have hlinks := serveNext_links (v := s.withLinks k) (req := queuedRequest l kind ⟨slot.toNat, hs⟩ s) hc h
    refine ⟨fun hst => hlinks.trans (congrArg State.links (hwork hst)), fun hst => ?_⟩
    unfold answered
    rw [hlinks]
    exact hanswered hst

end Sys2Proof.Machine
end

section
/-! PROOFS. The reports that a standby request brings in, and the link that waits for it (R107, R149, R186, R206, R207). -/

namespace Sys2Proof.Machine

/-! ### Drawing and grants -/

section Drawing
variable {R : State → Prop} (hraster : ∀ u x, R u → R (u.withRaster x))
  (hslots : ∀ u x, R u → R (u.withStore { u.store with slots := x })) (hre : ∀ u, R u → R (reevaluate u))
include hraster

theorem kept_through_askDraw {u : State} (h : R u) : R (askDraw u) := by
  unfold askDraw
  split
  · exact h
  · split
    · exact hraster _ _ (hraster _ _ h)
    · exact hraster _ _ h

include hslots hre

/-- What grants keep, draw starts keep. -/
theorem kept_through_startDraw (n : Nat) {u : State} (h : R u) : R (startDraw n u) := by
  induction n generalizing u with
  | zero => exact hraster _ _ h
  | succ n ih =>
    unfold startDraw
    split
    · exact h
    · split
      · exact hraster _ _ h
      · split
        · refine ih (kept_through_askDraw hraster ?_)
          unfold beginDraw
          dsimp only
          split
          · exact hre _ (hraster _ _ (hslots _ _ (hraster _ _ (hslots _ _ (hraster _ _ h)))))
          · exact hraster _ _ (hslots _ _ (hraster _ _ h))
        · exact ih (kept_through_askDraw hraster (hraster _ _ h))

theorem kept_through_settleDraw {u : State} (h : R u) : R (settleDraw u) := kept_through_startDraw hraster hslots hre _ h

omit hraster in
theorem kept_through_abandonDraw {u : State} (h : R u) : R (abandonDraw u) := by
  unfold abandonDraw
  split
  · exact hre _ (hslots _ _ h)
  · exact h

end Drawing

/-- The capture state in which a granted record begins. -/
theorem grantSlot_cap (n : Nat) (u : State) : (grantSlot n u).store.held = false ∧ (grantSlot n u).power = u.power ∧
    ((grantSlot n u).seq.cap = .prefill ∨ (grantSlot n u).seq.cap = .armed ∨
      ((grantSlot n u).seq.cap = .postfill ∧ u.seq.forcePending = true)) := by
  obtain ⟨lit, he⟩ := grantSlot_eq n u
  obtain ⟨r, -, -, -, -, -, -, -, -, -, -, -, -, hpre, harm, hforce⟩ := grantedSeq_current n u
  rw [he]
  refine ⟨rfl, rfl, ?_⟩
  by_cases hT : (startHeader u).trigIndex = 0
  · cases hf : u.seq.forcePending with
    | false => exact .inr (.inl (harm hT hf).1)
    | true => exact .inr (.inr ⟨(hforce hT hf).1, rfl⟩)
  · exact .inl (hpre hT).1

/-! ### The sequencer's report (R107) -/

theorem reportIdle_reports {u : State} (h : u.seq.standbyStop = true) :
    reportIdle u = tryStandby (u.withPower { u.power with idleReport := true }) := if_pos h

/-- Power Control's stop as it reaches the sequencer. -/
def stopAsked (u : State) : State := u.withSeq { u.seq with standbyStop := true }

theorem standbyStop_idle {u : State} (h : u.seq.cap = .idle) :
    standbyStop u = tryStandby ((stopAsked u).withPower { u.power with idleReport := true }) :=
  (if_pos h).trans (reportIdle_reports (u := stopAsked u) rfl)

theorem standbyStop_running {u : State} (h : u.seq.cap ≠ .idle) : standbyStop u = acqStop (stopAsked u) := if_neg h

/-- Before Power Control's stop the sequencer is as it was, or a held slot request has been granted. -/
structure StopAwaited (b u : State) : Prop where
  report : u.power.idleReport = b.power.idleReport
  cap : (u.seq.cap = b.seq.cap ∧ u.seq.forcePending = b.seq.forcePending ∧ (u.store.held = false ∨ b.seq.cap = .waitSlot)) ∨
    (b.seq.cap = .waitSlot ∧ u.store.held = false ∧
      (u.seq.cap = .prefill ∨ u.seq.cap = .armed ∨ (u.seq.cap = .postfill ∧ b.seq.forcePending = true)))

/-- After it the sequencer is in IDLE and has reported, or goes on to the end of the segment. -/
structure StopTaken (b u : State) : Prop where
  held : u.store.held = false
  cap : (u.seq.cap = .idle ∧ u.power.idleReport = true ∧ b.seq.cap ≠ .postfill) ∨
    (u.seq.cap = .postfill ∧ u.seq.stopPending = true ∧ u.power.idleReport = b.power.idleReport ∧
      (b.seq.cap = .postfill ∨ (b.seq.cap = .waitSlot ∧ b.seq.forcePending = true)))

section Stop
variable {b u : State}

theorem stopAwaited_reevaluate (h : StopAwaited b u) : StopAwaited b (reevaluate u) := by
  unfold reevaluate
  split
  · next hh =>
    split
    · next n _ =>
      obtain ⟨hheld, hpow, hcap⟩ := grantSlot_cap n u
      rcases h.cap with ⟨hc, hf, hw⟩ | ⟨-, hf, -⟩
      · have hwait : b.seq.cap = .waitSlot := hw.resolve_left (by rw [hh]; decide)
        rw [hf] at hcap
        exact ⟨by rw [hpow]; exact h.report, .inr ⟨hwait, hheld, hcap⟩⟩
      · rw [hf] at hh; cases hh
    · exact h
  · exact h

theorem stopAwaited_settleDraw (h : StopAwaited b u) : StopAwaited b (settleDraw u) :=
  kept_through_settleDraw (R := StopAwaited b) (fun _ _ h => ⟨h.report, h.cap⟩) (fun _ _ h => ⟨h.report, h.cap⟩) (fun _ => stopAwaited_reevaluate) h

theorem stopAwaited_tryStandby (h : StopAwaited b u) : StopAwaited b (tryStandby u) :=
  ⟨by rw [(tryStandby_reports u).1]; exact h.report, by rw [tryStandby_seq, tryStandby_store]; exact h.cap⟩

theorem stopTaken_tryStandby (h : StopTaken b u) : StopTaken b (tryStandby u) :=
  ⟨by rw [tryStandby_store]; exact h.held, by rw [tryStandby_seq, (tryStandby_reports u).1]; exact h.cap⟩

/-- With no slot request held drawing leaves the sequencer and Power Control as they are. -/
theorem stopTaken_drawnOnly {v : State} (hd : DrawnOnly u v) (h : StopTaken b u) : StopTaken b v := by
  have hp : v.power = u.power := (congrArg (fun x : State => x.power) hd.rest).trans rfl
  exact ⟨hd.held.trans h.held, by rw [hd.seq, hp]; exact h.cap⟩

theorem stopTaken_settleDraw (h : StopTaken b u) : StopTaken b (settleDraw u) := stopTaken_drawnOnly (drawnOnly_settleDraw h.held) h

theorem stopTaken_abandonDraw (h : StopTaken b u) : StopTaken b (abandonDraw u) :=
  kept_through_abandonDraw (R := StopTaken b) (fun _ _ h => ⟨h.held, h.cap⟩)
    (fun v h => by rw [reevaluate_of_not_held h.held]; exact h) h

/-- In IDLE after the stop, with the report made. -/
theorem stopTaken_enterIdle (hb : b.seq.cap ≠ .postfill) (hheld : u.store.held = false) (hstop : u.seq.standbyStop = true) :
    StopTaken b (enterIdle u) := by
  obtain ⟨lit, he⟩ := enterIdle_reports u
  rw [he]
  rw [reportIdle_reports (u := litTo lit (u.withSeq (idleSeq u.seq))) hstop]
  exact stopTaken_tryStandby ⟨hheld, .inl ⟨rfl, rfl, hb⟩⟩

theorem stopTaken_closeRecord (hb : b.seq.cap ≠ .postfill) (hheld : u.store.held = false) (hstop : u.seq.standbyStop = true) :
    StopTaken b (closeRecord enterIdle u) := by
  cases hr : u.seq.current with
  | none => rw [closeRecord_none hr]; exact stopTaken_enterIdle hb hheld hstop
  | some r =>
    cases hf : isFilling r.number u.store with
    | false => rw [closeRecord_unknown hr hf]; exact stopTaken_enterIdle (u := recordClosed r u) hb hheld hstop
    | true =>
      by_cases h0 : r.completed = 0
      · rw [closeRecord_freed hr h0]; exact stopTaken_enterIdle (u := recordClosed r u) hb hheld hstop
      · rw [closeRecord_offers hr hf h0]
        refine takeAll_offer_keeps (P := DrawnOnly (countedOn (recordClosed r u))) (Q := StopTaken b)
          (fun s x h => h.trans (drawnOnly_withRaces s x)) (fun s h => h.trans (drawnOnly_askDraw s))
          (fun s h => h.trans (drawnOnly_settleDraw (h.held.trans hheld))) (fun s x h => ⟨h.held, h.cap⟩)
          (fun s h => stopTaken_drawnOnly (drawnOnly_askDraw s) h) (fun s h => stopTaken_settleDraw h) (fun s h => ?_) (.refl _)
        exact stopTaken_enterIdle hb (h.held.trans hheld) (by rw [h.seq]; exact hstop)

theorem stopTaken_standbyStop (h : StopAwaited b u) : StopTaken b (standbyStop u) := by
  have hheld (hne : u.seq.cap ≠ .waitSlot) : u.store.held = false := by
    rcases h.cap with ⟨hc, -, hw⟩ | ⟨-, hf, -⟩
    · exact hw.resolve_right fun hb => hne (hc.trans hb)
    · exact hf
  have hpost (hne : u.seq.cap ≠ .postfill) : b.seq.cap ≠ .postfill := by
    rcases h.cap with ⟨hc, -⟩ | ⟨hb, -⟩
    · rw [← hc]; exact hne
    · rw [hb]; decide
  have hclose (hheld : u.store.held = false) (hb : b.seq.cap ≠ .postfill) :
      StopTaken b (closeRecord enterIdle (abandonSegment (stopAsked u))) :=
    stopTaken_closeRecord (u := abandonSegment (stopAsked u)) hb hheld rfl
  by_cases hidle : u.seq.cap = .idle
  · rw [standbyStop_idle hidle]
    exact stopTaken_tryStandby ⟨hheld (by rw [hidle]; decide), .inl ⟨hidle, rfl, hpost (by rw [hidle]; decide)⟩⟩
  rw [standbyStop_running hidle, acqStop, show (stopAsked u).seq.cap = u.seq.cap from rfl]
  cases hc : u.seq.cap with
  | idle => exact absurd hc hidle
  | waitSlot => exact stopTaken_enterIdle (u := (stopAsked u).withStore { u.store with held := false }) (hpost (by rw [hc]; decide)) rfl rfl
  | prefill => exact hclose (hheld (by rw [hc]; decide)) (hpost (by rw [hc]; decide))
  | armed => exact hclose (hheld (by rw [hc]; decide)) (hpost (by rw [hc]; decide))
  | postfill =>
    refine ⟨hheld (by rw [hc]; decide), .inr ⟨hc, rfl, h.report, ?_⟩⟩
    rcases h.cap with ⟨hcap, -⟩ | ⟨hb, -, h1 | h1 | ⟨-, hf⟩⟩
    · exact .inl (hcap.symm.trans hc)
    · cases hc.symm.trans h1
    · cases hc.symm.trans h1
    · exact .inr ⟨hb, hf⟩

end Stop

section Receivers
variable {b u : State}

theorem stopAwaited_cancelStore (h : StopAwaited b u) : StopAwaited b (cancelStore u) :=
  keeps_cancelStore (P := StopAwaited b) (fun _ _ h => ⟨h.report, h.cap⟩)
    (fun v h => stopAwaited_tryStandby (u := v.withPower { v.power with savedReport := true }) ⟨h.report, h.cap⟩)
    (fun _ _ v h => by rw [deliver_frame]; exact ⟨h.report, h.cap⟩) h

theorem stopTaken_cancelStore (h : StopTaken b u) : StopTaken b (cancelStore u) :=
  keeps_cancelStore (P := StopTaken b) (fun _ _ h => ⟨h.held, h.cap⟩)
    (fun v h => stopTaken_tryStandby (u := v.withPower { v.power with savedReport := true }) ⟨h.held, h.cap⟩)
    (fun _ _ v h => by rw [deliver_frame]; exact ⟨h.held, h.cap⟩) h

theorem haltRaster_eq (u : State) : haltRaster u = tryStandby (((abandonDraw u).withRaster { (abandonDraw u).raster with
    engine := .halted, draw := none, chosen := none }).withPower { (abandonDraw u).power with haltReport := true }) := rfl

theorem stopAwaited_haltRaster (h : StopAwaited b u) : StopAwaited b (haltRaster u) := by
  have ha : StopAwaited b (abandonDraw u) :=
    kept_through_abandonDraw (R := StopAwaited b) (fun _ _ h => ⟨h.report, h.cap⟩) (fun _ => stopAwaited_reevaluate) h
  rw [haltRaster_eq]
  exact stopAwaited_tryStandby ⟨ha.report, ha.cap⟩

theorem stopTaken_haltRaster (h : StopTaken b u) : StopTaken b (haltRaster u) := by
  have ha := stopTaken_abandonDraw h
  rw [haltRaster_eq]
  exact stopTaken_tryStandby ⟨ha.held, ha.cap⟩

/-- The sequencer once the request's receivers have been taken. -/
theorem stopTaken_receivers (h : StopAwaited b u) : StopTaken b (takeAll [standbyStop, cancelStore, haltRaster] u) := by
  refine standbyReceivers_once (P := StopAwaited b) (Q := StopTaken b) (before := []) (after := [cancelStore, haltRaster]) rfl
    (fun _ _ h => ⟨h.report, h.cap⟩) (fun _ => stopAwaited_settleDraw) (fun _ _ h => ⟨h.held, h.cap⟩) (fun _ => stopTaken_settleDraw)
    (fun a ha v hv => ?_) (fun a ha v hv => ?_) (fun _ => stopTaken_standbyStop) h
  · rcases List.mem_pair.1 ha with rfl | rfl
    · exact stopAwaited_cancelStore hv
    · exact stopAwaited_haltRaster hv
  · rcases List.mem_pair.1 ha with rfl | rfl
    · exact stopTaken_cancelStore hv
    · exact stopTaken_haltRaster hv

end Receivers

/-! ### The Raster Engine's report (R149, R207) -/

/-- The Raster Engine has reported, and STANDBY_PENDING lasts only while another report is missing. -/
structure HaltTaken (u : State) : Prop where
  report : u.power.haltReport = true
  waits : u.power.state = .standbyPending → reportsIn u.power = false

section Halt
variable {u v : State}

theorem haltTaken_aside (ha : aside v = aside u) (h : HaltTaken u) : HaltTaken v :=
  ⟨by rw [aside_power ha]; exact h.report, by rw [aside_power ha]; exact h.waits⟩

theorem haltTaken_tryStandby (h : u.power.haltReport = true) : HaltTaken (tryStandby u) :=
  ⟨by rw [(tryStandby_reports u).2.2]; exact h, tryStandby_waits u⟩

theorem haltTaken_receivers (u : State) : HaltTaken (takeAll [standbyStop, cancelStore, haltRaster] u) := by
  refine standbyReceivers_once (P := fun _ => True) (Q := HaltTaken) (before := [standbyStop, cancelStore]) (after := []) rfl
    (fun _ _ _ => trivial) (fun _ _ => trivial) (fun _ _ h => ⟨h.report, h.waits⟩) (fun s h => haltTaken_aside (aside_settleDraw s) h)
    (fun _ _ _ _ => trivial) (fun a ha v hv => ?_) (fun v _ => haltTaken_tryStandby rfl) trivial
  rcases List.mem_pair.1 ha with rfl | rfl
  · exact keeps_standbyStop (P := HaltTaken) (fun _ _ => haltTaken_aside) (fun _ h => haltTaken_tryStandby h.report)
      (fun _ h => ⟨h.report, h.waits⟩) hv
  · exact keeps_cancelStore (P := HaltTaken) (fun _ _ h => ⟨h.report, h.waits⟩) (fun _ h => haltTaken_tryStandby h.report)
      (fun _ _ v h => by rw [deliver_frame]; exact ⟨h.report, h.waits⟩) hv

end Halt

/-! ### The Store Controller's report (R185, R186) -/

/-- Before its cancellation the Store Controller is as it was, and the live setup that it would save. -/
structure SaveAwaited (b u : State) : Prop where
  saved : u.saved = b.saved
  gen : u.setup.gen = b.setup.gen
  live : u.setup.live = b.setup.live
  report : u.power.savedReport = b.power.savedReport

/-- Slot 0 needs no autosave: it holds the live generation, or there is no store (R186). -/
def saveIdle (s : State) : Prop := s.saved.ctrl = .absent ∨ s.setup.gen = s.saved.slot0Gen

/-- After it: in rest the report is made, or the final autosave has begun. -/
structure SaveTaken (b u : State) : Prop where
  report : u.power.savedReport = true ↔ b.power.savedReport = true ∨ (b.saved.op = none ∧ saveIdle b)
  begins : b.saved.op = none → ¬ saveIdle b → u.saved = finalSave b.setup (cancelledSaved b.saved)

section Save
variable {b u v : State}

theorem saveAwaited_aside (ha : aside v = aside u) (h : SaveAwaited b u) : SaveAwaited b v := by
  refine ⟨?_, ?_, ?_, ?_⟩
  · rw [aside_saved ha]; exact h.saved
  · rw [aside_setup ha]; exact h.gen
  · rw [aside_setup ha]; exact h.live
  · rw [aside_power ha]; exact h.report

theorem saveTaken_aside (ha : aside v = aside u) (h : SaveTaken b u) : SaveTaken b v := by
  refine ⟨?_, ?_⟩
  · rw [aside_power ha]; exact h.report
  · rw [aside_saved ha]; exact h.begins

theorem tryStandby_live (u : State) : (tryStandby u).setup.live = u.setup.live ∧ (tryStandby u).setup.gen = u.setup.gen := by
  have hk := kept_tryStandby u
  exact ⟨congrArg Kept.live hk, congrArg Kept.gen hk⟩

theorem saveAwaited_report {p : Power} (hp : p.savedReport = u.power.savedReport) (h : SaveAwaited b u) :
    SaveAwaited b (tryStandby (u.withPower p)) := by
  obtain ⟨hl, hg⟩ := tryStandby_live (u.withPower p)
  refine ⟨?_, hg.trans h.gen, hl.trans h.live, ?_⟩
  · rw [tryStandby_saved]; exact h.saved
  · rw [(tryStandby_reports _).2.1]; exact hp.trans h.report

theorem saveTaken_report {p : Power} (hp : p.savedReport = u.power.savedReport) (h : SaveTaken b u) :
    SaveTaken b (tryStandby (u.withPower p)) := by
  refine ⟨?_, ?_⟩
  · rw [(tryStandby_reports _).2.1]
    exact (iff_of_eq (congrArg (· = true) hp)).trans h.report
  · rw [tryStandby_saved]; exact h.begins

theorem finalSave_congr {x y : SetupBlock} (hg : x.gen = y.gen) (hl : x.live = y.live) (sv : SavedStore) :
    finalSave x sv = finalSave y sv := by
  unfold finalSave snapshotImage
  rw [hg, hl]

/-- The report that the standby cancellation itself makes. -/
theorem cancelStore_report (u : State) (hf : u.saved.finalAsked = false) :
    (cancelStore u).power.savedReport = true ↔ u.power.savedReport = true ∨ (u.saved.op = none ∧ saveIdle u) := by
  have hq : (cancelQueued u).saved = cancelledSaved u.saved ∧ (cancelQueued u).setup = u.setup ∧
      (cancelQueued u).power = u.power := by rw [cancelQueued_frame]; exact ⟨rfl, rfl, rfl⟩
  obtain ⟨hsaved, hsetup, hpower⟩ := hq
  have habsent := restSaved_absent (cancelledSaved u.saved)
  rw [cancelStore_eq, hsaved]
  by_cases h0 : u.saved.op = none
  · rw [if_pos (show (cancelledSaved u.saved).op = none from h0), storeAtRest_eq, hsaved]
    rw [if_pos (show (cancelledSaved u.saved).cancelled = true from rfl),
      if_neg (show ¬(cancelledSaved u.saved).finalAsked = true from Bool.eq_false_iff.1 hf), finalAutosave_eq]
    rw [State.withSaved_saved, State.withSaved_setup, hsetup,
      show (restSaved (cancelledSaved u.saved)).slot0Gen = u.saved.slot0Gen from rfl]
    by_cases hr : saveIdle u
    · rw [if_pos (hr.imp_left habsent.2), savedReport, (tryStandby_reports _).2.1]
      exact ⟨fun _ => .inr ⟨h0, hr⟩, fun _ => rfl⟩
    · rw [if_neg (fun h => hr (h.imp_left habsent.1))]
      rw [State.withSaved_power, State.withSaved_power, hpower]
      exact ⟨.inl, fun h => h.resolve_right fun h => hr h.2⟩
  · rw [if_neg (show ¬(cancelledSaved u.saved).op = none from h0), hpower]
    exact ⟨.inl, fun h => h.resolve_right fun h => h0 h.1⟩

theorem saveTaken_cancelStore (hf : b.saved.finalAsked = false) (h : SaveAwaited b u) : SaveTaken b (cancelStore u) := by
  have hidle : saveIdle u ↔ saveIdle b := by unfold saveIdle; rw [h.saved, h.gen]
  refine ⟨?_, fun h0 hr => ?_⟩
  · rw [cancelStore_report u (by rw [h.saved]; exact hf), h.report, h.saved, hidle]
  · rw [cancelStore_saved, h.saved, if_pos h0, if_neg (Bool.eq_false_iff.1 hf), if_neg, finalSave_congr h.gen h.live]
    rw [h.gen]
    exact hr

theorem saveTaken_receivers (hf : b.saved.finalAsked = false) (h : SaveAwaited b u) :
    SaveTaken b (takeAll [standbyStop, cancelStore, haltRaster] u) := by
  refine standbyReceivers_once (P := SaveAwaited b) (Q := SaveTaken b) (before := [standbyStop]) (after := [haltRaster]) rfl
    (fun _ _ => saveAwaited_aside rfl) (fun s => saveAwaited_aside (aside_settleDraw s)) (fun _ _ => saveTaken_aside rfl)
    (fun s => saveTaken_aside (aside_settleDraw s)) (fun a ha v hv => ?_) (fun a ha v hv => ?_)
    (fun _ => saveTaken_cancelStore hf) h
  · rcases List.mem_pair.1 ha with rfl | rfl
    · exact keeps_standbyStop (P := SaveAwaited b) (fun _ _ => saveAwaited_aside) (fun _ => saveAwaited_report rfl)
        (fun _ h => ⟨h.saved, h.gen, h.live, h.report⟩) hv
    · exact keeps_haltRaster (P := SaveAwaited b) (fun _ _ => saveAwaited_aside) (fun _ => saveAwaited_report rfl) hv
  · rcases List.mem_pair.1 ha with rfl | rfl
    · exact keeps_standbyStop (P := SaveTaken b) (fun _ _ => saveTaken_aside) (fun _ => saveTaken_report rfl)
        (fun _ h => ⟨h.report, h.begins⟩) hv
    · exact keeps_haltRaster (P := SaveTaken b) (fun _ _ => saveTaken_aside) (fun _ => saveTaken_report rfl) hv

end Save

/-! ### The link that asked (R192, R193, R206, R207) -/

/-- The link whose request asks for STANDBY: while the entry is pending it is as in b but for its notices, in STANDBY it has the final
status OK. -/
structure AskerServed (l : Link) (held : Bool) (tag : Byte) (b u : State) : Prop where
  pending : u.power.state = .standbyPending → u.power.requester = some (l, held) ∧
    u.links.get l = { b.links.get l with notices := (u.links.get l).notices }
  entered : u.power.state = .standby → (held = true → answered l tag .ok .nothing u) ∧
    (held = false → (u.links.get l).deferred = .ready tag 0x78#8 .ok .nothing)

section Asker
variable {l : Link} {held : Bool} {tag : Byte} {b u v : State}

theorem answered_of_notices (h : v.links.get l = { u.links.get l with notices := (v.links.get l).notices }) {st : Status} {p : Payload}
    (ha : answered l tag st p u) : answered l tag st p v := by
  unfold answered at ha ⊢
  rw [h]
  exact ha

theorem askerServed_aside (ha : aside v = aside u) (h : AskerServed l held tag b u) : AskerServed l held tag b v := by
  have hl := aside_linksKept ha l
  refine ⟨fun hp => ?_, fun hp => ?_⟩ <;> rw [aside_power ha] at hp
  · obtain ⟨h1, h2⟩ := h.pending hp
    refine ⟨by rw [aside_power ha]; exact h1, ?_⟩
    rw [hl, h2]
  · obtain ⟨h1, h2⟩ := h.entered hp
    exact ⟨fun hh => answered_of_notices hl (h1 hh), fun hh => by rw [hl]; exact h2 hh⟩

/-- A final status for another link. -/
theorem askerServed_deliver {op : Op} (hop : op.req.source ≠ some l) (st : Status) (p : Payload) (h : AskerServed l held tag b u) :
    AskerServed l held tag b (deliver op st p u) := by
  have hl : (deliver op st p u).links.get l = u.links.get l := by
    unfold deliver
    split
    · rfl
    · next m hm =>
      split
      · rfl
      · exact finalStatus_other _ _ _ _ fun h => hop (by rw [hm, h])
  have hf := deliver_frame op st p u
  have hp : (deliver op st p u).power = u.power := (congrArg State.power hf).trans rfl
  refine ⟨by rw [hp, hl]; exact h.pending, fun hst => ?_⟩
  unfold answered
  rw [hl]
  exact h.entered (hp ▸ hst)

/-- In STANDBY the link has its final status. -/
theorem asker_entered (hheld : held = true → (u.links.get l).inWork = some (tag, 0x78#8))
    (hdef : held = false → (u.links.get l).deferred = .outstanding tag 0x78#8) (hreq : u.power.requester = some (l, held)) :
    (held = true → answered l tag .ok .nothing (enterStandby u)) ∧
    (held = false → ((enterStandby u).links.get l).deferred = .ready tag 0x78#8 .ok .nothing) := by
  have hlinks : (evalLeds (standbyBase u)).links.get l =
      { u.links.get l with notices := ((evalLeds (standbyBase u)).links.get l).notices } := by
    obtain ⟨lit, he⟩ := evalLeds_litTo (standbyBase u)
    rw [he]
    change (displayNoticed u).get l = { u.links.get l with notices := ((displayNoticed u).get l).notices }
    unfold displayNoticed
    split
    · rw [notifyBoth_get]
    · rfl
  rw [enterStandby_eq, hreq]
  generalize evalLeds (standbyBase u) = w at hlinks
  refine ⟨fun hh => ?_, fun hh => ?_⟩
  · subst hh
    exact answered_answer (kind := 0x78#8) _ _ (by rw [hlinks]; exact hheld rfl)
  · subst hh
    have hd : (w.links.get l).deferred = .outstanding tag 0x78#8 := by rw [hlinks]; exact hdef rfl
    rw [handStandby, finalStatus_deferred _ _ hd, State.withLinks_links, PerLink.get_set_same]
    rfl

variable (hheld : held = true → (b.links.get l).inWork = some (tag, 0x78#8))
  (hdef : held = false → (b.links.get l).deferred = .outstanding tag 0x78#8)
include hheld hdef

theorem askerServed_report {p : Power} (hs : p.state = u.power.state) (hq : p.requester = u.power.requester)
    (h : AskerServed l held tag b u) : AskerServed l held tag b (tryStandby (u.withPower p)) := by
  refine ⟨?_, ?_⟩ <;> unfold tryStandby <;> split
  · intro hp
    obtain ⟨lit, he⟩ := enterStandby_frame (u.withPower p)
    rw [he] at hp
    cases hp
  · intro hp
    obtain ⟨h1, h2⟩ := h.pending (hs.symm.trans hp)
    exact ⟨hq.trans h1, h2⟩
  · next hin =>
    intro _
    obtain ⟨h1, h2⟩ := h.pending (hs.symm.trans hin.1)
    exact asker_entered (u := u.withPower p) (fun hh => by rw [State.withPower_links, h2]; exact hheld hh)
      (fun hh => by rw [State.withPower_links, h2]; exact hdef hh) (hq.trans h1)
  · intro hp
    exact h.entered (hs.symm.trans hp)

theorem askerServed_receivers (hqueue : ∀ r ∈ u.saved.queue, r.source ≠ some l) (h : AskerServed l held tag b u) :
    AskerServed l held tag b (takeAll [standbyStop, cancelStore, haltRaster] u) := by
  have hkept := takeAll_keeps (P := fun s => (∀ r ∈ s.saved.queue, r.source ≠ some l) ∧ AskerServed l held tag b s)
    (fun s x h => ⟨h.1, askerServed_aside (u := s) rfl h.2⟩)
    (fun s h => ⟨by rw [aside_saved (aside_settleDraw s)]; exact h.1, askerServed_aside (aside_settleDraw s) h.2⟩)
    [standbyStop, cancelStore, haltRaster] (fun act hact s hs => ?_) u ⟨hqueue, h⟩
  · exact hkept.2
  obtain ⟨hq, hs⟩ := hs
  simp only [List.mem_cons, List.not_mem_nil, or_false] at hact
  rcases hact with rfl | rfl | rfl
  · exact ⟨by rw [standbyStop_saved]; exact hq, keeps_standbyStop (P := AskerServed l held tag b) (fun _ _ => askerServed_aside)
      (fun _ => askerServed_report hheld hdef rfl rfl) (fun _ h => ⟨h.pending, h.entered⟩) hs⟩
  · refine ⟨fun r hr => ?_, keeps_cancelStore (P := AskerServed l held tag b) (fun _ _ h => ⟨h.pending, h.entered⟩)
      (fun _ => askerServed_report hheld hdef rfl rfl) (fun req hr _ => askerServed_deliver (hq req hr) _ _) hs⟩
    rw [(cancelStore_queue s).1] at hr
    cases hr
  · exact ⟨by rw [haltRaster_saved]; exact hq, keeps_haltRaster (P := AskerServed l held tag b) (fun _ _ => askerServed_aside)
      (fun _ => askerServed_report hheld hdef rfl rfl) hs⟩

end Asker

/-! ### POWER.STANDBY (R206) -/

section Request
variable {l : Link} {tag : Byte} {s : State}

/-- The state in which POWER.STANDBY, accepted, asks Power Control. -/
def standbyAsked (l : Link) (tag : Byte) (s : State) : State :=
  (accepted l tag 0x78#8 s).withPower { s.power with requester := some (l, decide ((s.links.get l).style = .hold)) }

theorem exec_powerStandby (ht : takingLong l s) : exec (.powerStandby l tag) s = .next (standbyRequest (standbyAsked l tag s)) := by
  have hp : (accepted l tag 0x78#8 s).power = s.power := (congrArg State.power (accepted_frame l tag 0x78#8 s)).trans rfl
  refine (request_takingLong tag 0x78#8 (ownPowerStandby l tag) ht).trans (congrArg Host.Outcome.next ?_)
  unfold ownPowerStandby standbyAsked
  dsimp only
  rw [holds_working, show (acceptLong l tag 0x78#8 (working l tag 0x78#8 s)).power = s.power from hp]
  rfl

theorem standbyAsked_frame (l : Link) (tag : Byte) (s : State) : ∃ k, standbyAsked l tag s =
    (s.withLinks k).withPower { s.power with requester := some (l, decide ((s.links.get l).style = .hold)) } := by
  refine ⟨(accepted l tag 0x78#8 s).links, ?_⟩
  unfold standbyAsked
  rw [accepted_frame]
  rfl

end Request

/-- Settles O42: each receiver of the request establishes its part, which the others keep in whatever order they are taken. -/
theorem powerStandbyMakesEntry : Obligations.PowerStandbyMakesEntry := by
  intro l tag s ht
  obtain ⟨k, hk⟩ := standbyAsked_frame l tag s
  have hactive : (standbyAsked l tag s).power.state = .active := by rw [hk]; exact ht.1.2.2
  obtain ⟨lit, hlit⟩ := evalLeds_litTo (entryAsked (standbyAsked l tag s))
  have hentry := entryMade_standbyRequest hactive
  have hentered := standbyEntered_standbyRequest hactive
  have heq := standbyRequest_eq hactive
  have hhalt : HaltTaken (standbyRequest (standbyAsked l tag s)) := heq ▸ haltTaken_receivers _
  refine ⟨_, exec_powerStandby ht, ?_, fun hp => ?pending, fun hp => ?standby, hhalt.report, ?reports, fun hheld => ?sequencer,
    fun hf => ?store, fun hq => ?link⟩
  · rw [hk] at hentered ⊢
    exact hentered
  case pending =>
    obtain ⟨-, h1, h2⟩ := hentry.state.resolve_right fun h => by rw [h.1] at hp; cases hp
    rw [h1, h2, hk]
    exact ⟨rfl, rfl⟩
  case standby =>
    obtain ⟨-, -, h3, h4, h5, h6⟩ := hentry.state.resolve_left fun h => by rw [h.1] at hp; cases hp
    exact ⟨h3, h4, h5, h6⟩
  case reports =>
    have hin : reportsIn (standbyRequest (standbyAsked l tag s)).power = true ↔
        ((standbyRequest (standbyAsked l tag s)).power.idleReport = true ∧
          (standbyRequest (standbyAsked l tag s)).power.savedReport = true) := by
      rw [reportsIn, hhalt.report, Bool.and_true, Bool.and_eq_true]
    rw [← hin]
    rcases hentry.state with ⟨h1, -⟩ | ⟨h1, h2, -⟩
    · rw [hhalt.waits h1, h1]; decide
    · rw [h1, h2]; decide
  case sequencer =>
    have hwait : StopAwaited s (evalLeds (entryAsked (standbyAsked l tag s))) := by
      rw [hlit, hk]
      exact ⟨rfl, .inl ⟨rfl, rfl, hheld⟩⟩
    have hdone : StopTaken s (standbyRequest (standbyAsked l tag s)) := heq ▸ stopTaken_receivers hwait
    rcases hdone.cap with ⟨hc, hr, hb⟩ | ⟨hc, hs, hr, hb⟩
    · exact ⟨by simp [hc, hr], fun _ => hc, fun h => absurd h hb⟩
    · refine ⟨by simp [hc, hr], fun h => ?_, fun _ => ⟨hc, hs⟩⟩
      rcases hb with hb | ⟨hb, hf⟩ <;> simp [hb] at h
      rw [hf] at h
      cases h
  case store =>
    have hwait : SaveAwaited s (evalLeds (entryAsked (standbyAsked l tag s))) := by
      rw [hlit, hk]
      exact ⟨rfl, rfl, rfl, rfl⟩
    have hdone : SaveTaken s (standbyRequest (standbyAsked l tag s)) := heq ▸ saveTaken_receivers hf hwait
    exact ⟨hdone.report, fun ho ha hg => hdone.begins ho fun h => h.elim ha hg⟩
  case link =>
    have hwork := accepted_hold (l := l) (tag := tag) (code := 0x78#8) (s := s)
    have hanswered := accepted_answered (l := l) (tag := tag) (code := 0x78#8) (s := s)
    have hasked : (standbyAsked l tag s).links = (accepted l tag 0x78#8 s).links := rfl
    have hdefer (h : decide ((s.links.get l).style = .hold) = false) : (s.links.get l).style = .defer := by
      cases hst : (s.links.get l).style with
      | hold => rw [hst] at h; cases h
      | defer => rfl
    have hstart : AskerServed l (decide ((s.links.get l).style = .hold)) tag (standbyAsked l tag s)
        (evalLeds (entryAsked (standbyAsked l tag s))) := by
      refine askerServed_aside (u := entryAsked (standbyAsked l tag s)) (aside_evalLeds _) ⟨fun _ => ⟨?_, ?_⟩, fun h => ?_⟩
      · rw [hk]; rfl
      · have hn : (entryAsked (standbyAsked l tag s)).links.get l = _ := notifyBoth_get .standby l _
        rw [hn]
        rfl
      · cases h
    have hserved : AskerServed l (decide ((s.links.get l).style = .hold)) tag (standbyAsked l tag s)
        (standbyRequest (standbyAsked l tag s)) := by
      rw [heq]
      refine askerServed_receivers (fun hh => ?_) (fun hh => ?_) ?_ hstart
      · rw [hasked, hwork (of_decide_eq_true hh), working_link]
      · rw [hasked]; exact (hanswered (hdefer hh)).2.1
      · rw [hlit, hk]; exact hq
    refine ⟨fun hp => ⟨fun hst => ?_, fun hst => ?_⟩, fun hp => ⟨fun hst => (hserved.entered hp).1 (decide_eq_true hst),
      fun hst => (hserved.entered hp).2 (by rw [hst]; rfl)⟩⟩
    · rw [(hserved.pending hp).2, hasked, hwork hst, working_link]
      exact ⟨rfl, rfl⟩
    · obtain ⟨ha, hd, -⟩ := hanswered hst
      exact ⟨answered_of_notices (hserved.pending hp).2 ha, by rw [(hserved.pending hp).2]; exact hd⟩

end Sys2Proof.Machine
end

section
/-! PROOFS. The reports while STANDBY_PENDING lasts (R107, R142, R149, R207): a state in which the halted Raster Engine holds a record
named for drawing. No command leaves such a state (O19), but the statement does not exclude it. -/

namespace Sys2Proof.Machine

/-- A record at the last bin of its one segment, the trigger taken. -/
def lastBinRecord : Record :=
  { slot := 0, number := 1, gen := 1, setup := factorySetup, plan := ⟨0, 1, 10, 5, 1, 16384⟩, lower := 128, upper := 128
    segment := 0, completed := 0, bin := 9, armed := ⟨0, 50, 10⟩, trigger := some ⟨5, 0, false⟩
    detectors := cleanDetectors, bins := .all emptyBin, marks := .all false, before := [], after := [] }

/-- STANDBY_PENDING with two reports missing, the segment in POSTFILL at its last bin, its slot FILLING, and the engine halted with a
record named. -/
def namedWhileHalted : State :=
  (((State.reset.withPower { startPower with state := .standbyPending, phase := .up }).withSeq
    { startSequencer with run := .running, cap := .postfill, stopPending := true, standbyStop := true,
                          current := some lastBinRecord }).withStore
    { startStore with slots := [.filling (freshHeader 1 1 factorySetup)] }).withRaster
    { startRaster with engine := .halted, chosen := some (.first, 7) }

/-- After reactions no record is named: its draw start comes among them. -/
theorem takeAll_chosen {acts : List (State → State)} (h : acts ≠ []) (s : State) : (takeAll acts s).raster.chosen = none :=
  interleave_chosen _ acts s (sum_turns_le acts) fun hn => absurd hn h

theorem closeBin_namedWhileHalted : (closeBin namedWhileHalted).raster.chosen = none := by
  rw [closeBin_completes (r := lastBinRecord) (t := ⟨5, 0, false⟩) rfl rfl rfl (by decide), completeSegment_stop rfl,
    closeRecord_offers rfl rfl (Nat.succ_ne_zero _)]
  exact takeAll_chosen (List.cons_ne_nil _ _) _

/-- Refutes O43: with a record named the last bin in POSTFILL changes the Raster Engine, which the statement has unchanged. -/
theorem not_reportsEnterStandby : ¬ Obligations.ReportsEnterStandby := by
  intro h
  obtain ⟨-, hlast⟩ := h namedWhileHalted rfl rfl
  obtain ⟨u, -, -, -, -, -, -, -, -, hraster, -, hnoted⟩ :=
    hlast lastBinRecord ⟨5, 0, false⟩ rfl rfl rfl rfl rfl rfl (by decide)
  have hclose := hnoted (.inr (.inl rfl))
  have hchosen : (closeBin namedWhileHalted).raster.chosen = namedWhileHalted.raster.chosen := by
    rw [hclose, ← hraster]
    rfl
  rw [closeBin_namedWhileHalted] at hchosen
  cases hchosen

end Sys2Proof.Machine
end

section
/-! PROOFS. The saved image (R169, R170, R180, R204): the bytes of a composed image, its classification, and what it gives back. -/

namespace Sys2Proof.Machine

/-! ### The word sum (R169) -/

theorem wordSum_append (a b : List Byte) (h : a.length % 2 = 0) : wordSum (a ++ b) = wordSum a + wordSum b := by
  induction a using wordSum.induct with
  | case1 x y rest ih =>
    have hr : rest.length % 2 = 0 := by simp at h; omega
    simp only [List.cons_append, wordSum, ih hr]
    omega
  | case2 xs hx =>
    match xs, hx with
    | [], _ => simp [wordSum]
    | [x], _ => simp at h
    | x :: y :: rest, hx => exact absurd rfl (hx x y rest)

theorem length_le16 (v : BitVec 16) : (le16 v).length = 2 := rfl

theorem wordSum_le16 (v : BitVec 16) : wordSum (le16 v) = v.toNat := by
  simp only [le16, wordSum, BitVec.extractLsb'_toNat]
  omega

/-- The word sum of 2 n bytes is that of their n words. -/
theorem wordSum_words (n : Nat) (bytes : List Byte) (h : bytes.length = 2 * n) : wordSum bytes =
    ((List.range n).map (fun j => (bytes.getD (2 * j) 0#8).toNat + 256 * (bytes.getD (2 * j + 1) 0#8).toNat)).sum := by
  induction n generalizing bytes with
  | zero =>
    have : bytes = [] := List.length_eq_zero_iff.1 (by omega)
    subst this
    rfl
  | succ n ih =>
    match bytes, h with
    | x :: y :: rest, h =>
      have hr : rest.length = 2 * n := by simp at h; omega
      rw [wordSum, ih rest hr, List.range_succ_eq_map, List.map_cons, List.sum_cons, List.map_map]
      rfl

/-- The checksum word brings the sum to 0. -/
theorem checksumFor_sum (n : Nat) : (n + (checksumFor n).toNat) % 65536 = 0 := by
  unfold checksumFor
  rw [BitVec.toNat_ofNat]
  omega

/-! ### Images of 192 bytes -/

theorem toList_imageOf {bytes : List Byte} (h : bytes.length = 192) : (imageOf bytes).toList = bytes := by
  refine List.ext_getElem (by simp [h]) fun i h1 h2 => ?_
  simp [imageOf, List.getElem?_eq_getElem h2]

theorem imageByte_imageOf {bytes : List Byte} (h : bytes.length = 192) (n : Nat) : imageByte (imageOf bytes) n = bytes.getD n 0#8 := by
  rw [imageByte, toList_imageOf h]

/-- The bytes before the body (R169). -/
def imageHead (attributes : Byte) (gen : BitVec 16) (label : Vector Byte 8) (body : List Byte) : List Byte :=
  headerBytes attributes gen label ++ le16 (checksumFor (wordSum (headerBytes attributes gen label) + wordSum body))

section Compose
variable (attributes : Byte) (gen : BitVec 16) (label : Vector Byte 8) (body : List Byte)

theorem length_headerBytes : (headerBytes attributes gen label).length = 14 := by simp [headerBytes, le16]

theorem length_imageHead : (imageHead attributes gen label body).length = 16 := by
  rw [imageHead, List.length_append, length_headerBytes]
  rfl

variable {body} (hb : body.length = 176)
include hb

theorem toList_composeImage : (composeImage attributes gen label body).toList = imageHead attributes gen label body ++ body :=
  toList_imageOf (by rw [List.length_append, ← imageHead, length_imageHead, hb])

theorem composeImage_head {n : Nat} (hn : n < 16) :
    imageByte (composeImage attributes gen label body) n = (imageHead attributes gen label body).getD n 0#8 := by
  rw [imageByte, toList_composeImage _ _ _ hb, List.getD_append _ _ _ _ (by rw [length_imageHead]; exact hn)]

theorem composeImage_body (n : Nat) : imageByte (composeImage attributes gen label body) (16 + n) = body.getD n 0#8 := by
  rw [imageByte, toList_composeImage _ _ _ hb, List.getD_append_right _ _ _ _ (by rw [length_imageHead]; omega), length_imageHead,
    Nat.add_sub_cancel_left]

theorem composeImage_label (j : Fin 8) : imageByte (composeImage attributes gen label body) (6 + j.val) = label[j] := by
  rw [composeImage_head _ _ _ hb (by omega), imageHead, List.getD_append _ _ _ _ (by rw [length_headerBytes]; omega), headerBytes,
    List.getD_append_right _ _ _ _ (by simp [le16])]
  simp [le16]

theorem composeImage_sum : wordSum (composeImage attributes gen label body).toList % 65536 = 0 := by
  rw [toList_composeImage _ _ _ hb, imageHead, List.append_assoc, wordSum_append _ _ (by rw [length_headerBytes]),
    wordSum_append _ _ (by rw [length_le16]), wordSum_le16]
  have := checksumFor_sum (wordSum (headerBytes attributes gen label) + wordSum body)
  omega

theorem composeImage_header : imageByte (composeImage attributes gen label body) 0 = 0xC3#8 ∧
    imageByte (composeImage attributes gen label body) 1 = 0x5A#8 ∧ imageByte (composeImage attributes gen label body) 2 = 1#8 ∧
    imageByte (composeImage attributes gen label body) 3 = attributes ∧
    imageByte (composeImage attributes gen label body) 4 = gen.extractLsb' 0 8 ∧
    imageByte (composeImage attributes gen label body) 5 = gen.extractLsb' 8 8 :=
  ⟨composeImage_head _ _ _ hb (by decide), composeImage_head _ _ _ hb (by decide), composeImage_head _ _ _ hb (by decide),
    composeImage_head _ _ _ hb (by decide), composeImage_head _ _ _ hb (by decide), composeImage_head _ _ _ hb (by decide)⟩

/-- A composed image is VALID with the parts of which it was composed. -/
theorem classify_composeImage : classify (composeImage attributes gen label body) =
    .valid label (attributes.getLsbD 7) (attributes.setWidth 7) gen := by
  obtain ⟨h0, h1, h2, h3, h4, h5⟩ := composeImage_header attributes gen label hb
  have hl : (Vector.ofFn fun i : Fin 8 => imageByte (composeImage attributes gen label body) (6 + i.val)) = label :=
    Vector.ext fun i hi => by
      rw [Vector.getElem_ofFn]
      exact composeImage_label attributes gen label hb ⟨i, hi⟩
  unfold classify
  rw [h0, h1, h2, h3, h4, h5, hl, half_le16, if_neg (by decide), if_pos ⟨rfl, rfl, rfl, composeImage_sum _ _ _ hb⟩]

end Compose

/-! ### The body (R169, R204) -/

section Body
variable (st : Setup) (f : Field)

theorem length_bodyBytes : (bodyBytes st).length = 176 := by
  rw [bodyBytes, length_flatMap_block _ (n := 4) _ fun _ _ => rfl]
  rfl

/-- A field's four bytes stand at its place. -/
theorem bodyBytes_getD {k : Nat} (hk : k < 4) :
    (bodyBytes st).getD (4 * (fieldIndex f).val + k) 0#8 = (le32 (BitVec.ofInt 32 (st.get f))).getD k 0#8 := by
  rw [List.getD_eq_getElem?_getD, List.getD_eq_getElem?_getD, bodyBytes, Nat.mul_comm,
    getElem?_flatMap_block _ (n := 4) _ (fun _ _ => rfl) (allFields_fieldIndex f) hk]

/-- One byte of a value in two's complement. -/
theorem ofInt_byte (v : Int) (k : Nat) :
    ((BitVec.ofInt 32 v).extractLsb' (8 * k) 8).toNat = ((v % 4294967296).toNat / 2 ^ (8 * k)) % 256 := by
  rw [BitVec.extractLsb'_toNat, BitVec.toNat_ofInt, Nat.shiftRight_eq_div_pow]
  rfl

theorem le32_ofInt (v : Int) : ((le32 (BitVec.ofInt 32 v)).map BitVec.toNat) =
    [(v % 256).toNat, (v / 256 % 256).toNat, (v / 65536 % 256).toNat, (v / 16777216 % 256).toNat] := by
  have h0 := ofInt_byte v 0
  have h1 := ofInt_byte v 1
  have h2 := ofInt_byte v 2
  have h3 := ofInt_byte v 3
  simp only [le32, List.map_cons, List.map_nil, List.cons.injEq, and_true]
  simp only [Nat.mul_zero, Nat.mul_one, Nat.reduceMul, Nat.reducePow] at h0 h1 h2 h3
  omega

end Body

/-! ### The snapshot of a live setup (R177, R185) -/

section Snapshot
variable (source : Option Link) (label : Vector Byte 8) (b : SetupBlock)

theorem snapshot_body (f : Field) {k : Nat} (hk : k < 4) :
    imageByte (snapshotImage source label b) (16 + (4 * (fieldIndex f).val + k)) =
      (le32 (BitVec.ofInt 32 (b.live.get f))).getD k 0#8 := by
  rw [snapshotImage, composeImage_body _ _ _ (length_bodyBytes b.live), bodyBytes_getD b.live f hk]

theorem imageSetup_get (img : Image) (f : Field) : (imageSetup img).get f =
    (word (imageByte img (16 + (4 * (fieldIndex f).val + 0))) (imageByte img (16 + (4 * (fieldIndex f).val + 1)))
      (imageByte img (16 + (4 * (fieldIndex f).val + 2))) (imageByte img (16 + (4 * (fieldIndex f).val + 3)))).toInt := by
  have h (k : Nat) : 16 + (4 * (fieldIndex f).val + k) = 16 + k + 4 * (fieldIndex f).val := by omega
  rw [h, h, h, h]
  exact Vector.getElem_ofFn _

/-- The body gives back every value that fits 32 bits. -/
theorem imageSetup_snapshot (h : ∀ f, -2147483648 ≤ b.live.get f ∧ b.live.get f ≤ 2147483647) :
    imageSetup (snapshotImage source label b) = b.live := by
  refine Setup.ext_get fun f => ?_
  obtain ⟨hlo, hhi⟩ := h f
  rw [imageSetup_get, snapshot_body source label b f (by decide), snapshot_body source label b f (by decide),
    snapshot_body source label b f (by decide), snapshot_body source label b f (by decide)]
  refine (congrArg BitVec.toInt (word_le32 (BitVec.ofInt 32 (b.live.get f)))).trans ?_
  rw [BitVec.toInt_ofInt]
  exact Int.bmod_eq_of_le (by omega) (by omega)

end Snapshot

/-! ### The lock flag (R180) -/

theorem attributesByte_bit (sb : BitVec 7) (on : Bool) (i : Nat) : (attributesByte sb on).getLsbD i =
    if i < 7 then sb.getLsbD i else (if on then 1#1 else 0#1).getLsbD (i - 7) := BitVec.getLsbD_append

theorem attributesByte_locked (sb : BitVec 7) (on : Bool) : (attributesByte sb on).getLsbD 7 = on := by
  rw [attributesByte_bit, if_neg (by decide)]
  cases on <;> rfl

theorem attributesByte_savedBy (sb : BitVec 7) (on : Bool) : (attributesByte sb on).setWidth 7 = sb := by
  refine BitVec.eq_of_getLsbD_eq fun i hi => ?_
  rw [BitVec.getLsbD_setWidth, attributesByte_bit, if_pos hi, decide_eq_true hi, Bool.true_and]

theorem attributesByte_toNat (sb : BitVec 7) : (attributesByte sb false).toNat = sb.toNat := by
  have h : (attributesByte sb false).toNat = (0#1).toNat <<< 7 ||| sb.toNat := BitVec.toNat_append _ _
  rw [h]
  simp

theorem length_drop_image (img : Image) : (img.toList.drop 16).length = 176 := by simp

theorem lockImage_body (img : Image) (on : Bool) {n : Nat} (hn : 16 ≤ n) : imageByte (lockImage img on) n = imageByte img n := by
  obtain ⟨m, rfl⟩ := Nat.exists_eq_add_of_le hn
  rw [lockImage, composeImage_body _ _ _ (length_drop_image img), imageByte, List.getD_eq_getElem?_getD, List.getElem?_drop,
    ← List.getD_eq_getElem?_getD]

/-! ### The class of an image (R170) -/

section Classify
variable (img : Image)

/-- An image with the magic, the version and the sum of a saved setup. -/
def savedImage : Prop :=
  imageByte img 0 = 0xC3#8 ∧ imageByte img 1 = 0x5A#8 ∧ imageByte img 2 = 1#8 ∧ wordSum img.toList % 65536 = 0

variable {img}

theorem classify_saved (h : savedImage img) : classify img = .valid (Vector.ofFn fun i => imageByte img (6 + i.val))
    ((imageByte img 3).getLsbD 7) ((imageByte img 3).setWidth 7) (half (imageByte img 4) (imageByte img 5)) := by
  have hne : ¬(imageByte img 0 = 0xFF#8 ∧ imageByte img 1 = 0xFF#8) := fun h' => by rw [h.1] at h'; exact absurd h'.1 (by decide)
  exact (if_neg hne).trans (if_pos h)

theorem classify_empty_iff : classify img = .empty ↔ imageByte img 0 = 0xFF#8 ∧ imageByte img 1 = 0xFF#8 := by
  unfold classify
  split
  · next h => exact ⟨fun _ => h, fun _ => rfl⟩
  · next h =>
    split
    · exact ⟨fun h' => (by cases h'), fun h' => absurd h' h⟩
    · exact ⟨fun h' => (by cases h'), fun h' => absurd h' h⟩

theorem savedImage_of_valid {lb : Vector Byte 8} {k : Bool} {sb : BitVec 7} {g : BitVec 16} (h : classify img = .valid lb k sb g) :
    savedImage img := by
  unfold classify at h
  split at h
  · cases h
  · split at h
    · next hs => exact hs
    · cases h

/-- A lock change keeps a VALID image's other parts. -/
theorem classify_lockImage {lb : Vector Byte 8} {k : Bool} {sb : BitVec 7} {g : BitVec 16} (h : classify img = .valid lb k sb g)
    (on : Bool) : classify (lockImage img on) = .valid lb on sb g := by
  have hs := classify_saved (savedImage_of_valid h)
  cases hs.symm.trans h
  rw [lockImage, classify_composeImage _ _ _ (length_drop_image img), attributesByte_locked, attributesByte_savedBy]

end Classify

/-- Settles O40: the header by its bytes, the body by its blocks of four, the class by the sum that the checksum makes 0. -/
theorem savedImageGivesSetupBack : Obligations.SavedImageGivesSetupBack := by
  refine ⟨?snapshot, ?images⟩
  case images =>
    intro img sum
    refine ⟨classify_empty_iff, ?_, fun lb k sb g on h => ⟨classify_lockImage h on, fun n hn => lockImage_body img on hn⟩⟩
    have hsum : wordSum img.toList = sum := wordSum_words 96 img.toList (by simp)
    rw [← hsum]
    exact ⟨fun ⟨lb, k, sb, g, h⟩ => savedImage_of_valid h, fun h => ⟨_, _, _, _, classify_saved h⟩⟩
  intro source label b hfit img code
  have hcode : savedByCode source = BitVec.ofNat 7 code := by
    rcases source with _ | l
    · rfl
    · cases l <;> rfl
  have hlt : code < 128 := by
    rcases source with _ | l
    · decide
    · cases l <;> decide
  obtain ⟨h0, h1, h2, h3, h4, h5⟩ := composeImage_header (attributesByte (savedByCode source) false) (b.gen.setWidth 16) label
    (length_bodyBytes b.live)
  refine ⟨h0, h1, h2, ?_, h4.trans ?_, h5.trans ?_, fun j => ?_, fun f => ?_, ?_, imageSetup_snapshot source label b hfit⟩
  · rw [show imageByte img 3 = _ from h3, attributesByte_toNat, hcode, BitVec.toNat_ofNat]
    omega
  · refine BitVec.eq_of_toNat_eq ?_
    simp
  · refine BitVec.eq_of_toNat_eq ?_
    simp
    omega
  · exact composeImage_label _ _ label (length_bodyBytes b.live) j
  · have hbytes := le32_ofInt (b.live.get f)
    have hat (k : Nat) (hk : k < 4) := snapshot_body source label b f hk
    have e (k : Nat) : 16 + (4 * (fieldIndex f).val + k) = 16 + k + 4 * (fieldIndex f).val := by omega
    simp only [e] at hat
    simp only [le32, List.map_cons, List.map_nil, List.cons.injEq, and_true] at hbytes
    obtain ⟨b0, b1, b2, b3⟩ := hbytes
    refine ⟨(congrArg BitVec.toNat (hat 0 (by decide))).trans b0, (congrArg BitVec.toNat (hat 1 (by decide))).trans b1,
      (congrArg BitVec.toNat (hat 2 (by decide))).trans b2, (congrArg BitVec.toNat (hat 3 (by decide))).trans b3⟩
  · refine (classify_composeImage _ _ label (length_bodyBytes b.live)).trans ?_
    rw [attributesByte_locked, attributesByte_savedBy, hcode]

end Sys2Proof.Machine
end

section
/-! PROOFS. The bytes of an answer (R202, R203): numbers read back at their places, records of a fixed length one after another. -/

namespace Sys2Proof.Machine

/-! ### Numbers at their places -/

section Places
variable {b d : List Byte} {i k n : Nat}

theorem numberAt_congr (h : ∀ j < n, b[i + j]? = d[k + j]?) : numberAt b i n = numberAt d k n := by
  refine congrArg List.sum (List.map_congr_left fun j hj => ?_)
  rw [List.getD_eq_getElem?_getD, List.getD_eq_getElem?_getD, h j (List.mem_range.1 hj)]

/-- The bytes at a place carry their number wherever they stand. -/
theorem numberAt_of_take (h : (b.drop i).take n = d) : numberAt b i n = numberAt d 0 n :=
  numberAt_congr fun j hj => by rw [← h, Nat.zero_add, List.getElem?_take_of_lt hj, List.getElem?_drop]

/-- The number at place k of record j, in records of m bytes after a beginning. -/
theorem numberAt_flatMap {α : Type} (pre post : List Byte) (g : α → List Byte) {m : Nat} (l : List α)
    (hg : ∀ a ∈ l, (g a).length = m) {j : Nat} {a : α} (hj : l[j]? = some a) (hk : k + n ≤ m) :
    numberAt (pre ++ (l.flatMap g ++ post)) (pre.length + m * j + k) n = numberAt (g a) k n := by
  refine numberAt_congr fun x hx => ?_
  have hblock := getElem?_flatMap_block g l hg hj (show k + x < m by omega)
  have hin : j * m + (k + x) < (l.flatMap g).length := by
    refine (List.getElem?_eq_some_iff.1 (hblock.trans (List.getElem?_eq_getElem ?_))).1
    rw [hg a (List.mem_of_getElem? hj)]
    omega
  rw [List.getElem?_append_right (by omega), show pre.length + m * j + k + x - pre.length = j * m + (k + x) by rw [Nat.mul_comm]; omega,
    List.getElem?_append_left hin, hblock]

end Places

/-! ### The numbers of the items (R202) -/

theorem numberAt_one (x : Byte) : numberAt [x] 0 1 = x.toNat := by simp [numberAt]

theorem numberAt_byteOf (n : Nat) : numberAt [byteOf n] 0 1 = n % 256 := by rw [numberAt_one, byteOf, BitVec.toNat_ofNat]

theorem numberAt_le16 (v : BitVec 16) : numberAt (le16 v) 0 2 = v.toNat := by
  have := v.isLt
  simp only [numberAt, le16, List.range_succ, List.range_zero, List.nil_append, List.map_append, List.map_cons, List.map_nil,
    List.sum_append, List.sum_cons, List.sum_nil, List.getD_cons_zero, List.getD_cons_succ, Nat.zero_add, BitVec.extractLsb'_toNat,
    Nat.shiftRight_eq_div_pow]
  omega

theorem numberAt_le32 (v : Word) : numberAt (le32 v) 0 4 = v.toNat := by
  have := v.isLt
  simp only [numberAt, le32, List.range_succ, List.range_zero, List.nil_append, List.map_append, List.map_cons, List.map_nil,
    List.sum_append, List.sum_cons, List.sum_nil, List.getD_cons_zero, List.getD_cons_succ, Nat.zero_add, BitVec.extractLsb'_toNat,
    Nat.shiftRight_eq_div_pow]
  omega

theorem numberAt_le48 (v : BitVec 48) : numberAt (le48 v) 0 6 = v.toNat := by
  have := v.isLt
  simp only [numberAt, le48, List.range_succ, List.range_zero, List.nil_append, List.map_append, List.map_cons, List.map_nil,
    List.sum_append, List.sum_cons, List.sum_nil, List.getD_cons_zero, List.getD_cons_succ, Nat.zero_add, BitVec.extractLsb'_toNat,
    Nat.shiftRight_eq_div_pow]
  omega

theorem numberAt_le16Of (n : Nat) : numberAt (le16Of n) 0 2 = n % 65536 := by rw [le16Of, numberAt_le16, BitVec.toNat_ofNat]

theorem numberAt_le32_ofNat (n : Nat) : numberAt (le32 (BitVec.ofNat 32 n)) 0 4 = n % 4294967296 := by
  rw [numberAt_le32, BitVec.toNat_ofNat]

theorem numberAt_valueOf (v : Int) : (numberAt (valueOf v) 0 4 : Int) = v % 4294967296 := by
  rw [valueOf, numberAt_le32, BitVec.toNat_ofInt]
  omega

theorem numberAt_ofInt8 (v : Int) : (numberAt [BitVec.ofInt 8 v] 0 1 : Int) = v % 256 := by
  rw [numberAt_one, BitVec.toNat_ofInt]
  omega

/-! ### PANEL.TAKE -/

theorem length_eventBytes (e : PanelEvent) : (eventBytes e).length = 8 := rfl

/-- A panel event record in its eight bytes (R203). -/
theorem eventBytes_carry (e : PanelEvent) : numberAt (eventBytes e) 0 1 = e.control % 256 ∧
    numberAt (eventBytes e) 1 1 = eventKindCode e.kind ∧ (numberAt (eventBytes e) 2 1 : Int) = e.detents % 256 ∧
    numberAt (eventBytes e) 3 1 = e.entry.getD 255 % 256 ∧ numberAt (eventBytes e) 4 4 = e.time.toNat := by
  refine ⟨(numberAt_of_take (d := [byteOf e.control]) rfl).trans (numberAt_byteOf _),
    (numberAt_of_take (d := [byteOf (eventKindCode e.kind)]) rfl).trans ((numberAt_byteOf _).trans ?_), ?_,
    (numberAt_of_take (d := [byteOf (e.entry.getD 255)]) rfl).trans (numberAt_byteOf _),
    (numberAt_of_take (d := le32 e.time) rfl).trans (numberAt_le32 _)⟩
  · cases e.kind <;> rfl
  · rw [numberAt_of_take (d := [BitVec.ofInt 8 e.detents]) rfl]
    exact numberAt_ofInt8 _

/-! ### REC.HEADER -/

/-- The header's bytes before the settings. -/
def headerFront (h : Header) (entries : Nat) : List Byte :=
  le32 h.number ++ le32 h.gen ++ [byteOf h.k, byteOf (outcomeCode h.outcome)] ++ le16Of h.planned ++ le16Of h.completed ++
  [clipByte h.clip, byteOf (drawnCode h.drawn)] ++ le32 (BitVec.ofNat 32 h.points) ++ le32 (BitVec.ofNat 32 h.trigIndex) ++
  [linkFlags h.pins, linkFlags h.released] ++ le16Of entries

/-- The CAPTURE fields' bytes. -/
def captureBytes (st : Setup) : List Byte := captureFields.flatMap (fun f => valueOf (st.get f))

theorem headerBytesOf_eq (h : Header) (es : List SegEntry) :
    headerBytesOf h es = headerFront h es.length ++ captureBytes h.setup ++ es.flatMap segBytes := rfl

theorem length_headerFront (h : Header) (n : Nat) : (headerFront h n).length = 28 := rfl

theorem length_captureBytes (st : Setup) : (captureBytes st).length = 124 := by
  rw [captureBytes, length_flatMap_block _ (n := 4) _ fun _ _ => rfl]
  decide

theorem length_segBytes (e : SegEntry) : (segBytes e).length = 12 := rfl

theorem segBytes_carry (e : SegEntry) : numberAt (segBytes e) 0 6 = e.time.toNat ∧ numberAt (segBytes e) 6 4 = e.point.toNat ∧
    numberAt (segBytes e) 10 1 = (if e.forced then 1 else 0) ∧ numberAt (segBytes e) 11 1 = 0 := by
  refine ⟨(numberAt_of_take (d := le48 e.time) rfl).trans (numberAt_le48 _),
    (numberAt_of_take (d := le32 e.point) rfl).trans (numberAt_le32 _),
    (numberAt_of_take (d := [bitByte e.forced]) rfl).trans ((numberAt_one _).trans ?_),
    (numberAt_of_take (d := [0#8]) rfl).trans (numberAt_one _)⟩
  cases e.forced <;> rfl

theorem clipByte_bits (p : PerChan Bool) : (∀ c, (clipByte p).toNat.testBit ((chanNumber c).toNat - 1) = p.get c) ∧
    (clipByte p).toNat < 16 := by
  obtain ⟨a, b, c, d⟩ := p
  refine ⟨fun x => ?_, ?_⟩
  · cases x <;> revert a b c d <;> decide
  · revert a b c d; decide

theorem linkFlags_toNat (p : PerLink Bool) :
    (linkFlags p).toNat = (if p.console then 1 else 0) + (if p.remote then 2 else 0) := by
  obtain ⟨a, b⟩ := p
  revert a b
  decide

theorem numberAt_linkFlags (p : PerLink Bool) :
    numberAt [linkFlags p] 0 1 = (if p.console then 1 else 0) + (if p.remote then 2 else 0) :=
  (numberAt_one _).trans (linkFlags_toNat p)

/-- The header before its settings, item by item (R203). -/
theorem headerBytesOf_front (h : Header) (es : List SegEntry) :
    numberAt (headerBytesOf h es) 0 4 = h.number.toNat ∧ numberAt (headerBytesOf h es) 4 4 = h.gen.toNat ∧
    numberAt (headerBytesOf h es) 8 1 = h.k % 256 ∧ numberAt (headerBytesOf h es) 9 1 = outcomeCode h.outcome % 256 ∧
    numberAt (headerBytesOf h es) 10 2 = h.planned % 65536 ∧ numberAt (headerBytesOf h es) 12 2 = h.completed % 65536 ∧
    numberAt (headerBytesOf h es) 14 1 = (clipByte h.clip).toNat ∧
    numberAt (headerBytesOf h es) 15 1 = drawnCode h.drawn % 256 ∧
    numberAt (headerBytesOf h es) 16 4 = h.points % 4294967296 ∧ numberAt (headerBytesOf h es) 20 4 = h.trigIndex % 4294967296 ∧
    numberAt (headerBytesOf h es) 24 1 = (if h.pins.console then 1 else 0) + (if h.pins.remote then 2 else 0) ∧
    numberAt (headerBytesOf h es) 25 1 = (if h.released.console then 1 else 0) + (if h.released.remote then 2 else 0) ∧
    numberAt (headerBytesOf h es) 26 2 = es.length % 65536 :=
  ⟨(numberAt_of_take (d := le32 h.number) rfl).trans (numberAt_le32 _),
    (numberAt_of_take (d := le32 h.gen) rfl).trans (numberAt_le32 _),
    (numberAt_of_take (d := [byteOf h.k]) rfl).trans (numberAt_byteOf _),
    (numberAt_of_take (d := [byteOf (outcomeCode h.outcome)]) rfl).trans (numberAt_byteOf _),
    (numberAt_of_take (d := le16Of h.planned) rfl).trans (numberAt_le16Of _),
    (numberAt_of_take (d := le16Of h.completed) rfl).trans (numberAt_le16Of _),
    (numberAt_of_take (d := [clipByte h.clip]) rfl).trans (numberAt_one _),
    (numberAt_of_take (d := [byteOf (drawnCode h.drawn)]) rfl).trans (numberAt_byteOf _),
    (numberAt_of_take (d := le32 (BitVec.ofNat 32 h.points)) rfl).trans (numberAt_le32_ofNat _),
    (numberAt_of_take (d := le32 (BitVec.ofNat 32 h.trigIndex)) rfl).trans (numberAt_le32_ofNat _),
    (numberAt_of_take (d := [linkFlags h.pins]) rfl).trans (numberAt_linkFlags _),
    (numberAt_of_take (d := [linkFlags h.released]) rfl).trans (numberAt_linkFlags _),
    (numberAt_of_take (d := le16Of es.length) rfl).trans (numberAt_le16Of _)⟩

/-- Each CAPTURE field stands in four bytes after the header's first 28. -/
theorem headerBytesOf_capture (h : Header) (es : List SegEntry) {j : Nat} {f : Field} (hj : captureFields[j]? = some f) :
    (numberAt (headerBytesOf h es) (28 + 4 * j) 4 : Int) = h.setup.get f % 4294967296 := by
  have hplace := numberAt_flatMap (k := 0) (n := 4) (headerFront h es.length) (es.flatMap segBytes) (fun f => valueOf (h.setup.get f))
    captureFields (fun _ _ => rfl) hj (Nat.le_refl 4)
  rw [headerBytesOf_eq, List.append_assoc, captureBytes]
  exact (congrArg Int.ofNat hplace).trans (numberAt_valueOf _)

/-- Each segment entry stands in twelve bytes after the settings. -/
theorem headerBytesOf_entry (h : Header) (es : List SegEntry) {j : Nat} {e : SegEntry} (hj : es[j]? = some e) {k n : Nat}
    (hk : k + n ≤ 12) : numberAt (headerBytesOf h es) (152 + 12 * j + k) n = numberAt (segBytes e) k n := by
  have hplace := numberAt_flatMap (headerFront h es.length ++ captureBytes h.setup) [] segBytes es (fun e _ => length_segBytes e) hj hk
  rwa [List.append_nil, ← headerBytesOf_eq, List.length_append, length_headerFront, length_captureBytes] at hplace

theorem length_headerBytesOf (h : Header) (es : List SegEntry) : (headerBytesOf h es).length = 152 + 12 * es.length := by
  rw [headerBytesOf_eq, List.length_append, List.length_append, length_headerFront, length_captureBytes,
    length_flatMap_block _ _ fun e _ => length_segBytes e, Nat.mul_comm]

theorem headerBytesOf_carried (h : Header) (es : List SegEntry) : headerCarried h es (headerBytesOf h es) := by
  obtain ⟨hnumber, hgen, hk, hout, hplanned, hcompleted, hclip, hdrawn, hpoints, htrig, hpins, hreleased, hentries⟩ :=
    headerBytesOf_front h es
  obtain ⟨hbits, hfour⟩ := clipByte_bits h.clip
  refine ⟨length_headerBytesOf h es, hnumber, hgen, hk, fun ho => ?_, fun ho => ?_, hplanned, hcompleted, fun c => ?_, ?_, ?_, hpoints,
    htrig, hpins, hreleased, hentries, fun _ _ hj => headerBytesOf_capture h es hj, fun j e hj => ?_⟩
  · rw [hout, ho]
    rfl
  · rw [hout, ho]
    rfl
  · rw [hclip]
    exact hbits c
  · rw [hclip]
    exact hfour
  · rw [hdrawn]
    cases h.drawn <;> rfl
  · obtain ⟨htime, hpoint, hforced, hzero⟩ := segBytes_carry e
    refine ⟨(headerBytesOf_entry h es hj (k := 0) (by decide)).trans htime, ?_, ?_, ?_⟩
    · rw [show 158 + 12 * j = 152 + 12 * j + 6 by omega, headerBytesOf_entry h es hj (by decide), hpoint]
    · rw [show 162 + 12 * j = 152 + 12 * j + 10 by omega, headerBytesOf_entry h es hj (by decide), hforced]
    · rw [show 163 + 12 * j = 152 + 12 * j + 11 by omega, headerBytesOf_entry h es hj (by decide), hzero]

/-! ### REC.READ -/

theorem pointBytes_carry {size : Nat} (hsize : size = 1 ∨ size = 2) (v : Int) : (pointBytes size v).length = size ∧
    (numberAt (pointBytes size v) 0 size : Int) = v % (256 ^ size : Nat) := by
  rcases hsize with rfl | rfl
  · exact ⟨rfl, numberAt_ofInt8 v⟩
  · refine ⟨rfl, ?_⟩
    rw [pointBytes, if_pos rfl, numberAt_le16, BitVec.toNat_ofInt]
    omega

/-! ### O7 -/

/-- The answer of PANEL.TAKE: the counts, then the records. -/
theorem takenBytes_carry (es : List PanelEvent) (left : Nat) (lost : BitVec 16) {j : Nat} {e : PanelEvent} (hj : es[j]? = some e)
    {k n : Nat} (hk : k + n ≤ 8) :
    numberAt (payloadBytes (.taken es left lost)) (4 + 8 * j + k) n = numberAt (eventBytes e) k n := by
  have hplace := numberAt_flatMap ([byteOf es.length, byteOf left] ++ le16 lost) [] eventBytes es (fun e _ => length_eventBytes e) hj hk
  rwa [List.append_nil] at hplace

/-- Settles O7: every number is read at its place, the records as blocks of one length. -/
theorem answersAreCarriedAsBytes : Obligations.AnswersAreCarriedAsBytes := by
  refine ⟨fun r hlen => ?_, by decide, ?_, headerBytesOf_carried, ?_⟩
  · obtain ⟨lo, hi, hbytes, hnum⟩ := le16_carries (payloadBytes r.payload).length
    refine ⟨lo, hi, ?_, hnum hlen⟩
    change [r.tag, statusCode r.status] ++ le16 _ ++ _ = _
    rw [hbytes]
    rfl
  · rintro es left lost b rfl
    refine ⟨?_, (numberAt_of_take (d := [byteOf es.length]) rfl).trans (numberAt_byteOf _),
      (numberAt_of_take (d := [byteOf left]) rfl).trans (numberAt_byteOf _),
      (numberAt_of_take (d := le16 lost) rfl).trans (numberAt_le16 _), fun j e hj => ?_⟩
    · change ([byteOf es.length, byteOf left] ++ le16 lost ++ es.flatMap eventBytes).length = _
      rw [List.length_append, length_flatMap_block _ _ fun e _ => length_eventBytes e, Nat.mul_comm]
      rfl
    · obtain ⟨hcontrol, hkind, hdetents, hentry, htime⟩ := eventBytes_carry e
      have hat : ∀ {k n : Nat}, k + n ≤ 8 → _ := fun {k n} => takenBytes_carry es left lost hj (k := k) (n := n)
      refine ⟨(hat (k := 0) (by decide)).trans hcontrol, ?_, ?_, fun hnone => ?_, fun n hsome => ?_, ?_⟩
      · rw [show 5 + 8 * j = 4 + 8 * j + 1 by omega, hat (by decide), hkind]
        cases e.kind <;> rfl
      · rw [show 6 + 8 * j = 4 + 8 * j + 2 by omega, hat (by decide), hdetents]
      · rw [show 7 + 8 * j = 4 + 8 * j + 3 by omega, hat (by decide), hentry, hnone]
        rfl
      · rw [show 7 + 8 * j = 4 + 8 * j + 3 by omega, hat (by decide), hentry, hsome]
        rfl
      · rw [show 8 + 8 * j = 4 + 8 * j + 4 by omega, hat (by decide), htime]
  · rintro size values b hsize rfl
    refine ⟨?_, fun j v hj => ?_⟩
    · change (values.flatMap (pointBytes size)).length = _
      rw [length_flatMap_block _ _ fun v _ => (pointBytes_carry hsize v).1, Nat.mul_comm]
    · have hplace := numberAt_flatMap (k := 0) (n := size) [] [] (pointBytes size) values (fun v _ => (pointBytes_carry hsize v).1) hj
        (by omega)
      rw [List.nil_append, List.append_nil, List.length_nil, Nat.zero_add, Nat.add_zero] at hplace
      exact (congrArg Int.ofNat hplace).trans (pointBytes_carry hsize v).2

end Sys2Proof.Machine
end

section
/-! PROOFS. What the receivers of an installed commit do (R24): nothing, a redraw, a capture change, a layout change, a retention
change. -/

namespace Sys2Proof.Machine

/-! ### The state that the receivers find -/

/-- b is the state that the receivers of the commit of st find: installed, the links told, the streams routed, the rest as in s. -/
structure Found (st : Setup) (s b : State) : Prop where
  live : b.setup.live = st
  gen : b.setup.gen = s.setup.gen + 1#32
  seq : b.seq = { s.seq with front := b.seq.front }
  sameFront : enabledChans st = enabledChans s.setup.live → b.seq.front = s.seq.front
  freshFront : enabledChans st ≠ enabledChans s.setup.live → b.seq.front.routing = none
  store : b.store = s.store
  raster : b.raster = s.raster
  told : ∀ m, (b.links.get m).notices &&& noticeMask .records = (s.links.get m).notices &&& noticeMask .records

theorem handedOn_seq (src : Source) (new : Setup) (s : State) :
    (handedOn src new s).seq = (routeStreams s.setup.live new (installSetup new s)).seq := by
  rw [handedOn, evalLeds_seq, notifySource_frame]
  rfl

theorem found_handedOn (l : Link) (tag kind : Byte) (st : Setup) (s : State) :
    Found st s (handedOn (.link l) st (working l tag kind s)) := by
  have hseq : (handedOn (.link l) st (working l tag kind s)).seq =
      (routeStreams s.setup.live st (installSetup st (working l tag kind s))).seq := handedOn_seq ..
  obtain ⟨lit, front, hu⟩ := handedOn_eq (.link l) st (working l tag kind s)
  refine ⟨by rw [hu]; rfl, by rw [hu]; rfl, by rw [hu]; rfl, fun he => ?_, fun hne => ?_, by rw [hu]; rfl, by rw [hu]; rfl,
    fun m => ?_⟩
  · rw [hseq, routeStreams, if_pos he.symm]
    rfl
  · rw [hseq, routeStreams, if_neg (Ne.symm hne)]
    rfl
  · rw [hu]
    change ((notifySource (.link l) (working l tag kind s)).links.get m).notices &&& _ = _
    have bits : ∀ x : BitVec 7, (x ||| noticeMask .setupChanged) &&& noticeMask .records = x &&& noticeMask .records := by decide
    rw [notifySource_notices, working_notices]
    split
    · exact bits _
    · rfl

/-! ### Which receivers react (R24) -/

theorem any_changedFields (p : Field → Bool) (old new : Setup) :
    (changedFields old new).any p = true ↔ ∃ f, p f = true ∧ new.get f ≠ old.get f := by
  rw [List.any_eq_true]
  exact ⟨fun ⟨f, hf, hp⟩ => ⟨f, hp, Ne.symm (mem_changedFields.1 hf)⟩, fun ⟨f, hp, hne⟩ => ⟨f, mem_changedFields.2 (Ne.symm hne), hp⟩⟩

/-- A CAPTURE field has changed. -/
def captureMoved (old new : Setup) : Prop := ∃ f, fieldClass f = .capture ∧ new.get f ≠ old.get f

/-- The layout of acquisition memory changes (R127). -/
def layoutMoved (old new : Setup) : Prop :=
  new.get .acqDepth ≠ old.get .acqDepth ∨ (enabledChans new).length ≠ (enabledChans old).length

/-- A field has changed that requests a redraw. -/
def redrawMoved (old new : Setup) : Prop := ∃ f, redrawField f = true ∧ new.get f ≠ old.get f

open Classical in
theorem reactions_eq (old new : Setup) (gen : Word) (stopped : Bool) : reactions old new gen stopped =
    (if captureMoved old new then [captureChange gen] else []) ++ (if layoutMoved old new then [layoutChange] else []) ++
    (if new.get .acqRetain ≠ old.get .acqRetain then [retentionChange] else []) ++
    (if stopped = true ∧ redrawMoved old new then [redrawRequest] else []) := by
  have hcapture : (changedFields old new).any (fun f => decide (fieldClass f = .capture)) = true ↔ captureMoved old new :=
    (any_changedFields ..).trans (by simp only [decide_eq_true_eq, captureMoved])
  have hlayout : ((enabledChans old).length ≠ (enabledChans new).length ∨ old.get .acqDepth ≠ new.get .acqDepth) ↔
      layoutMoved old new := ⟨fun h => h.symm.imp Ne.symm Ne.symm, fun h => h.symm.imp Ne.symm Ne.symm⟩
  have hredraw : (stopped && (changedFields old new).any redrawField) = true ↔ stopped = true ∧ redrawMoved old new :=
    Bool.and_eq_true_iff.trans (and_congr_right fun _ => any_changedFields ..)
  unfold reactions
  simp only [hcapture, hlayout, hredraw, ne_comm (a := old.get .acqRetain)]

theorem captureMoved_of_layoutMoved {old new : Setup} (h : layoutMoved old new) : captureMoved old new := by
  rcases h with hdepth | hcount
  · exact ⟨.acqDepth, rfl, hdepth⟩
  · by_contra hno
    refine hcount (congrArg List.length (enabledChans_congr fun c => ?_))
    by_contra hne
    exact hno ⟨.chOn c, rfl, hne⟩

theorem enabledChans_of_not_captureMoved {old new : Setup} (h : ¬ captureMoved old new) : enabledChans new = enabledChans old :=
  enabledChans_congr fun c => by
    by_contra hne
    exact h ⟨.chOn c, rfl, hne⟩

theorem redrawField_iff (f : Field) : redrawField f = true ↔
    fieldClass f = .view ∨ f = .tbScale ∨ ∃ c, f = .chScale c ∨ f = .chOffset c := by
  cases f <;> simp [redrawField, fieldClass]

/-- One reaction that leaves no record named. -/
theorem takeAll_single {act : State → State} {s : State} (h : (act s).raster.chosen = none) : takeAll [act] s = act s := by
  change interleave 2 [act] s = _
  rw [interleave_single, lateStart_none h, interleave_nil]

/-! ### A redraw request (R146) -/

/-- u is b but for what no receiver reads here. -/
structure SameBut (b u : State) : Prop where
  seq : u.seq = b.seq
  store : u.store = b.store
  setup : u.setup = b.setup
  raster : u.raster = b.raster

/-- The newest COMPLETE record is found by its number. -/
theorem findComplete_newest {slots : List Slot} {k : Nat} {h : Header} (hn : newestOf k h slots) :
    findComplete slots h.number = some (k, h) := by
  have hm : (k, h) ∈ completes slots := mem_completes.2 hn.1
  cases hf : findComplete slots h.number with
  | none => exact absurd (List.find?_eq_none.1 hf (k, h) hm) (by simp)
  | some y =>
    have hnumber : y.2.number = h.number := by simpa using List.find?_some hf
    by_contra hne
    obtain ⟨hk, hy⟩ := complete_ne hn.1 (List.mem_of_find?_eq_some hf) fun he => hne (by rw [he])
    have hnewer := hn.2 y.1 y.2 hk hy
    rw [hnumber] at hnewer
    exact Bool.noConfusion ((newer_asymm hnewer).symm.trans hnewer)

/-- A redraw of the record with this number is in draw, the planes cleared. -/
structure Redrawing (number : Word) (u : State) : Prop where
  engine : u.raster.engine = .rendering
  redraw : u.raster.redraw = false
  planes : u.raster.planes = ⟨[], [], [], []⟩
  draw : ∃ d, u.raster.draw = some d ∧ d.number = number ∧ d.kind = .redraw
  chosen : u.raster.chosen = none

section Redraw
variable {b : State} (hnone : b.seq.current = none) (hchosen : b.raster.chosen = none)
  {before : List (State → State)} (hbefore : ∀ a ∈ before, ∀ u : State, u.seq.current = none → a u = u)
include hnone hchosen hbefore

/-- What a redraw request makes of b, once drawing is done. -/
theorem takeAll_redraw {Q : State → Prop} (hQr : ∀ u x, Q u → Q (u.withRaces x)) (hQd : ∀ u, Q u → Q (settleDraw u))
    (hQn : ∀ u, Q u → u.seq.current = none) (hact : ∀ u, SameBut b u → Q (redrawRequest u)) :
    Q (takeAll (before ++ [redrawRequest]) b) := by
  refine takeAll_once (P := SameBut b) (fun _ _ h => ⟨h.seq, h.store, h.setup, h.raster⟩) (fun u h => ?_) hQr hQd hact before []
    (fun a ha u h => ?_) (fun a ha u h => ?_) ⟨rfl, rfl, rfl, rfl⟩
  · rwa [settleDraw_none (by rw [h.raster]; exact hchosen)]
  · rw [List.append_nil] at ha
    rwa [hbefore a ha u (by rw [h.seq]; exact hnone)]
  · rw [List.append_nil] at ha
    rwa [hbefore a ha u (hQn u h)]

/-- The engine draws or is halted: redraw-pending. -/
theorem takeAll_redraw_busy (hbusy : b.raster.engine ≠ .idle) :
    (takeAll (before ++ [redrawRequest]) b).seq = b.seq ∧ (takeAll (before ++ [redrawRequest]) b).store = b.store ∧
    (takeAll (before ++ [redrawRequest]) b).raster = { b.raster with redraw := true } := by
  refine takeAll_redraw hnone hchosen hbefore
    (Q := fun u => u.seq = b.seq ∧ u.store = b.store ∧ u.raster = { b.raster with redraw := true }) (fun _ _ h => h) (fun u h => ?_)
    (fun u h => by rw [h.1]; exact hnone) (fun u h => ?_)
  · rwa [settleDraw_none (by rw [h.2.2]; exact hchosen)]
  · rw [redrawRequest, askDraw_busy (by rw [State.withRaster_raster, h.raster]; exact hbusy)]
    exact ⟨h.seq, h.store, congrArg (fun r : RasterEngine => { r with redraw := true }) h.raster⟩

variable (hidle : b.raster.engine = .idle)
include hidle

omit hnone hchosen hbefore in
/-- The question of the selection that a redraw request makes in IDLE. -/
theorem redrawRequest_idle {u : State} (h : SameBut b u) : redrawRequest u =
    choose ((newestComplete b).map (fun x => (.redraw, x.2.number))) (redrawTaken (u.withRaster { u.raster with redraw := true })) := by
  have hasked : drawAsked (u.withRaster { u.raster with redraw := true }) =
      (newestComplete b).map (fun x => (.redraw, x.2.number)) :=
    (if_pos rfl).trans (congrArg (fun st : RecordStore => (newest (completes st.slots)).map fun x => (DrawKind.redraw, x.2.number)) h.store)
  rw [redrawRequest, askDraw_idle (by rw [State.withRaster_raster, h.raster]; exact hidle), hasked]
  exact congrArg (choose _) (if_pos rfl)

/-- No COMPLETE record: the planes are cleared. -/
theorem takeAll_redraw_empty (hempty : ∀ sl ∈ b.store.slots, ∀ h, sl ≠ .complete h) :
    (takeAll (before ++ [redrawRequest]) b).seq = b.seq ∧ (takeAll (before ++ [redrawRequest]) b).store = b.store ∧
    (takeAll (before ++ [redrawRequest]) b).raster = { b.raster with redraw := false, planes := ⟨[], [], [], []⟩ } := by
  refine takeAll_redraw hnone hchosen hbefore (Q := fun u => u.seq = b.seq ∧ u.store = b.store ∧
    u.raster = { b.raster with redraw := false, planes := ⟨[], [], [], []⟩ }) (fun _ _ h => h) (fun u h => ?_)
    (fun u h => by rw [h.1]; exact hnone) (fun u h => ?_)
  · rwa [settleDraw_none (by rw [h.2.2]; exact hchosen)]
  · rw [redrawRequest_idle hidle h, newestComplete_none hempty]
    refine ⟨h.seq, h.store, ?_⟩
    refine (congrArg (fun r : RasterEngine => { r with redraw := false, planes := ⟨[], [], [], []⟩, chosen := none }) h.raster).trans ?_
    rw [← hchosen]

/-- The newest record in view: its redraw begins with cleared planes. -/
theorem takeAll_redraw_newest {k : Nat} {h : Header} (hn : newestOf k h b.store.slots) (hv : inView h b) :
    Redrawing h.number (takeAll (before ++ [redrawRequest]) b) := by
  have hask {u : State} (hu : SameBut b u) : redrawRequest u =
      choose (some (.redraw, h.number)) (redrawTaken (u.withRaster { u.raster with redraw := true })) := by
    rw [redrawRequest_idle hidle hu, newestComplete_eq hn]
    rfl
  have hsettle {u : State} (hu : SameBut b u) :
      (settleDraw (redrawRequest u)).seq.current = none ∧ Redrawing h.number (settleDraw (redrawRequest u)) := by
    have hasked : drawAsked (u.withRaster { u.raster with redraw := true }) = some (.redraw, h.number) := by
      refine (if_pos rfl).trans ?_
      rw [show newestComplete (u.withRaster { u.raster with redraw := true }) = some (k, h) from
        newestComplete_eq (s := u.withRaster _) (hu.store ▸ hn)]
      rfl
    have hsel := selectDraw_inView (s := u.withRaster { u.raster with redraw := true }) (hu.raster ▸ hidle) hasked
      (findComplete_newest (hu.store ▸ hn)) (show inView h u by rw [inView, hu.setup]; exact hv)
    have hbegun : settleDraw (redrawRequest u) =
        drawStarted .redraw h (choose none (redrawTaken (u.withRaster { u.raster with redraw := true }))) :=
      hsel.trans (congrArg (fun v => drawStarted .redraw h (choose none v)) (if_pos rfl))
    rw [hbegun]
    exact ⟨by rw [← hnone, ← hu.seq]; rfl, rfl, rfl, rfl, ⟨_, rfl, rfl, rfl⟩, rfl⟩
  have hdone := takeAll_redraw hnone hchosen hbefore
    (Q := fun u => u.seq.current = none ∧ ((∃ v, SameBut b v ∧ u = redrawRequest v) ∨ Redrawing h.number u))
    (hQr := by
      rintro u x ⟨hcur, ⟨v, hv, rfl⟩ | hd⟩
      · refine ⟨hcur, .inl ⟨v.withRaces x, ⟨hv.seq, hv.store, hv.setup, hv.raster⟩, ?_⟩⟩
        rw [hask hv, hask (u := v.withRaces x) ⟨hv.seq, hv.store, hv.setup, hv.raster⟩]
        rfl
      · exact ⟨hcur, .inr ⟨hd.engine, hd.redraw, hd.planes, hd.draw, hd.chosen⟩⟩)
    (hQd := by
      rintro u ⟨hcur, ⟨v, hv, rfl⟩ | hd⟩
      · exact ⟨(hsettle hv).1, .inr (hsettle hv).2⟩
      · rw [settleDraw_none hd.chosen]
        exact ⟨hcur, .inr hd⟩)
    (fun u hu => hu.1) (fun u hu => ⟨by rw [hask hu]; exact (congrArg Sequencer.current hu.seq).trans hnone, .inl ⟨u, hu, rfl⟩⟩)
  obtain ⟨-, ⟨v, hv, he⟩ | hd⟩ := hdone
  · have hlast := interleave_chosen _ (before ++ [redrawRequest]) b (sum_turns_le _) fun _ => hchosen
    change (takeAll (before ++ [redrawRequest]) b).raster.chosen = none at hlast
    rw [he, hask hv] at hlast
    cases hlast
  · exact hd

end Redraw

end Sys2Proof.Machine
end

section
/-! PROOFS. Capture changes (R105) and layout changes (R127). -/

namespace Sys2Proof.Machine

/-! ### Capture changes (R105) -/

theorem captureChange_idle {s : State} (gen : Word) (h : fillingState s.seq.cap = false) : captureChange gen s = s := by
  unfold captureChange
  split
  · rfl
  · exact if_neg fun hc => Bool.false_ne_true (h.symm.trans hc.1)

theorem captureChange_none {s : State} (gen : Word) (h : s.seq.current = none) : captureChange gen s = s := by
  rw [captureChange, h]

section Current
variable {s : State} {r : Record} {gen : Word} (hr : s.seq.current = some r)
include hr

theorem captureChange_above (hg : atOrAbove r.gen gen = true) : captureChange gen s = s := by
  rw [captureChange, hr]
  exact if_neg fun hc => by rw [hg] at hc; exact Bool.false_ne_true hc.2

theorem captureChange_below (hf : fillingState s.seq.cap = true) (hg : atOrAbove r.gen gen = false) :
    captureChange gen s = closeRecord afterLostRecord (abandonSegment s) := by
  rw [captureChange, hr]
  exact if_pos ⟨hf, by rw [hg]; rfl⟩

/-- What the next step establishes and drawing keeps holds once the record has closed. -/
theorem closeRecord_keeps {Q : State → Prop} {next : State → State} (hQr : ∀ u x, Q u → Q (u.withRaces x))
    (hQa : ∀ u, Q u → Q (askDraw u)) (hQs : ∀ u, Q u → Q (settleDraw u)) (hheld : s.store.held = false)
    (hnext : ∀ c : State, c.seq = { s.seq with current := none } → c.setup = s.setup → c.store.held = false →
      c.store.next = s.store.next → Q (next c)) : Q (closeRecord next s) := by
  have hdirect : Q (next (recordClosed r s)) := hnext _ rfl rfl hheld rfl
  by_cases h0 : r.completed = 0
  · rw [closeRecord_freed hr h0]
    exact hdirect
  · cases hf : isFilling r.number s.store with
    | false =>
      rw [closeRecord_unknown hr hf]
      exact hdirect
    | true =>
      rw [closeRecord_offers hr hf h0]
      have hcheld : (countedOn (recordClosed r s)).store.held = false := hheld
      exact takeAll_offer_keeps (P := DrawnOnly (countedOn (recordClosed r s))) (fun u x h => h.trans (drawnOnly_withRaces u x))
        (fun u h => h.trans (drawnOnly_askDraw u)) (fun u h => h.trans (drawnOnly_settleDraw (h.held.trans hcheld))) hQr hQa hQs
        (fun u h => hnext u (by rw [h.seq]; rfl) (by rw [h.setup]; rfl) (h.held.trans hcheld) (by rw [h.store]; rfl))
        (.refl _)

end Current

theorem afterLostRecord_stop {s : State} (h : s.seq.stopPending = true) : afterLostRecord s = enterIdle s := if_pos h

theorem afterLostRecord_goesOn {s : State} (h : s.seq.stopPending = false) : afterLostRecord s = requestSlot s :=
  if_neg (by rw [h]; exact Bool.false_ne_true)

theorem noticesKept_afterLostRecord {s : State} (hstop : s.seq.standbyStop = false) :
    noticesOf (afterLostRecord s) = noticesOf s := by
  unfold afterLostRecord
  split
  · exact noticesKept_enterIdle hstop
  · exact noticesKept_requestSlot s

/-- Neither drawing nor the next step tells more of a completion. -/
theorem noticesKept_takeAll {next : State → State} {c : State} (hstop : c.seq.standbyStop = false)
    (hnext : ∀ u, u.seq.standbyStop = false → noticesOf (next u) = noticesOf u ∧ aside (next u) = aside u) :
    noticesOf (takeAll [offer, next] c) = noticesOf c := by
  refine (takeAll_keeps (P := fun u => noticesOf u = noticesOf c ∧ u.seq.standbyStop = false) (fun _ _ h => h)
    (fun u h => ⟨(noticesKept_startDraw _ u).trans h.1, (aside_stop (aside_settleDraw u)).trans h.2⟩) _ (fun act ha u h => ?_) c
    ⟨rfl, hstop⟩).1
  rcases List.mem_pair.1 ha with rfl | rfl
  · exact ⟨(noticesKept_askDraw u).trans h.1, (aside_stop (aside_askDraw u)).trans h.2⟩
  · obtain ⟨hn, ha⟩ := hnext u h.2
    exact ⟨hn.trans h.1, (aside_stop ha).trans h.2⟩

/-- The record that a capture change ends is counted by its completed segments (R106, R125). -/
theorem closeCounted_afterLostRecord {s : State} {r : Record} (hr : s.seq.current = some r) (hstop : s.seq.standbyStop = false)
    (hf : isFilling r.number s.store = true) : closeCounted r.completed s (closeRecord afterLostRecord s) := by
  by_cases h0 : r.completed = 0
  · rw [closeRecord_freed hr h0, h0]
    exact closeCounted_of_noticesOf (closeCounted_zero (t := recordClosed r s) rfl rfl) (noticesKept_afterLostRecord hstop)
  · rw [closeRecord_offers hr hf h0]
    refine closeCounted_of_noticesOf (t := countedOn (recordClosed r s)) (closeCounted_countedOn h0 rfl rfl) ?_
    exact noticesKept_takeAll hstop fun u hu => ⟨noticesKept_afterLostRecord hu, aside_afterLostRecord hu⟩

theorem closeCounted_base {completed : Nat} {s b t : State} (hn : b.store.notice = s.store.notice)
    (hl : ∀ m, (b.links.get m).notices &&& noticeMask .records = (s.links.get m).notices &&& noticeMask .records)
    (h : closeCounted completed b t) : closeCounted completed s t := by
  intro m
  rw [← hn, ← hl]
  exact h m

/-- The run has stopped, no slot request held. -/
def stopped (u : State) : Prop :=
  u.seq.run = .stopped ∧ u.seq.cap = .idle ∧ u.seq.current = none ∧ u.store.held = false

theorem stopped_of_drawnOnly {u v : State} (h : DrawnOnly u v) (hu : stopped u) : stopped v := by
  unfold stopped at hu ⊢
  rw [h.seq, h.held]
  exact hu

/-- With stop-pending the run stops when the record has ended (R105). -/
theorem closeRecord_afterLost_stops {s : State} {r : Record} (hr : s.seq.current = some r) (hstop : s.seq.standbyStop = false)
    (hheld : s.store.held = false) (hp : s.seq.stopPending = true) : stopped (closeRecord afterLostRecord s) := by
  refine closeRecord_keeps hr (fun u x h => h) (fun u h => stopped_of_drawnOnly (drawnOnly_askDraw u) h)
    (fun u h => stopped_of_drawnOnly (drawnOnly_settleDraw h.2.2.2) h) hheld fun c hc _ hch _ => ?_
  obtain ⟨lit, he⟩ := enterIdle_eq (s := c) (by rw [hc]; exact hstop)
  rw [afterLostRecord_stop (by rw [hc]; exact hp), he]
  exact ⟨rfl, rfl, rfl, hch⟩

/-- Without it another record is asked for (R105). -/
theorem closeRecord_afterLost_asks {s : State} {r : Record} (hr : s.seq.current = some r) (hheld : s.store.held = false)
    (hp : s.seq.stopPending = false) : RecordAsked s (closeRecord afterLostRecord s) := by
  refine closeRecord_keeps hr (fun u x h => ⟨h.setup, h.run, h.asked⟩) (fun u h => recordAsked_askDraw h)
    (fun u h => recordAsked_startDraw _ h) hheld fun c hc hsetup _ hnext => ?_
  rw [afterLostRecord_goesOn (by rw [hc]; exact hp)]
  exact recordAsked_requestSlot hsetup (by rw [hc]) hnext

/-! ### Layout changes (R127) -/

/-- Acquisition memory laid out anew for records of so many bytes: every slot FREE, but for a record of this generation in slot 0,
which then is the one in progress. -/
structure Laid (bytes : Nat) (g : Word) (u : State) : Prop where
  recordBytes : u.store.recordBytes = bytes
  pins : u.store.pinsList = .both []
  gen : u.setup.gen = g
  slots : u.store.slots = List.replicate (slotCount bytes) .free ∨
    ∃ h, u.store.slots = (List.replicate (slotCount bytes) .free).set 0 (.filling h) ∧ h.gen = g ∧ u.store.held = false ∧
      ∀ r, u.seq.current = some r → r.gen = g

section Laid
variable {bytes : Nat} {g : Word} {u : State}

theorem Laid.noComplete (hu : Laid bytes g u) : ∀ sl ∈ u.store.slots, ∀ h, sl ≠ .complete h := by
  intro sl hsl h he
  rcases hu.slots with hs | ⟨x, hs, -⟩
  · rw [hs] at hsl
    rw [List.eq_of_mem_replicate hsl] at he
    cases he
  · rw [hs] at hsl
    rcases List.mem_or_eq_of_mem_set hsl with hm | hm
    · rw [List.eq_of_mem_replicate hm] at he
      cases he
    · rw [hm] at he
      cases he

theorem Laid.length (hu : Laid bytes g u) : u.store.slots.length = slotCount bytes := by
  rcases hu.slots with hs | ⟨h, hs, -⟩ <;> rw [hs]
  · exact List.length_replicate
  · rw [List.length_set, List.length_replicate]

/-- Every slot is FREE but for slot 0, which a record of the new layout may hold. -/
theorem Laid.slot (hu : Laid bytes g u) {n : Nat} {sl : Slot} (hsl : u.store.slots[n]? = some sl) :
    sl = .free ∨ (n = 0 ∧ ∃ h, sl = .filling h ∧ h.gen = g) := by
  rcases hu.slots with hs | ⟨h, hs, hgen, -⟩
  · rw [hs] at hsl
    exact .inl (List.eq_of_mem_replicate (List.mem_of_getElem? hsl))
  · rw [hs, List.getElem?_set] at hsl
    split at hsl
    · next hn =>
      split at hsl
      · exact .inr ⟨hn.symm, h, (Option.some.inj hsl).symm, hgen⟩
      · cases hsl
    · exact .inl (List.eq_of_mem_replicate (List.mem_of_getElem? hsl))

/-- A grant in slots that are all FREE takes slot 0. -/
theorem laid_grantSlot (hu : Laid bytes g u) (hfree : u.store.slots = List.replicate (slotCount bytes) .free) :
    Laid bytes g (grantSlot 0 u) := by
  obtain ⟨lit, he⟩ := grantSlot_eq 0 u
  obtain ⟨r, hr, -, -, hgen, -⟩ := grantedSeq_current 0 u
  obtain ⟨-, -, hpins, -, hbytes⟩ := countReuse_kept (u.store.slots.getD 0 .free) u.store
  rw [he]
  refine ⟨hbytes.trans hu.recordBytes, hpins.trans hu.pins, hu.gen, .inr ⟨_, congrArg (fun l => List.set l 0 _) hfree, hu.gen, rfl,
    fun r' hr' => ?_⟩⟩
  obtain rfl : r = r' := Option.some.inj (hr.symm.trans hr')
  rw [hgen]
  exact hu.gen

theorem chooseSlot_laid (hfree : u.store.slots = List.replicate (slotCount bytes) .free) {n : Nat} (hn : chooseSlot u = some n) :
    n = 0 := by
  cases hk : slotCount bytes with
  | zero =>
    rw [hk] at hfree
    rw [chooseSlot_none (fun sl hsl => by rw [hfree] at hsl; cases hsl)] at hn
    cases hn
  | succ k =>
    rw [hk] at hfree
    rw [chooseSlot_free (n := 0) (by rw [hfree]; rfl) (fun m hm => absurd hm (Nat.not_lt_zero m))] at hn
    exact (Option.some.inj hn).symm

theorem laid_requestSlot (hu : Laid bytes g u) (hfree : u.store.slots = List.replicate (slotCount bytes) .free) :
    Laid bytes g (requestSlot u) := by
  unfold requestSlot
  split
  · next n hn =>
    obtain rfl := chooseSlot_laid hfree hn
    exact laid_grantSlot hu hfree
  · obtain ⟨lit, he⟩ := setCap_eq .waitSlot (u.withStore { u.store with held := true })
    rw [he]
    exact ⟨hu.recordBytes, hu.pins, hu.gen, .inl hfree⟩

theorem laid_reevaluate (hu : Laid bytes g u) : Laid bytes g (reevaluate u) := by
  rcases hu.slots with hfree | ⟨_, -, -, hheld, -⟩
  · unfold reevaluate
    split
    · split
      · next n hn =>
        obtain rfl := chooseSlot_laid hfree hn
        exact laid_grantSlot hu hfree
      · exact hu
    · exact hu
  · rwa [reevaluate_of_not_held hheld]

theorem laid_askDraw (hu : Laid bytes g u) : Laid bytes g (askDraw u) := by
  unfold askDraw
  split
  · exact hu
  · split <;> exact ⟨hu.recordBytes, hu.pins, hu.gen, hu.slots⟩

/-- No record is COMPLETE, so that every draw start is refused. -/
theorem laid_startDraw (n : Nat) (hu : Laid bytes g u) : Laid bytes g (startDraw n u) := by
  induction n generalizing u with
  | zero => exact ⟨hu.recordBytes, hu.pins, hu.gen, hu.slots⟩
  | succ n ih =>
    unfold startDraw
    split
    · exact hu
    · split
      · exact ⟨hu.recordBytes, hu.pins, hu.gen, hu.slots⟩
      · split
        · next x hx =>
          have hx' := mem_completes.1 (List.mem_of_find?_eq_some hx : (x.1, x.2) ∈ completes u.store.slots)
          exact absurd rfl (hu.noComplete _ (List.mem_of_getElem? hx') x.2)
        · exact ih (laid_askDraw ⟨hu.recordBytes, hu.pins, hu.gen, hu.slots⟩)

theorem laid_redrawRequest (hu : Laid bytes g u) : Laid bytes g (redrawRequest u) :=
  laid_askDraw ⟨hu.recordBytes, hu.pins, hu.gen, hu.slots⟩

theorem laid_afterLostRecord (hu : Laid bytes g u) (hfree : u.store.slots = List.replicate (slotCount bytes) .free)
    (hstop : u.seq.standbyStop = false) : Laid bytes g (afterLostRecord u) := by
  unfold afterLostRecord
  split
  · obtain ⟨lit, he⟩ := enterIdle_eq hstop
    rw [he]
    exact ⟨hu.recordBytes, hu.pins, hu.gen, .inl hfree⟩
  · exact laid_requestSlot hu hfree

/-- A capture change ends a record of an older layout, whose slot is gone. -/
theorem laid_captureChange (hu : Laid bytes g u) (hstop : u.seq.standbyStop = false) : Laid bytes g (captureChange g u) := by
  cases hr : u.seq.current with
  | none => rwa [captureChange_none g hr]
  | some r =>
    by_cases hf : fillingState u.seq.cap = true
    · cases hg : atOrAbove r.gen g with
      | true => rwa [captureChange_above hr hg]
      | false =>
        have hfree : u.store.slots = List.replicate (slotCount bytes) .free := by
          refine hu.slots.resolve_right fun ⟨_, _, _, _, hcur⟩ => ?_
          rw [hcur r hr] at hg
          simp [atOrAbove] at hg
        have hunknown : isFilling r.number (abandonSegment u).store = false := by
          change isFilling r.number u.store = false
          rw [isFilling, hfree]
          simp
        rw [captureChange_below hr hf hg, closeRecord_unknown (s := abandonSegment u) hr hunknown]
        have hslots : (recordClosed r (abandonSegment u)).store.slots = List.replicate (slotCount bytes) .free := by
          change (closeSlot r.number r.completed u.store).slots = _
          rw [closeSlot, hfree]
          simp
        exact laid_afterLostRecord ⟨hu.recordBytes, hu.pins, hu.gen, .inl hslots⟩ hslots hstop
    · rwa [captureChange_idle g (Bool.eq_false_iff.2 hf)]

end Laid

/-- A layout change lays acquisition memory out for the live setup. -/
theorem laid_layoutChange {u : State} (hstop : u.seq.standbyStop = false) :
    Laid (recordBytesOf u.setup.live) u.setup.gen (layoutChange u) := by
  unfold layoutChange
  dsimp only
  generalize hs1 : u.withStore { u.store with
    slots := List.replicate (slotCount (recordBytesOf u.setup.live)) .free
    recordBytes := recordBytesOf u.setup.live
    pinsList := .both [] } = s1
  have h1 : Laid (recordBytesOf u.setup.live) u.setup.gen s1 := by
    subst hs1
    exact ⟨rfl, rfl, rfl, .inl rfl⟩
  have hfree : s1.store.slots = List.replicate (slotCount (recordBytesOf u.setup.live)) .free := by rw [← hs1]; rfl
  have hstop1 : s1.seq.standbyStop = false := by rw [← hs1]; exact hstop
  have hwithdrawn (n : Word) : Laid (recordBytesOf u.setup.live) u.setup.gen (withdrawal n s1) := by
    unfold withdrawal
    split
    · exact h1
    · split
      · exact laid_afterLostRecord ⟨h1.recordBytes, h1.pins, h1.gen, .inl hfree⟩ hfree hstop1
      · exact h1
  have hfreed {v : State} (n : Word) (hv : Laid (recordBytesOf u.setup.live) u.setup.gen v) :
      Laid (recordBytesOf u.setup.live) u.setup.gen (drawFreed n v) := by
    unfold drawFreed
    split
    · split
      · exact laid_startDraw _ (laid_askDraw ⟨hv.recordBytes, hv.pins, hv.gen, hv.slots⟩)
      · exact hv
    · exact hv
  refine laid_reevaluate ?_
  split
  · refine hfreed _ ?_
    split
    · exact hwithdrawn _
    · exact h1
  · split
    · exact hwithdrawn _
    · exact h1

end Sys2Proof.Machine
end

section
/-! PROOFS. What an installed SETUP.SET or SETUP.DEFAULT hands on (O13), a receiver at a time. -/

namespace Sys2Proof.Machine

/-- The reactions to the commit of st. -/
def reacting (st : Setup) (s : State) : List (State → State) :=
  reactions s.setup.live st (s.setup.gen + 1#32) (decide (s.seq.run = .stopped))

/-- t is u but for the answer of a link. -/
structure Answering (u t : State) : Prop where
  seq : t.seq = u.seq
  store : t.store = u.store
  raster : t.raster = u.raster
  setup : t.setup = u.setup
  notices : ∀ m, (t.links.get m).notices = (u.links.get m).notices

theorem Answering.closeCounted {completed : Nat} {s u t : State} (ha : Answering u t) (h : closeCounted completed s u) :
    closeCounted completed s t := by
  intro m
  rw [ha.notices, ha.store]
  exact h m

theorem commit_handsOn {l : Link} {tag : Byte} {i : Instr} {req : List (Field × Int)} {st : Setup} {s t : State} (ht : taking l s)
    (hp : permitted l s) (hc : commits l tag i req) (hj : judge s.setup.live (timebaseWindow s) req = .candidate st)
    (hne : st ≠ s.setup.live) (hexec : exec i s = .next t) :
    ∃ b, Found st s b ∧ Answering (takeAll (reacting st s) b) t := by
  obtain ⟨kind, he⟩ := exec_commits ht hc
  have hopen : gated l (working l tag kind s) = false := gated_eq_false.2 hp
  have hcommit := commit_candidate (src := .link l) (u := working l tag kind s) hj hne
  rw [linkCommit_open req hopen, answerCommit, hcommit, installAndHandOn_eq] at he
  obtain rfl := Host.Outcome.next.inj (he.symm.trans hexec)
  exact ⟨_, found_handedOn l tag kind st s, rfl, rfl, rfl, rfl, fun m => answer_notices ..⟩

section Reacting
variable {st : Setup} {s : State}

/-- No CAPTURE field, retention or redraw: nothing is handed on. -/
theorem reacting_nothing (hcap : ∀ f, fieldClass f = .capture → st.get f = s.setup.live.get f)
    (hret : st.get .acqRetain = s.setup.live.get .acqRetain)
    (hview : s.seq.run ≠ .stopped ∨ ∀ f, fieldClass f = .view → st.get f = s.setup.live.get f) : reacting st s = [] := by
  have hno : ¬ captureMoved s.setup.live st := fun ⟨f, hf, hne⟩ => hne (hcap f hf)
  rw [reacting, reactions_eq, if_neg hno, if_neg (fun h => hno (captureMoved_of_layoutMoved h)), if_neg (fun h => h hret), if_neg]
  · rfl
  rintro ⟨hrun, f, hf, hne⟩
  refine hview.elim (fun h => h (of_decide_eq_true hrun)) fun h => hne ?_
  rcases (redrawField_iff f).1 hf with hf | rfl | ⟨c, rfl | rfl⟩
  · exact h f hf
  all_goals exact hcap _ rfl

/-- Only ACQ.RETAIN: a retention change. -/
theorem reacting_retention (honly : ∀ f, f ≠ .acqRetain → st.get f = s.setup.live.get f) (hne : st ≠ s.setup.live) :
    reacting st s = [retentionChange] := by
  have hmoved : st.get .acqRetain ≠ s.setup.live.get .acqRetain := fun hret => hne (Setup.ext_get fun f => by
    by_cases hf : f = .acqRetain
    · rw [hf, hret]
    · exact honly f hf)
  have hother {f : Field} (hf : st.get f ≠ s.setup.live.get f) : f = .acqRetain := by
    by_contra h
    exact hf (honly f h)
  have hno : ¬ captureMoved s.setup.live st := by
    rintro ⟨f, hf, hn⟩
    rw [hother hn] at hf
    cases hf
  rw [reacting, reactions_eq, if_neg hno, if_neg (fun h => hno (captureMoved_of_layoutMoved h)), if_pos hmoved, if_neg]
  · rfl
  rintro ⟨-, f, hf, hn⟩
  rw [hother hn] at hf
  cases hf

/-- The layout moves: its change comes after the capture change and before what else there is. -/
theorem reacting_layout (h : layoutMoved s.setup.live st) :
    ∃ before after, reacting st s = before ++ layoutChange :: after ∧
      ∀ a ∈ before ++ after, a = captureChange (s.setup.gen + 1#32) ∨ a = retentionChange ∨ a = redrawRequest := by
  classical
  rw [reacting, reactions_eq, if_pos (captureMoved_of_layoutMoved h), if_pos h, List.append_assoc, List.append_assoc]
  refine ⟨[captureChange (s.setup.gen + 1#32)], _ ++ _, rfl, fun a ha => ?_⟩
  rcases List.mem_append.1 ha with ha | ha
  · exact .inl (List.mem_singleton.1 ha)
  · rw [List.nil_append] at ha
    rcases List.mem_append.1 ha with ha | ha <;> split at ha
    · exact .inr (.inl (List.mem_singleton.1 ha))
    · cases ha
    · exact .inr (.inr (List.mem_singleton.1 ha))
    · cases ha

section Same
variable (hret : st.get .acqRetain = s.setup.live.get .acqRetain) (hdepth : st.get .acqDepth = s.setup.live.get .acqDepth)
  (hcount : (enabledChans st).length = (enabledChans s.setup.live).length)
include hret hdepth hcount

open Classical in
/-- The layout and the retention stay: at most a capture change and a redraw request. -/
theorem reacting_sameLayout : reacting st s =
    (if captureMoved s.setup.live st then [captureChange (s.setup.gen + 1#32)] else []) ++
    (if s.seq.run = .stopped ∧ redrawMoved s.setup.live st then [redrawRequest] else []) := by
  have hlayout : ¬ layoutMoved s.setup.live st := fun h => h.elim (fun h => h hdepth) (fun h => h hcount)
  have hretention : ¬ st.get .acqRetain ≠ s.setup.live.get .acqRetain := fun h => h hret
  rw [reacting, reactions_eq, if_neg hlayout, if_neg hretention, List.append_nil, List.append_nil]
  simp only [decide_eq_true_eq]

theorem reacting_redraw (hrun : s.seq.run = .stopped) (hr : redrawMoved s.setup.live st) :
    ∃ before, reacting st s = before ++ [redrawRequest] ∧ ∀ a ∈ before, a = captureChange (s.setup.gen + 1#32) := by
  classical
  rw [reacting_sameLayout hret hdepth hcount, if_pos (show _ ∧ _ from ⟨hrun, hr⟩)]
  refine ⟨_, rfl, fun a ha => ?_⟩
  split at ha
  · exact List.mem_singleton.1 ha
  · cases ha

theorem mem_reacting {a : State → State} (ha : a ∈ reacting st s) :
    a = captureChange (s.setup.gen + 1#32) ∨ a = redrawRequest := by
  classical
  rw [reacting_sameLayout hret hdepth hcount] at ha
  rcases List.mem_append.1 ha with ha | ha <;> split at ha
  · exact .inl (List.mem_singleton.1 ha)
  · cases ha
  · exact .inr (List.mem_singleton.1 ha)
  · cases ha

theorem reacting_capture (hrun : s.seq.run ≠ .stopped) (hc : captureMoved s.setup.live st) :
    reacting st s = [captureChange (s.setup.gen + 1#32)] := by
  classical
  rw [reacting_sameLayout hret hdepth hcount, if_pos hc, if_neg (fun h => hrun h.1), List.append_nil]

end Same

end Reacting

/-! ### The receivers at work -/

section Clauses
variable {st : Setup} {s b : State} (hb : Found st s b)
include hb

theorem Found.stop (hstop : s.seq.standbyStop = false) : b.seq.standbyStop = false := by rw [hb.seq]; exact hstop

theorem Found.seqKept {d : State} (hseq : d.seq = b.seq) (hsetup : d.setup = b.setup) : seqKept s d := by
  unfold Machine.seqKept
  rw [hseq, hsetup, hb.live]
  exact ⟨hb.seq, hb.sameFront, hb.freshFront⟩

theorem Found.seq_same (he : enabledChans st = enabledChans s.setup.live) : b.seq = s.seq := by
  rw [hb.seq, hb.sameFront he]

variable (hstop : s.seq.standbyStop = false)
include hstop

theorem aside_reacting : aside (takeAll (reacting st s) b) = aside b := aside_reactions _ _ _ _ (hb.stop hstop)

/-- The layout has moved (R127). -/
theorem laid_reacting (h : layoutMoved s.setup.live st) :
    Laid (recordBytesOf st) (s.setup.gen + 1#32) (takeAll (reacting st s) b) := by
  obtain ⟨before, after, he, hothers⟩ := reacting_layout h
  have haside {u : State} (hu : aside u = aside b) {a : State → State} (ha : a ∈ before ++ after) : aside (a u) = aside b := by
    have hus : u.seq.standbyStop = false := (aside_stop hu).trans (hb.stop hstop)
    rw [← hu]
    rcases hothers a ha with rfl | rfl | rfl
    · exact aside_captureChange _ hus
    · exact aside_reevaluate u
    · exact aside_redrawRequest u
  have hlaid {u : State} (hu : aside u = aside b) (hl : Laid (recordBytesOf st) (s.setup.gen + 1#32) u) {a : State → State}
      (ha : a ∈ before ++ after) : Laid (recordBytesOf st) (s.setup.gen + 1#32) (a u) := by
    rcases hothers a ha with rfl | rfl | rfl
    · exact laid_captureChange hl ((aside_stop hu).trans (hb.stop hstop))
    · exact laid_reevaluate hl
    · exact laid_redrawRequest hl
  rw [he]
  refine (takeAll_once (P := fun u => aside u = aside b)
    (Q := fun u => aside u = aside b ∧ Laid (recordBytesOf st) (s.setup.gen + 1#32) u) (fun u x hu => hu)
    (fun u hu => (aside_settleDraw u).trans hu)
    (fun u x hu => ⟨hu.1, hu.2.recordBytes, hu.2.pins, hu.2.gen, hu.2.slots⟩)
    (fun u hu => ⟨(aside_settleDraw u).trans hu.1, laid_startDraw _ hu.2⟩) (fun u hu => ?_) before after
    (fun a ha u hu => haside hu ha) (fun a ha u hu => ⟨haside hu.1 ha, hlaid hu.1 hu.2 ha⟩) rfl).2
  have hus : u.seq.standbyStop = false := (aside_stop hu).trans (hb.stop hstop)
  have hsetup := aside_setup hu
  have hl := laid_layoutChange hus
  rw [hsetup, hb.live, hb.gen] at hl
  exact ⟨(aside_layoutChange hus).trans hu, hl⟩

variable (hret : st.get .acqRetain = s.setup.live.get .acqRetain) (hdepth : st.get .acqDepth = s.setup.live.get .acqDepth)
  (hcount : (enabledChans st).length = (enabledChans s.setup.live).length)
include hret hdepth hcount

omit hstop in
/-- In IDLE a capture change has no effect, and a redraw only draws. -/
theorem drawnOnly_reacting (hcap : s.seq.cap = .idle) (hheld : s.store.held = false) :
    DrawnOnly b (takeAll (reacting st s) b) := by
  have hbheld : b.store.held = false := by rw [hb.store]; exact hheld
  refine takeAll_keeps (P := DrawnOnly b) (fun u x h => h.trans (drawnOnly_withRaces u x))
    (fun u h => h.trans (drawnOnly_settleDraw (h.held.trans hbheld))) _ (fun a ha u h => ?_) b (.refl b)
  rcases mem_reacting hret hdepth hcount ha with rfl | rfl
  · rwa [captureChange_idle _ (by rw [h.seq, hb.seq, hcap]; rfl)]
  · have hasked : DrawnOnly u (u.withRaster { u.raster with redraw := true }) := ⟨rfl, rfl, fun _ => ⟨rfl, rfl⟩⟩
    exact h.trans (hasked.trans (drawnOnly_askDraw _))

omit hstop in
theorem captureChange_reacting (hc : captureMoved s.setup.live st) (hrun : s.seq.run ≠ .stopped)
    (hchosen : s.raster.chosen = none) : takeAll (reacting st s) b = captureChange (s.setup.gen + 1#32) b := by
  rw [reacting_capture hret hdepth hcount hrun hc]
  exact takeAll_single ((settles_captureChange _ b).chosen (by rw [hb.raster]; exact hchosen))

/-- A record under an older generation ends (R105). -/
theorem recordLost_reacting (hc : captureMoved s.setup.live st) (hrun : s.seq.run ≠ .stopped) (hheld : s.store.held = false)
    (hchosen : s.raster.chosen = none) {r : Record} (hr : s.seq.current = some r) (hfill : fillingState s.seq.cap = true)
    (hg : atOrAbove r.gen (s.setup.gen + 1#32) = false) :
    (isFilling r.number s.store = true → closeCounted r.completed s (takeAll (reacting st s) b)) ∧
    (s.seq.stopPending = true → stopped (takeAll (reacting st s) b)) ∧
    (s.seq.stopPending = false → RecordAsked b (takeAll (reacting st s) b)) := by
  have hrb : b.seq.current = some r := by rw [hb.seq]; exact hr
  have hstopb : (abandonSegment b).seq.standbyStop = false := hb.stop hstop
  have hheldb : (abandonSegment b).store.held = false := by rw [← hheld]; exact congrArg RecordStore.held hb.store
  have hpend : (abandonSegment b).seq.stopPending = s.seq.stopPending := by
    change b.seq.stopPending = _
    rw [hb.seq]
  rw [captureChange_reacting hb hret hdepth hcount hc hrun hchosen,
    captureChange_below hrb (by rw [hb.seq]; exact hfill) hg]
  refine ⟨fun hf => ?_, fun hp => closeRecord_afterLost_stops (s := abandonSegment b) hrb hstopb hheldb (hpend.trans hp), fun hp => ?_⟩
  · refine closeCounted_base (b := abandonSegment b) (congrArg RecordStore.notice hb.store) hb.told ?_
    exact closeCounted_afterLostRecord (s := abandonSegment b) hrb hstopb ((congrArg (isFilling r.number) hb.store).trans hf)
  · have h := closeRecord_afterLost_asks (s := abandonSegment b) hrb hheldb (hpend.trans hp)
    exact ⟨h.setup, h.run, h.asked⟩

end Clauses

/-! ### O13 -/

theorem chosenSlot_found {st : Setup} {s b : State} (hb : Found st s b) {n : Nat}
    (h : chosenSlot n (s.withSetup { s.setup with live := st })) : chosenSlot n b := by
  unfold chosenSlot at h ⊢
  rw [hb.store, hb.live]
  exact h

theorem inView_found {st : Setup} {s b : State} (hb : Found st s b) {h : Header} : inView h b ↔
    h.setup.get .tbScale - st.get .tbScale ≤ 9 ∧ st.get .tbScale - h.setup.get .tbScale ≤ 9 := by
  rw [inView, hb.live]

/-- A retention change lets a held request be granted (R113). -/
theorem granted_retention {st : Setup} {s b : State} (hb : Found st s b) (hheld : s.store.held = true) {n : Nat}
    (hn : chosenSlot n (s.withSetup { s.setup with live := st })) :
    (reevaluate b).store.held = false ∧ ∃ r, (reevaluate b).seq.current = some r ∧ r.slot = n ∧ r.number = s.store.next ∧
      r.gen = s.setup.gen + 1#32 := by
  have hgrant : reevaluate b = grantSlot n b := by
    rw [reevaluate, if_pos (by rw [hb.store]; exact hheld), chooseSlot_eq (chosenSlot_found hb hn)]
  obtain ⟨lit, he⟩ := grantSlot_eq n b
  obtain ⟨r, hr, hslot, hnumber, hgen, -⟩ := grantedSeq_current n b
  rw [hgrant, he]
  refine ⟨rfl, r, hr, hslot, ?_, ?_⟩
  · rw [hnumber, ← hb.store]; rfl
  · rw [hgen, ← hb.gen]; rfl

/-- Settles O13: the state that the receivers find, then the reactions that the changed fields call for. -/
theorem commitHandsOn : Obligations.CommitHandsOn := by
  intro l tag i req st s t ht hpeace hp hc hj hne hchosen hexec
  obtain ⟨-, hstop⟩ := hpeace
  obtain ⟨b, hb, hans⟩ := commit_handsOn ht hp hc hj hne hexec
  have hsetup : t.setup = b.setup := hans.setup.trans (aside_setup (aside_reacting hb hstop))
  have hch : b.raster.chosen = none := by rw [hb.raster]; exact hchosen
  have hunmoved (hsame : takeAll (reacting st s) b = b) : seqKept s t ∧ t.store = s.store ∧ t.raster = s.raster := by
    rw [hsame] at hans
    exact ⟨hb.seqKept hans.seq hsetup, hans.store.trans hb.store, hans.raster.trans hb.raster⟩
  refine ⟨fun hcap hret hview => ?nothing, fun hrun hcur hret hdepth hcount hmoved => ?redraw,
    fun hmoved hret hdepth hcount hrun hheld r hr hcap => ?capture, fun hmoved hret hdepth hcount => ?idle, fun hlayout => ?layout,
    fun honly => ?retention⟩
  case nothing =>
    rw [reacting_nothing hcap hret hview] at hans
    exact ⟨hans.seq.trans (hb.seq_same (enabledChans_congr fun c => hcap (.chOn c) rfl)), hans.store.trans hb.store,
      hans.raster.trans hb.raster⟩
  case redraw =>
    obtain ⟨f, hf, hred⟩ := hmoved
    obtain ⟨before, he, hbefore⟩ := reacting_redraw hret hdepth hcount hrun ⟨f, (redrawField_iff f).2 hred, hf⟩
    have hcurb : b.seq.current = none := by rw [hb.seq]; exact hcur
    have hinert : ∀ a ∈ before, ∀ u : State, u.seq.current = none → a u = u := fun a ha u hu => by
      rw [hbefore a ha, captureChange_none _ hu]
    rw [he] at hans
    rw [hans.raster, hans.store]
    refine ⟨fun hbusy => ?_, fun hidle => ⟨fun hempty => ?_, fun k h hn hlo hhi => ?_⟩⟩
    · obtain ⟨hseq, hstore, hraster⟩ := takeAll_redraw_busy hcurb hch hinert (by rw [hb.raster]; exact hbusy)
      exact ⟨hraster.trans (by rw [hb.raster]), hb.seqKept (hans.seq.trans hseq) hsetup, hstore.trans hb.store⟩
    · obtain ⟨hseq, hstore, hraster⟩ := takeAll_redraw_empty hcurb hch hinert (by rw [hb.raster]; exact hidle)
        (by rw [hb.store]; exact hempty)
      exact ⟨hraster.trans (by rw [hb.raster]), hb.seqKept (hans.seq.trans hseq) hsetup, hstore.trans hb.store⟩
    · have hd := takeAll_redraw_newest hcurb hch hinert (by rw [hb.raster]; exact hidle) (by rw [hb.store]; exact hn)
        ((inView_found hb).2 ⟨hlo, hhi⟩)
      exact ⟨hd.engine, hd.redraw, hd.planes, hd.draw⟩
  case capture =>
    have hfill : fillingState s.seq.cap = true := by rcases hcap with h | h | h <;> rw [h] <;> rfl
    refine ⟨fun hg => hunmoved ?_, fun hg => ?_⟩
    · rw [captureChange_reacting hb hret hdepth hcount hmoved hrun hchosen,
        captureChange_above (r := r) (by rw [hb.seq]; exact hr) hg]
    · obtain ⟨hends, hstops, hasks⟩ := recordLost_reacting hb hstop hret hdepth hcount hmoved hrun hheld hchosen hr hfill hg
      rw [hans.seq, hans.store]
      refine ⟨fun hf => hans.closeCounted (hends hf), fun hpend => ?_, fun hpend => ?_⟩
      · obtain ⟨hrun', hcap', hcur, -⟩ := hstops hpend
        exact ⟨hrun', hcap', hcur⟩
      · have ha := hasks hpend
        refine ⟨ha.run.trans (by rw [hb.seq]), ?_⟩
        rcases ha.asked with ⟨hh, hwait, -⟩ | ⟨-, r1, hr1, -, hgen, hset, hseg, hcomp⟩
        · exact .inl ⟨hh, hwait⟩
        · refine .inr ⟨r1, hr1, hgen.trans hb.gen, hseg, hcomp, fun f hf => ?_⟩
          rw [hset, captureCopy_capture _ hf, hb.live]
  case idle =>
    refine ⟨fun hcap hheld => ?_, fun hcap hrun => hunmoved ?_⟩
    · have hd := drawnOnly_reacting hb hret hdepth hcount hcap hheld
      rw [hans.store, ← hb.store]
      exact ⟨hb.seqKept (hans.seq.trans hd.seq) hsetup, hd.store, hd.slots⟩
    · rw [captureChange_reacting hb hret hdepth hcount hmoved hrun hchosen,
        captureChange_idle _ (by rw [hb.seq, hcap]; rfl)]
  case layout =>
    have hl := laid_reacting hb hstop hlayout
    rw [hans.store, hl.recordBytes, hl.pins]
    refine ⟨rfl, hl.length, fun m => PerLink.both_get _ m, ?_, fun n sl hsl => hl.slot hsl⟩
    rw [← hb.store]
    exact congrArg Kept.sub (kept_takeAll_reactions _ _ _ _ _)
  case retention =>
    have hone : takeAll (reacting st s) b = reevaluate b := by
      rw [reacting_retention honly hne]
      exact takeAll_single ((settles_reevaluate b).chosen hch)
    rw [hone] at hans
    rw [hans.seq, hans.store, hans.raster]
    refine ⟨fun hheld => ?_, fun hheld n hn => granted_retention hb hheld hn⟩
    rw [reevaluate_of_not_held (by rw [hb.store]; exact hheld)]
    exact ⟨hb.seq_same (enabledChans_congr fun c => honly (.chOn c) (by simp)), hb.store, hb.raster⟩

end Sys2Proof.Machine
end

section
/-! PROOFS. Start-up (R28, R173, R209, R210): its beginning, the scan, and the stages that its end brings. -/

namespace Sys2Proof.Machine

/-! ### POWER_ON -/

/-- The straps give the device address (R209). -/
theorem strapAddress (straps : BitVec 2) : (0x50#7 + straps.setWidth 7).toNat = 0x50 + straps.toNat := by
  revert straps
  decide

/-! ### The scan (R173) -/

theorem exec_scanRead {n : Fin 12} {img : Vector Byte 192} {s : State} (h : s.saved.scanSlot = some n) :
    exec (.eepromReadComplete img) s = .next (scanRead n img s) := by
  unfold exec execEepromReadComplete
  rw [h]

theorem exec_scanFault {n : Fin 12} {s : State} (h : s.saved.scanSlot = some n) :
    exec .eepromAccessFault s = .next (scanFault n s) := by
  unfold exec execEepromAccessFault
  rw [h]

theorem classify_kinds (img : Image) :
    classify img = .empty ∨ classify img = .corrupt ∨ ∃ label locked source gen, classify img = .valid label locked source gen := by
  unfold classify
  split
  · exact .inl rfl
  · split
    · exact .inr (.inr ⟨_, _, _, _, rfl⟩)
    · exact .inr (.inl rfl)

/-- The setup that a read of the scan leaves for start-up. -/
def setupScanned (n : Fin 12) (img : Image) (s : State) : Option Setup :=
  if n.val = 0 ∧ ∃ p ∈ [classify img], p ≠ .empty ∧ p ≠ .corrupt then some (imageSetup img) else s.saved.scanSetup

/-- A read of the scan classifies its slot and keeps the setup of slot 0. -/
theorem scanRead_eq (n : Fin 12) (img : Image) (s : State) : scanRead n img s = scanOn n (s.withSaved { s.saved with
    directory := s.saved.directory.set n (classify img), scanSetup := setupScanned n img s }) := by
  unfold scanRead
  dsimp only
  split
  · next label locked source gen hn hc =>
    have hset : setupScanned n img s = some (imageSetup img) :=
      if_pos ⟨hn, classify img, List.mem_singleton.2 rfl, by rw [hc]; simp, by rw [hc]; simp⟩
    rw [hset]
    rfl
  · next hno =>
    have hset : setupScanned n img s = s.saved.scanSetup := by
      refine if_neg fun ⟨hn, p, hp, hempty, hcorrupt⟩ => ?_
      rw [List.mem_singleton.1 hp] at hempty hcorrupt
      rcases classify_kinds img with hc | hc | ⟨a, b, c, d, hc⟩
      · exact hempty hc
      · exact hcorrupt hc
      · exact hno a b c d hn hc
    rw [hset]
    rfl

theorem scanOn_next {n : Fin 12} (s : State) (hn : n.val < 11) : scanOn n s = s.withSaved { s.saved with
    scanSlot := some ⟨n.val + 1, by omega⟩, limit := some Config.accessTime } := dif_pos (by omega)

theorem scanOn_last {n : Fin 12} (s : State) (hn : n.val = 11) : scanOn n s = endScan .idle s := dif_neg (by omega)

/-! ### The end of the scan (R28, R210) -/

theorem slotCount_pos {st : Setup} (h : setupLegal st = true) : 0 < slotCount (recordBytesOf st) := by
  simp only [setupLegal, memoryLegal, Bool.and_eq_true, Bool.not_eq_true', decide_eq_true_eq] at h
  obtain ⟨⟨⟨⟨-, hon⟩, -⟩, -⟩, hfits, -⟩ := h
  have hdepth : 0 < depthSamples (st.get .acqDepth) := by unfold depthSamples; positivity
  have hchans : 0 < (enabledChans st).length := List.length_pos_iff.2 fun he => by rw [he] at hon; cases hon
  have hpos : 0 < recordBytesOf st := Nat.mul_pos hdepth hchans
  have hroom : recordBytesOf st ≤ Config.acquisitionBytes := hfits.trans (by decide)
  exact Nat.lt_min.2 ⟨by decide, Nat.div_pos hroom hpos⟩

/-- The state as the record of start-up is asked for. -/
def upState (ctrl : StoreState) (s : State) : State :=
  let s1 := installStartUp (s.withSaved { s.saved with ctrl := ctrl })
  let s2 := (((s1.withPower { s1.power with phase := .up }).withPanel (beginScanning s1.panel)).withDisp (startComposing s1.disp)).withLinks
    ⟨openLink s1.links.console, openLink s1.links.remote⟩
  (s2.withSetup { s1.setup with quiet := some Config.quietTime }).withSeq { s1.seq with run := .running }

theorem endScan_eq (ctrl : StoreState) (s : State) : ∃ lit, endScan ctrl s =
    litTo lit (((upState ctrl s).withStore (grantedStore 0 (upState ctrl s))).withSeq (grantedSeq 0 (upState ctrl s))) := by
  have hstart : ∃ lit, endScan ctrl s = requestSlot (litTo lit (upState ctrl s)) := by
    unfold endScan finishStartUp
    obtain ⟨lit, hl⟩ := evalLeds_litTo ((upState ctrl s).withSeq { (upState ctrl s).seq with run := s.seq.run })
    obtain ⟨lit', hr⟩ := setRun_eq .running (litTo lit ((upState ctrl s).withSeq { (upState ctrl s).seq with run := s.seq.run }))
    exact ⟨lit', (congrArg (fun u => requestSlot (setRun .running u)) hl).trans (congrArg requestSlot hr)⟩
  obtain ⟨lit, hs⟩ := hstart
  have hchoose : chooseSlot (litTo lit (upState ctrl s)) = some 0 := by
    refine chooseSlot_free ?_ fun m hm => absurd hm (Nat.not_lt_zero m)
    change (List.replicate (slotCount (recordBytesOf (startUpSetup _).1)) Slot.free)[0]? = some .free
    rw [List.getElem?_replicate, if_pos (slotCount_pos (startUpSetup_legal _))]
  obtain ⟨lit', hg⟩ := grantSlot_eq 0 (litTo lit (upState ctrl s))
  refine ⟨lit', ?_⟩
  rw [hs, requestSlot, hchoose]
  exact hg

/-! ### What the end of the scan installs and starts -/

/-- The values of slot 0 with VIEW.PAN 500, as a commit takes them (R28). -/
theorem setupRequest_viewPan (st : Setup) :
    setupRequest (st.put .viewPan 500) = allFields.map (fun f => (f, if f = .viewPan then 500 else st.get f)) := by
  refine List.map_congr_left fun f _ => ?_
  by_cases hf : f = .viewPan
  · rw [hf, Setup.get_put_same, if_pos rfl]
  · rw [Setup.get_put_other _ _ hf, if_neg hf]

section Installed
variable {s : State} {c : Setup}

theorem startUpSetup_candidate (h : ∃ st, s.saved.scanSetup = some st ∧ judge s.setup.live none
    (allFields.map (fun f => (f, if f = .viewPan then 500 else st.get f))) = .candidate c) : startUpSetup s = (c, true) := by
  obtain ⟨st, hst, hj⟩ := h
  rw [startUpSetup, hst]
  dsimp only
  rw [setupRequest_viewPan, hj]

theorem startUpSetup_factory (h : ∀ st c, s.saved.scanSetup = some st → judge s.setup.live none
    (allFields.map (fun f => (f, if f = .viewPan then 500 else st.get f))) ≠ .candidate c) :
    startUpSetup s = (factorySetup, false) := by
  unfold startUpSetup
  split
  · rfl
  · next st hst =>
    split
    · next c hj =>
      rw [setupRequest_viewPan] at hj
      exact absurd hj (h st c hst)
    · rfl

end Installed

/-- At the end of start-up every LED stands as its source gives. -/
theorem ledsFollow_endScan (ctrl : StoreState) (s : State) : ledsFollow (endScan ctrl s) :=
  (settles_requestSlot _).leds ((settles_setRun .running _).leds (evalLeds_follows _))

section Ended
variable (ctrl : StoreState) (s : State)

theorem endScan_saved : (endScan ctrl s).saved = { s.saved with
    ctrl := ctrl, slot0Gen := if (startUpSetup s).2 then 1#32 else 0#32, scanSlot := none, scanSetup := none, limit := none } := by
  obtain ⟨lit, he⟩ := endScan_eq ctrl s
  rw [he]
  rfl

theorem endScan_slot0Gen : (endScan ctrl s).saved.slot0Gen = if (startUpSetup s).2 then 1#32 else 0#32 := by
  have hsaved := endScan_saved ctrl s
  generalize startUpSetup s = pick at hsaved ⊢
  rw [hsaved]

theorem endScan_setup : (endScan ctrl s).setup = { s.setup with
    live := (startUpSetup s).1, gen := 1#32, changed := Vector.replicate 44 1#32,
    outputs := some (presentOutputs (startUpSetup s).1), quiet := some Config.quietTime } := by
  obtain ⟨lit, he⟩ := endScan_eq ctrl s
  rw [he]
  rfl

/-- The blocks that stage 5 starts. -/
theorem endScan_blocks : (endScan ctrl s).power = { s.power with phase := .up } ∧
    (endScan ctrl s).panel = beginScanning s.panel ∧ (endScan ctrl s).disp = startComposing s.disp ∧
    (endScan ctrl s).links = ⟨openLink s.links.console, openLink s.links.remote⟩ ∧ (endScan ctrl s).seq.run = .running := by
  obtain ⟨lit, he⟩ := endScan_eq ctrl s
  obtain ⟨-, -, -, -, -, -, -, -, -, -, -, -, hrun, -⟩ := grantedSeq_current 0 (upState ctrl s)
  rw [he]
  exact ⟨rfl, rfl, rfl, rfl, hrun⟩

/-- Every slot is FREE but for that of the record that the run start has begun. -/
theorem endScan_store : (endScan ctrl s).store.recordBytes = recordBytesOf (startUpSetup s).1 ∧
    (endScan ctrl s).store.slots = (List.replicate (slotCount (recordBytesOf (startUpSetup s).1)) .free).set 0
      (.filling (freshHeader s.store.next 1#32 (startUpSetup s).1)) := by
  obtain ⟨lit, he⟩ := endScan_eq ctrl s
  obtain ⟨-, -, -, -, hbytes⟩ := countReuse_kept ((upState ctrl s).store.slots.getD 0 .free) (upState ctrl s).store
  rw [he]
  exact ⟨hbytes, rfl⟩

end Ended

theorem beginScanning_ms (p : PanelScanner) : (beginScanning p).ms = p.ms := by simp only [beginScanning]

theorem beginScanning_keys (p : PanelScanner) (k : Fin 64) :
    (beginScanning p).keys[k] = { p.keys[k] with settled := p.keys[k].line, timer := none } := by
  simp [beginScanning]

theorem beginScanning_encs (p : PanelScanner) (e : Fin 12) : (beginScanning p).encs[e] =
    ⟨p.encs[e].lineA, p.encs[e].lineB, p.encs[e].lineA, p.encs[e].lineB, 0, p.encs[e].lineA && p.encs[e].lineB⟩ := by
  simp [beginScanning]

/-- The scan has ended: t is started from s. -/
structure StartedUp (ctrl : StoreState) (s t : State) : Prop where
  up : t.power.phase = .up
  ctrl : t.saved.ctrl = ctrl
  scanSlot : t.saved.scanSlot = none
  keys : ∀ k : Fin 64, t.panel.keys[k] = { s.panel.keys[k] with settled := s.panel.keys[k].line, timer := none }
  encs : ∀ e : Fin 12, t.panel.encs[e] = ⟨s.panel.encs[e].lineA, s.panel.encs[e].lineB, s.panel.encs[e].lineA,
    s.panel.encs[e].lineB, 0, s.panel.encs[e].lineA && s.panel.encs[e].lineB⟩
  ms : t.panel.ms = s.panel.ms
  installed : t.setup.live = (startUpSetup s).1 ∧ t.saved.slot0Gen = if (startUpSetup s).2 then 1#32 else 0#32
  legal : setupLegal t.setup.live = true
  gen : t.setup.gen = 1#32
  changed : ∀ f, t.setup.changed[fieldIndex f] = 1#32
  outputs : t.setup.outputs = some (presentOutputs t.setup.live)
  quiet : t.setup.quiet = some 2000000000
  recordBytes : t.store.recordBytes = recordBytesOf t.setup.live
  length : t.store.slots.length = min 16 (67108864 / t.store.recordBytes)
  run : t.seq.run = .running
  slots : ∃ h, t.store.slots[0]? = some (.filling h) ∧ h.number = s.store.next ∧ h.gen = 1#32 ∧
    ∀ n sl, 0 < n → t.store.slots[n]? = some sl → sl = .free
  frameTimer : t.disp.frameTimer = some 16666667
  link : t.disp.link = if s.disp.present = true then (if s.disp.lock = true then .locked else .training) else .absent
  lit : ∀ j : Fin 32, t.router.lit[j] = ledLevel t.router.leds[j] t
  links : ∀ l, t.links.get l = { s.links.get l with opened := true, ready := !(s.links.get l).resetLine }

theorem startedUp_endScan (ctrl : StoreState) (s : State) : StartedUp ctrl s (endScan ctrl s) := by
  obtain ⟨hpower, hpanel, hdisp, hlinks, hrun⟩ := endScan_blocks ctrl s
  obtain ⟨hbytes, hslots⟩ := endScan_store ctrl s
  have hsetup := endScan_setup ctrl s
  have hsaved := endScan_saved ctrl s
  have hlive : (endScan ctrl s).setup.live = (startUpSetup s).1 := by rw [hsetup]
  have hup : (endScan ctrl s).power.phase = .up := by rw [hpower]
  refine
    { up := hup
      ctrl := congrArg SavedStore.ctrl hsaved
      scanSlot := congrArg SavedStore.scanSlot hsaved
      keys := fun k => ?keys
      encs := fun e => ?encs
      ms := ?ms
      installed := ⟨hlive, endScan_slot0Gen ctrl s⟩
      legal := hlive ▸ startUpSetup_legal s
      gen := congrArg SetupBlock.gen hsetup
      changed := fun f => ?changed
      outputs := hlive ▸ congrArg SetupBlock.outputs hsetup
      quiet := congrArg SetupBlock.quiet hsetup
      recordBytes := hlive ▸ hbytes
      length := ?length
      run := hrun
      slots := ⟨freshHeader s.store.next 1#32 (startUpSetup s).1, ?first, rfl, rfl, fun n sl hn hsl => ?others⟩
      frameTimer := congrArg Composer.frameTimer hdisp
      link := congrArg Composer.link hdisp
      lit := ledsFollow_endScan ctrl s hup
      links := fun l => ?links }
  case ms => rw [hpanel, beginScanning_ms]
  case keys =>
    rw [hpanel]
    exact beginScanning_keys s.panel k
  case encs =>
    rw [hpanel]
    exact beginScanning_encs s.panel e
  case changed =>
    rw [hsetup]
    exact Vector.getElem_replicate _
  case length =>
    rw [hslots, hbytes, List.length_set, List.length_replicate]
    rfl
  case first =>
    rw [hslots, List.getElem?_set, if_pos rfl, List.length_replicate, if_pos (slotCount_pos (startUpSetup_legal s))]
  case others =>
    rw [hslots, List.getElem?_set, if_neg (Nat.ne_of_lt hn)] at hsl
    exact List.eq_of_mem_replicate (List.mem_of_getElem? hsl)
  case links =>
    rw [hlinks]
    cases l <;> rfl

/-! ### O60 -/

theorem factoryPalette_grey (i : Fin 255) : factoryPalette[i] =
    ⟨BitVec.ofNat 8 (i.val + 1), BitVec.ofNat 8 (i.val + 1), BitVec.ofNat 8 (i.val + 1)⟩ := by
  simp [factoryPalette]

/-- A read of slots 0 to 10, and the scan goes on. -/
theorem scanRead_next {n : Fin 12} (img : Image) (s : State) (hn : n.val < 11) : scanRead n img s = s.withSaved { s.saved with
    directory := s.saved.directory.set n (classify img), scanSetup := setupScanned n img s,
    scanSlot := some ⟨n.val + 1, by omega⟩, limit := some Config.accessTime } := by
  rw [scanRead_eq, scanOn_next _ hn]
  rfl

/-- The last read, and the scan ends. -/
theorem scanRead_last {n : Fin 12} (img : Image) (s : State) (hn : n.val = 11) : scanRead n img s =
    endScan .idle (s.withSaved { s.saved with directory := s.saved.directory.set n (classify img) }) := by
  have hset : setupScanned n img s = s.saved.scanSetup := if_neg fun h => by omega
  rw [scanRead_eq, scanOn_last _ hn, hset]

theorem scanFault_next {n : Fin 12} (s : State) (h0 : n.val ≠ 0) : scanFault n s = scanOn n s := if_neg h0

theorem scanFault_first {n : Fin 12} (s : State) (h0 : n.val = 0) : scanFault n s = endScan .absent s := if_pos h0

theorem scanSlot_of_val {s : State} {k : Nat} (h : s.saved.scanSlot.map Fin.val = some k) :
    ∃ n : Fin 12, s.saved.scanSlot = some n ∧ n.val = k := Option.map_eq_some_iff.1 h

/-- What ends the scan, with the directory that it leaves. -/
theorem scan_ends {i : Instr} {ctrl : StoreState} {s : State}
    (h : ((s.saved.scanSlot.map Fin.val) = some 11 ∧ (∃ img, i = .eepromReadComplete img) ∧ ctrl = .idle) ∨
      ((s.saved.scanSlot.map Fin.val) = some 11 ∧ i = .eepromAccessFault ∧ ctrl = .idle) ∨
      ((s.saved.scanSlot.map Fin.val) = some 0 ∧ i = .eepromAccessFault ∧ ctrl = .absent)) :
    ∃ dir, exec i s = .next (endScan ctrl (s.withSaved { s.saved with directory := dir })) ∧
      (∀ img, i = .eepromReadComplete img → dir = s.saved.directory.set 11 (classify img)) ∧
      (i = .eepromAccessFault → dir = s.saved.directory) := by
  rcases h with ⟨hs, ⟨img, rfl⟩, rfl⟩ | ⟨hs, rfl, rfl⟩ | ⟨hs, rfl, rfl⟩ <;> obtain ⟨n, hn, hval⟩ := scanSlot_of_val hs
  · obtain rfl : n = 11 := Fin.ext hval
    refine ⟨_, (exec_scanRead hn).trans (congrArg Host.Outcome.next (scanRead_last img s rfl)), fun img' he => ?_,
      fun he => by cases he⟩
    cases he
    rfl
  · exact ⟨s.saved.directory, by rw [exec_scanFault hn, scanFault_next s (by omega), scanOn_last s hval]; rfl,
      fun _ he => (by cases he), fun _ => rfl⟩
  · exact ⟨s.saved.directory, by rw [exec_scanFault hn, scanFault_first s hval]; rfl, fun _ he => (by cases he), fun _ => rfl⟩

/-- Settles O60: POWER_ON by its start-up values, a read by what it leaves of its slot, the end of the scan by `startedUp_endScan`. -/
theorem startUpScansAndStarts : Obligations.StartUpScansAndStarts := by
  intro straps s
  refine ⟨⟨startUpPowerOn straps s, rfl, ?powerOn⟩, fun n img hn hlt => ⟨⟨_, (exec_scanRead hn).trans
    (congrArg Host.Outcome.next (scanRead_next img s hlt)), rfl, rfl, rfl, rfl, rfl, rfl⟩, fun h0 => ?faulted⟩, fun i ctrl h => ?ended⟩
  case powerOn =>
    exact ⟨rfl, strapAddress straps, rfl, rfl, rfl, rfl, rfl, rfl, rfl, fun n => Vector.getElem_replicate _, rfl,
      fun l => by cases l <;> rfl, rfl, rfl, rfl, rfl, rfl, rfl, rfl, rfl, rfl, rfl, rfl, rfl,
      fun l => by cases l <;> exact ⟨rfl, rfl, rfl, rfl⟩, rfl, rfl, rfl, rfl, rfl, rfl, fun i => Vector.getElem_replicate _,
      rfl, rfl, rfl, rfl, rfl, rfl, factoryPalette_grey, rfl, rfl, fun l => by cases l <;> rfl, fun l => by cases l <;> rfl, rfl⟩
  case faulted =>
    refine ⟨_, (exec_scanFault hn).trans (congrArg Host.Outcome.next ((scanFault_next s h0).trans (scanOn_next s hlt))), rfl, rfl,
      rfl, rfl⟩
  case ended =>
    obtain ⟨dir, hexec, hread, hfault⟩ := scan_ends h
    have hdir := congrArg SavedStore.directory (endScan_saved ctrl (s.withSaved { s.saved with directory := dir }))
    have ht := startedUp_endScan ctrl (s.withSaved { s.saved with directory := dir })
    generalize endScan ctrl (s.withSaved { s.saved with directory := dir }) = t at hexec hdir ht
    obtain ⟨hlive, hgen0⟩ := ht.installed
    have hpick : startUpSetup (s.withSaved { s.saved with directory := dir }) = startUpSetup s := rfl
    rw [hpick] at hlive hgen0
    refine ⟨t, hexec, ht.up, ht.ctrl, ht.scanSlot, fun img he => hdir.trans (hread img he), fun he => hdir.trans (hfault he), ht.keys,
      ht.encs, ht.ms, fun c hc => ?_, fun hno => ?_, ht.legal, ht.gen, ht.changed, ht.outputs, ht.quiet, ht.recordBytes, ht.length,
      ht.run, ht.slots, ht.frameTimer, ht.link, ht.lit, ht.links⟩
    · rw [hlive, hgen0, startUpSetup_candidate hc]
      exact ⟨rfl, rfl⟩
    · rw [hlive, hgen0, startUpSetup_factory hno]
      exact ⟨rfl, rfl⟩

end Sys2Proof.Machine
end
